-- ==== Sys2Proof/Word.lean ====
section
/-! DEFINITION. The words of the PK2440: bytes on the wire and 16-bit cycle numbers. -/

namespace Sys2Proof

/-- A byte (00_scope.md, Section 6). -/
abbrev Byte := BitVec 8

/-- A cycle number, 0..65535, that wraps and is compared modulo 65 536 (00_scope.md, Section 6). -/
abbrev Cycle := BitVec 16

end Sys2Proof
end

