-- ==== Sys2Proof/Syntax.lean ====
section
/-! DEFINITION. The commands of the PK2440: one constructor for each row of spec/opcode_table.json,
with the operands the spec gives the event. Instants are in nanoseconds. -/

namespace Sys2Proof

/-- The five lines: the trunk T and the branches B0 to B3 (00_scope.md, Section 6). -/
inductive Line where
  | t | b0 | b1 | b2 | b3
deriving DecidableEq, Repr

/-- The four branch lines. -/
inductive Branch where
  | b0 | b1 | b2 | b3
deriving DecidableEq, Repr

/-- The four classes of a line's egress queues, where class 3 is the highest (R87). -/
inductive Class where
  | c0 | c1 | c2 | c3
deriving DecidableEq, Repr

/-- The fields of a management request record beside its op (Section 1.12). `entries` is all
that follows offset 10: the entries of a STAGE, and nothing in any other well-formed request. -/
structure Request where
  node    : Byte
  tag     : BitVec 16
  unit    : Byte
  index   : BitVec 16
  count   : Byte
  argA    : Byte
  argB    : BitVec 16
  entries : List Byte
deriving DecidableEq, Repr

/-- The commands. An expiry or a branch completion carries no instant: it falls at the instant
the part itself fixed, which stands in the state. -/
inductive Instr where
  /-- The reset input is asserted (00_scope.md, Section 9). -/
  | powerOnReset (now : Nat)
  /-- The reset input is released with the strap pins at these levels, first strap highest. -/
  | resetRelease (now : Nat) (straps : BitVec 6)
  /-- The end of a frame other than DATA is marked on the trunk; `frame` is its run of bytes. -/
  | trunkCycleArrival (now : Nat) (frame : List Byte)
  /-- The lock-window expiry is reached (R80). -/
  | lockWindowExpiry
  /-- The local-cycle expiry is reached (R81). -/
  | localCycleExpiry
  /-- The end of a frame other than CYCLE is marked on the trunk; `frame` is its run of bytes. -/
  | trunkDataArrival (now : Nat) (frame : List Byte)
  /-- The controller's READ request arrives (R173). -/
  | read (now : Nat) (req : Request)
  /-- The controller's STAGE request arrives (R159). -/
  | stage (now : Nat) (req : Request)
  /-- The controller's DISCARD request arrives (R161). -/
  | discard (now : Nat) (req : Request)
  /-- The controller's COMMIT request arrives (R162). -/
  | commit (now : Nat) (req : Request)
  /-- The controller's SET_LINE request arrives (R174). -/
  | setLine (now : Nat) (req : Request)
  /-- The controller's CLEAR request arrives (R174). -/
  | clear (now : Nat) (req : Request)
  /-- The controller's TAKE_EVENTS request arrives (R175). -/
  | takeEvents (now : Nat) (req : Request)
  /-- The controller's RESTART request arrives (R177). -/
  | restart (now : Nat) (req : Request)
  /-- The trunk interface reports the end of the transmission in progress (R13, R100). -/
  | trunkTransmissionComplete (now : Nat)
  /-- The shaper release expiry of a class of a line is reached (R97). -/
  | shaperReleaseExpiry (line : Line) (cls : Class)
  /-- A frame whose start was marked at `start` has its end marked at `now` on a branch. -/
  | branchFrameArrival (branch : Branch) (start now : Nat) (frame : List Byte)
  /-- The reply timeout expiry of the branch's waiting attempt is reached (R128). -/
  | replyTimeout (branch : Branch)
  /-- The last byte of the branch's frame in transmission has been sent (R13). -/
  | branchTransmissionComplete (branch : Branch)
deriving DecidableEq, Repr

end Sys2Proof
end

