-- ==== Sys2Proof/Config.lean ====
section
/-! DEFINITION. What the part fixes (sizes and limits the spec states once for all), and the one
free value the spec leaves open. -/

namespace Sys2Proof.Config

/-- The Buffer Pool holds 512 blocks (R57). -/
def poolBlocks : Nat := 512

/-- A block holds 128 bytes (R57); a branch frame and so a segment carries at most as many. -/
def blockBytes : Nat := 128

/-- The trunk receive buffer holds 1033 bytes (R2). -/
def trunkBuffer : Nat := 1033

/-- A branch receive buffer holds 137 bytes (R2). -/
def branchBuffer : Nat := 137

/-- The largest payload of a trunk frame (R3). -/
def maxPayload : Nat := 1024

/-- The CID of the management circuit (00_scope.md, Section 7). -/
def managementCid : Nat := 4095

/-- The largest value of a 32-bit counter, where it stays (00_scope.md, Section 6). -/
def counterMax : Nat := 4294967295

/-- At most 16 reassembly contexts exist (R147). -/
def maxContexts : Nat := 16

/-- The request queue holds 0..4 records (R169). -/
def maxRequests : Nat := 4

/-- The event list holds 0..32 records (R169). -/
def maxEvents : Nat := 32

/-- The Pending Change List holds at most 64 entries (R158). -/
def maxStaged : Nat := 64

/-- A release that leaves this many blocks free arms POOL_EMPTY again (R70). -/
def rearmBlocks : Nat := 32

/-- A COMMIT's target lies at most this far ahead of the current cycle (R162). -/
def maxTargetDistance : Nat := 4096

/-- FREE VALUE, log 12. R102 lets the lateness of a trunk slot and the application of a commit
that reconfigures it be taken in either order at one cycle start. The n-th such meeting takes the
lateness first exactly when `latenessFirst n`; no body, so nothing can be proved of its value. -/
opaque latenessFirst : Nat → Bool

end Sys2Proof.Config
end

