-- ==== Sys2Proof/Machine/Table.lean ====
section
/-! DEFINITION. Sparse tables keyed by numbers, and records with one value for each line, branch
or class. The part's units have up to 4095 entries, nearly all at their power-on value: a table
lists the others alone, in ascending key order. -/

namespace Sys2Proof

/-- A sparse table: cells of key and value. -/
structure Table (α : Type) where
  cells : List (Nat × α)
deriving DecidableEq, Repr

namespace Table

variable {α : Type}

/-- The table that lists nothing. -/
def empty : Table α := ⟨[]⟩

/-- The value of the first cell with this key. -/
def lookup : List (Nat × α) → Nat → Option α
  | [], _ => none
  | (k, v) :: cs, i => if k = i then some v else lookup cs i

/-- The cells with one written in its place in key order. -/
def place : List (Nat × α) → Nat → α → List (Nat × α)
  | [], i, v => [(i, v)]
  | (k, w) :: cs, i, v =>
    if i < k then (i, v) :: (k, w) :: cs
    else if i = k then (i, v) :: cs
    else (k, w) :: place cs i v

/-- What the table lists at a key, if anything. -/
def find? (t : Table α) (i : Nat) : Option α := lookup t.cells i

/-- What the table holds at a key, with the value of every key it does not list. -/
def get (t : Table α) (d : α) (i : Nat) : α := (t.find? i).getD d

/-- The table with one key listed at a value. -/
def insert (t : Table α) (i : Nat) (v : α) : Table α := ⟨place t.cells i v⟩

/-- The table with one key no longer listed. -/
def erase (t : Table α) (i : Nat) : Table α := ⟨t.cells.filter fun c => c.1 != i⟩

/-- A write that keeps the form: the value of an unlisted key is not listed. -/
def put [DecidableEq α] (t : Table α) (d : α) (i : Nat) (v : α) : Table α :=
  if v = d then t.erase i else t.insert i v

/-- The keys listed. -/
def keys (t : Table α) : List Nat := t.cells.map Prod.fst

/-- The keys rise strictly, so each is listed once. -/
def sorted (t : Table α) : Prop := t.keys.Pairwise (· < ·)

end Table

/-- One value for each of the five lines. -/
structure PerLine (α : Type) where
  t  : α
  b0 : α
  b1 : α
  b2 : α
  b3 : α
deriving DecidableEq, Repr

/-- One value for each of the four branches. -/
structure PerBranch (α : Type) where
  b0 : α
  b1 : α
  b2 : α
  b3 : α
deriving DecidableEq, Repr

/-- One value for each of the four classes. -/
structure PerClass (α : Type) where
  c0 : α
  c1 : α
  c2 : α
  c3 : α
deriving DecidableEq, Repr

namespace PerLine

variable {α : Type}

def all (v : α) : PerLine α := ⟨v, v, v, v, v⟩

def get (p : PerLine α) : Line → α
  | .t => p.t
  | .b0 => p.b0
  | .b1 => p.b1
  | .b2 => p.b2
  | .b3 => p.b3

def set (p : PerLine α) (l : Line) (v : α) : PerLine α :=
  match l with
  | .t => { p with t := v }
  | .b0 => { p with b0 := v }
  | .b1 => { p with b1 := v }
  | .b2 => { p with b2 := v }
  | .b3 => { p with b3 := v }

end PerLine

namespace PerBranch

variable {α : Type}

def all (v : α) : PerBranch α := ⟨v, v, v, v⟩

def get (p : PerBranch α) : Branch → α
  | .b0 => p.b0
  | .b1 => p.b1
  | .b2 => p.b2
  | .b3 => p.b3

def set (p : PerBranch α) (k : Branch) (v : α) : PerBranch α :=
  match k with
  | .b0 => { p with b0 := v }
  | .b1 => { p with b1 := v }
  | .b2 => { p with b2 := v }
  | .b3 => { p with b3 := v }

end PerBranch

namespace PerClass

variable {α : Type}

def all (v : α) : PerClass α := ⟨v, v, v, v⟩

def get (p : PerClass α) : Class → α
  | .c0 => p.c0
  | .c1 => p.c1
  | .c2 => p.c2
  | .c3 => p.c3

def set (p : PerClass α) (c : Class) (v : α) : PerClass α :=
  match c with
  | .c0 => { p with c0 := v }
  | .c1 => { p with c1 := v }
  | .c2 => { p with c2 := v }
  | .c3 => { p with c3 := v }

end PerClass

namespace Line

/-- The lines in the order of their numbers. -/
def all : List Line := [.t, .b0, .b1, .b2, .b3]

/-- T is 0 and B0 to B3 are 1 to 4 (00_scope.md, Section 6). -/
def toNat : Line → Nat
  | .t => 0
  | .b0 => 1
  | .b1 => 2
  | .b2 => 3
  | .b3 => 4

def ofIndex : Nat → Line
  | 0 => .t
  | 1 => .b0
  | 2 => .b1
  | 3 => .b2
  | _ => .b3

/-- The branch that a line is, if it is one. -/
def branch? : Line → Option Branch
  | .t => none
  | .b0 => some .b0
  | .b1 => some .b1
  | .b2 => some .b2
  | .b3 => some .b3

end Line

namespace Branch

/-- The branches in order. -/
def all : List Branch := [.b0, .b1, .b2, .b3]

def line : Branch → Line
  | .b0 => .b0
  | .b1 => .b1
  | .b2 => .b2
  | .b3 => .b3

/-- The branch number of the unit index formulas, 0 for B0 to 3 for B3 (R155). -/
def toNat : Branch → Nat
  | .b0 => 0
  | .b1 => 1
  | .b2 => 2
  | .b3 => 3

def ofIndex : Nat → Branch
  | 0 => .b0
  | 1 => .b1
  | 2 => .b2
  | _ => .b3

end Branch

namespace Class

/-- The classes from 0 up. -/
def all : List Class := [.c0, .c1, .c2, .c3]

def toNat : Class → Nat
  | .c0 => 0
  | .c1 => 1
  | .c2 => 2
  | .c3 => 3

def ofIndex : Nat → Class
  | 0 => .c0
  | 1 => .c1
  | 2 => .c2
  | _ => .c3

end Class

end Sys2Proof
end

