-- ==== Sys2Proof/Machine/State.lean ====
section
/-! DEFINITION. The state of the PK2440: every register, table, queue, buffer, counter, mode and
pin the spec names, as plain data; the queue of commands; and the state after reset. Instants are
natural numbers of nanoseconds. -/

namespace Sys2Proof.Machine

/-- The model has no fault: no rule of the spec stops the part. Every error the spec describes is
counted, flagged, captured, answered or raised as an event, and the part goes on. -/
inductive Fault where
deriving DecidableEq, Repr

/-- Why a step has no meaning. -/
inductive Refusal where
  /-- Raised by an arm of `exec` whose meaning is not written yet; no arm of this model is one.
  Safe: a step that is refused shows no behaviour. -/
  | notModelled (mnemonic : String)
deriving DecidableEq, Repr

/-! ### Line interfaces (Chapter 1) -/

/-- T's admission states (R14). -/
inductive TrunkAdmission where
  | mgmtOnly | opened
deriving DecidableEq, Repr

/-- A branch's admission states (Section 1.10), in the order of R173. -/
inductive BranchAdmission where
  | shut | opened | shutting
deriving DecidableEq, Repr

/-- What the capture record holds beside its error count (R10): seven header bytes and the cycle
number at the frame's arrival. -/
structure Captured where
  bytes : List Byte
  cycle : Cycle
deriving DecidableEq, Repr

/-- The capture record of a line (R10). -/
structure Capture where
  filled     : Option Captured
  errorCount : Nat
deriving DecidableEq, Repr

/-- The receive buffer of a line (R2): the bytes stored, up to the buffer's size, and the count of
all bytes received for the frame. -/
structure RxBuffer where
  stored : List Byte
  count  : Nat
deriving DecidableEq, Repr

/-- The state of one line interface (R1); the 41 counters are keyed by their order in R173. -/
structure LineIf where
  headerError  : Bool
  payloadError : Bool
  capture      : Capture
  counters     : Table Nat
  rx           : RxBuffer
deriving DecidableEq, Repr

/-- The counters of a Line Counters entry, in the order of R173. -/
inductive LineCounter where
  | framesReceived | framesSent | headerErrors | payloadErrors | ignoredBytes | earlyCycle
  | admission | unknown | wrongLine | wrongStation | wrongKind | oversize | egressClosed
  | lineLimit | sharedLimit | poolEmpty | red | thinned
  | superseded | late | flushed | reconfigured | stationGone | busyLimit
  | cyclesBegun | overrun | missed | skipped | retries | protocolError
  | duplicate | busySent | busyReceived | unexpected
  | reassembled | orphan | malformed | restartedByFirst | timeout | contextFlushed | unconfigured
deriving DecidableEq, Repr

/-- The counters of a Circuit Counters entry, in the order of R44. -/
inductive CircuitCounter where
  | acceptedFrames | acceptedBytes
  | admission | wrongLine | wrongStation | wrongKind | oversize | egressClosed
  | lineLimit | sharedLimit | poolEmpty | red | thinned
  | superseded | late | flushed | reconfigured | stationGone | busyLimit
deriving DecidableEq, Repr

/-- The counters of a Station Status entry, in the order of R127. -/
inductive StationCounter where
  | failedTransactions | faultReplies | protocolError | missed | skipped | duplicate
  | busySent | busyReceived | unexpected
deriving DecidableEq, Repr

/-- The reasons for which a frame is discarded or released early (R40, R88). -/
inductive Reason where
  | admission | unknown | wrongLine | wrongStation | wrongKind | oversize | egressClosed
  | lineLimit | sharedLimit | poolEmpty | red | thinned
  | superseded | late | flushed | reconfigured | stationGone | busyLimit
deriving DecidableEq, Repr

/-! ### The tables in force (Chapters 2, 3, 5, 6, 7, 8, 10) -/

/-- The two kinds of circuit (R23), in the order of Section 1.12. -/
inductive CircuitKind where
  | periodic | aperiodic
deriving DecidableEq, Repr

/-- Where the class of an APERIODIC frame comes from (R23). -/
inductive ClassSource where
  | fixed | mapped
deriving DecidableEq, Repr

/-- A present entry of the Circuit Table (R23). A meter of `none` is NONE; an egress CID of `none`
is SAME. -/
structure Circuit where
  kind           : CircuitKind
  ingressLine    : Line
  ingressStation : Option Nat
  egress         : PerLine Bool
  egressStation  : Option Nat
  classSource    : ClassSource
  fixedClass     : Class
  meter          : Option Nat
  egressCid      : Option Nat
  maxLength      : Nat
deriving DecidableEq, Repr

/-- A meter's mode (R45). -/
inductive MeterMode where
  | pass | meter
deriving DecidableEq, Repr

/-- What is done with a YELLOW frame (R45). -/
inductive YellowPolicy where
  | forward | thin
deriving DecidableEq, Repr

/-- What is done with a RED frame (R45). -/
inductive RedPolicy where
  | drop | forward
deriving DecidableEq, Repr

/-- A meter's settings (R45). -/
structure MeterSettings where
  mode   : MeterMode
  cir    : Nat
  cbs    : Nat
  ebs    : Nat
  yellow : YellowPolicy
  red    : RedPolicy
deriving DecidableEq, Repr

/-- An active entry of the Poll Schedule (R155). -/
structure SchedEntry where
  station : Nat
  period  : Nat
  phase   : Nat
  output  : Option Nat
  input   : Option Nat
deriving DecidableEq, Repr

/-- An entry of the Station Configuration (R125). -/
structure StationConfig where
  configured : Bool
  service    : Bool
deriving DecidableEq, Repr

/-- Which header error the capture record keeps (R10, R156). -/
inductive CaptureMode where
  | first | latest
deriving DecidableEq, Repr

/-- How a selection decides between sources (R91). -/
inductive EgressMode where
  | strict | weighted
deriving DecidableEq, Repr

/-- A Line Settings entry, its fields in the order of R156. -/
structure LineSettings where
  captureMode    : CaptureMode
  dropLevel      : Nat
  egressMode     : EgressMode
  weights        : PerClass Nat
  serviceWeight  : Nat
  rates          : PerClass Nat
  byteTime       : Nat
  replyTimeout   : Nat
  retryLimit     : Nat
  reserve        : Nat
  busyLimit      : Nat
  faultThreshold : Nat
  probeInterval  : Nat
deriving DecidableEq, Repr

/-- The Device Settings entry, its fields in the order of R157. -/
structure DeviceSettings where
  nodeAddress       : Nat
  attentionEnable   : Bool
  sharedLevel       : Nat
  reassemblyTimeout : Nat
  d                 : Nat
  w                 : Nat
  n                 : Nat
  g                 : Nat
deriving DecidableEq, Repr

/-- The contents of the loadable units that the blocks consult (R155). Entries not listed in a
sparse table have their power-on value: absent, inactive, PASS, not configured. -/
structure Tables where
  circuits   : Table Circuit
  meters     : Table MeterSettings
  schedule   : Table SchedEntry
  stations   : Table StationConfig
  lines      : PerLine LineSettings
  priorities : List Class
  thinning   : List Nat
  device     : DeviceSettings
deriving DecidableEq, Repr

/-! ### Meter Bank (Chapter 3) -/

/-- A meter's two buckets and three colour counters (R46, R48). -/
structure MeterState where
  committed : Nat
  excess    : Nat
  green     : Nat
  yellow    : Nat
  red       : Nat
deriving DecidableEq, Repr

/-- The result of metering a frame (R47). -/
inductive Colour where
  | green | yellow | red
deriving DecidableEq, Repr

/-! ### Buffer Pool (Chapter 4) -/

/-- A held block: its number in 0..511 and the bytes it holds, at most 128 (R57, R58). -/
structure Block where
  number : Nat
  data   : List Byte
deriving DecidableEq, Repr

/-- A held frame and its descriptor (R59). A frame is named by the number of its first block, with
which the descriptor travels. -/
structure Frame where
  chain     : List Block
  length    : Nat
  cid       : Nat
  priority  : Nat
  ingress   : Line
  refs      : Nat
  shared    : Bool
  fillCycle : Option Cycle
deriving DecidableEq, Repr

/-- The Buffer Pool (R57, R66, R68, R70): the free blocks, the held frames, the counts, and
whether POOL_EMPTY is armed. -/
structure Pool where
  free        : List Nat
  frames      : Table Frame
  usage       : PerLine Nat
  sharedCount : Nat
  emptyArmed  : Bool
deriving DecidableEq, Repr

/-! ### Cycle Timer (Chapter 5) -/

/-- The timer states, in the order of R75. -/
inductive TimerState where
  | unlocked | locked | coasting | free
deriving DecidableEq, Repr

/-- The one pending expiry (R75), fixed at the cycle start with the early threshold of the cycle
where the timer is LOCKED (R74). -/
inductive Expiry where
  | lockWindow (early due : Nat)
  | localCycle (due : Nat)
deriving DecidableEq, Repr

/-- The Cycle Timer (R75). -/
structure Timer where
  state     : TimerState
  cycle     : Cycle
  miss      : Nat
  lastStart : Option Nat
  expiry    : Option Expiry
deriving DecidableEq, Repr

/-! ### Egress Queues and the Trunk Transmitter (Chapter 6) -/

/-- A class queue entry (R87). T's entries have no egress station, and their busy count and next
segment index stay as placed. -/
structure Entry where
  frame       : Nat
  egressCid   : Nat
  station     : Option Nat
  busy        : Nat
  nextSegment : Nat
deriving DecidableEq, Repr

/-- The selection credits of a line (R92). The service credit of T is no credit of the spec and is
never read (log 19). -/
structure Credits where
  cls     : PerClass Nat
  service : Nat
deriving DecidableEq, Repr

/-- The class queues of a line, its credits, and for each class the shaper release expiry pending,
which is the class's hold (R87, R92, R96). -/
structure Egress where
  queues  : PerClass (List Entry)
  credits : Credits
  release : PerClass (Option Nat)
deriving DecidableEq, Repr

/-- A management record in the response slot: its bytes, and whether it is the response whose
transmission completion makes a restart take place (R169, R177). -/
structure MgmtRecord where
  bytes     : List Byte
  isRestart : Bool
deriving DecidableEq, Repr

/-- What the Trunk Transmitter sends (R99). -/
inductive TrunkHolds where
  | record (isRestart : Bool)
  | frame (ref : Nat)
deriving DecidableEq, Repr

/-- The trunk transmission in progress: what it holds and its bytes on the wire (R99, log 22). -/
structure TrunkSending where
  holds : TrunkHolds
  wire  : List Byte
deriving DecidableEq, Repr

/-! ### Branch Sequencers (Chapter 7) -/

/-- The sequencer states, in the order of R105. -/
inductive SeqState where
  | waiting | periodic | aperiodic | done
deriving DecidableEq, Repr

/-- The status of an element of the transaction list (R109). -/
inductive ElementStatus where
  | pending | completed | failed | missed | skipped
deriving DecidableEq, Repr

/-- An element of the transaction list (R109). -/
structure Element where
  index   : Nat
  station : Nat
  output  : Option Nat
  input   : Option Nat
  status  : ElementStatus
deriving DecidableEq, Repr

/-- The kind of the transaction in flight with the fields its kind has (R112). An EXCHANGE keeps
the CID and priority its request carries, taken at the first attempt (R132). -/
inductive Txn where
  | exchange (element : Nat) (output input outputFrame : Option Nat) (cid priority : Nat)
  | deliver (cls : Class) (segment : Nat)
  | service
  | probe
deriving DecidableEq, Repr

/-- The in-flight record (R112). -/
structure InFlight where
  txn       : Txn
  station   : Nat
  worst     : Nat
  attempt   : Nat
  replyWait : Option Nat
  received  : Option Nat
deriving DecidableEq, Repr

/-- What a branch frame in transmission is (R105). -/
inductive TxRole where
  | cycle | request | answer
deriving DecidableEq, Repr

/-- A branch frame in transmission: its role, the instants of its start and of its completion
(R13), and its bytes on the wire (log 22). -/
structure BranchSending where
  role   : TxRole
  starts : Nat
  ends   : Nat
  wire   : List Byte
deriving DecidableEq, Repr

/-- A Branch Sequencer (R105); its selection credits are with the branch's queues. -/
structure Sequencer where
  state        : SeqState
  cycle        : Cycle
  deadline     : Option Nat
  list         : List Element
  inFlight     : Option InFlight
  sending      : Option BranchSending
  pendingStart : Option (Cycle × Nat)
  holds        : PerClass Bool
  delivering   : Option Class
  lastServiced : Nat
deriving DecidableEq, Repr

/-! ### Station Tables (Chapter 8) and the Reassembly Unit (Chapter 9) -/

/-- The station states, in the order of R126. -/
inductive StationState where
  | absent | active | suspect | faulted
deriving DecidableEq, Repr

/-- The dynamic state of a station (R126) and its counters (R127). A toggle of 1 is `true`. -/
structure Station where
  state          : StationState
  failureCount   : Nat
  resyncPending  : Bool
  downToggle     : Bool
  upExpected     : Bool
  probeCountdown : Nat
  lastFaultCode  : Nat
  serviced       : Bool
  counters       : Table Nat
deriving DecidableEq, Repr

/-- A reassembly context (R147). -/
structure Context where
  branch     : Branch
  station    : Nat
  cid        : Nat
  priority   : Nat
  blocks     : List Block
  startCycle : Cycle
deriving DecidableEq, Repr

/-! ### Change Unit (Chapter 10) and Management Endpoint (Chapter 11) -/

/-- The change states, in the order of Section 1.12. -/
inductive ChangeState where
  | empty | staging | armed
deriving DecidableEq, Repr

/-- The action of a Pending Change List entry (R158): the staged content is the entry's bytes. -/
inductive Action where
  | content (bytes : List Byte)
  | remove
deriving DecidableEq, Repr

/-- An entry of the Pending Change List (R158). -/
structure Staged where
  unit   : Nat
  index  : Nat
  action : Action
deriving DecidableEq, Repr

/-- The Change Unit beside the tables in force (R158). -/
structure Change where
  state      : ChangeState
  list       : List Staged
  target     : Option Cycle
  generation : BitVec 16
deriving DecidableEq, Repr

/-- The event kinds, in the order of R175. -/
inductive EventKind where
  | cycleLocked | cycleCoasting | cycleFree | cycleSlip
  | stationSuspect | stationFaulted | stationRecovered
  | commitApplied | commitAbandoned | lineShut | headerCapture | poolEmpty | restarted
deriving DecidableEq, Repr

/-- An event record (R175). -/
structure Event where
  kind    : EventKind
  cycle   : Cycle
  line    : Option Line
  station : Option Nat
  detail  : Nat
deriving DecidableEq, Repr

/-- The request in progress (R169): a held SET_LINE of a branch with what its response echoes, the
same request with its response built (R171), or a RESTART. -/
inductive InProgress where
  | setLine (branch : Branch) (op : Byte) (tag : List Byte)
  | ready (response : List Byte)
  | restart
deriving DecidableEq, Repr

/-- The Management Endpoint (R169). -/
structure Endpoint where
  queue          : List (List Byte)
  slot           : Option MgmtRecord
  inProgress     : Option InProgress
  events         : List Event
  eventsLost     : Bool
  mgmtOverrun    : Bool
  attnOutstanding : Bool
  attnPending    : Bool
  overrunCount   : Nat
  notMineCount   : Nat
deriving DecidableEq, Repr

/-! ### The part -/

/-- The whole part. `now` is the instant of the event being taken and `choices` counts the free
choices drawn: both are the model's own (log 1, log 12). `openedAt` is the instant at which a
branch last left SHUT, which R20 implies (log 8). -/
structure Device where
  now          : Nat
  inReset      : Bool
  choices      : Nat
  lines        : PerLine LineIf
  trunkAdm     : TrunkAdmission
  branchAdm    : PerBranch BranchAdmission
  openedAt     : PerBranch Nat
  accumulators : PerLine Nat
  meters       : Table MeterState
  circuitCounters : Table (Table Nat)
  pool         : Pool
  timer        : Timer
  egress       : PerLine Egress
  slots        : Table Nat
  trunkTx      : Option TrunkSending
  seqs         : PerBranch Sequencer
  stations     : Table Station
  contexts     : List Context
  tables       : Tables
  change       : Change
  endpoint     : Endpoint
deriving DecidableEq, Repr

/-- The part and the queue of commands that wait, first in, first out. -/
structure State where
  dev     : Device
  pending : List Instr
deriving DecidableEq, Repr

/-! ### Power-on values -/

/-- The power-on values of a line interface (R1). -/
def LineIf.powerOn : LineIf :=
  { headerError := false, payloadError := false,
    capture := { filled := none, errorCount := 0 },
    counters := Table.empty, rx := { stored := [], count := 0 } }

/-- The power-on values of a meter's settings (R45). -/
def MeterSettings.powerOn : MeterSettings :=
  { mode := .pass, cir := 0, cbs := 0, ebs := 0, yellow := .forward, red := .drop }

/-- The power-on values of a station's configuration (R125). -/
def StationConfig.powerOn : StationConfig := { configured := false, service := false }

/-- The power-on values of a line's settings with its drop level (R67, R91, R104, R125, R156). -/
def LineSettings.powerOn (dropLevel : Nat) : LineSettings :=
  { captureMode := .first, dropLevel := dropLevel, egressMode := .weighted,
    weights := ⟨1, 2, 4, 8⟩, serviceWeight := 2, rates := PerClass.all 0,
    byteTime := 100, replyTimeout := 50, retryLimit := 1, reserve := 50, busyLimit := 16,
    faultThreshold := 3, probeInterval := 64 }

/-- The power-on values of the Device Settings but for the node address, which the straps give
(R73, R157). -/
def DeviceSettings.powerOn (node : Nat) : DeviceSettings :=
  { nodeAddress := node, attentionEnable := true, sharedLevel := 128, reassemblyTimeout := 8,
    d := 1000, w := 50, n := 4, g := 20 }

/-- One line's Priority Map at power-on: priority p maps to class p ÷ 2 (R30). -/
def powerOnPriorities : List Class := [.c0, .c0, .c1, .c1, .c2, .c2, .c3, .c3]

/-- The loadable units at power-on (R155). -/
def Tables.powerOn (node : Nat) : Tables :=
  { circuits := Table.empty, meters := Table.empty, schedule := Table.empty,
    stations := Table.empty,
    lines := { PerLine.all (LineSettings.powerOn 128) with t := LineSettings.powerOn 256 },
    priorities := powerOnPriorities ++ powerOnPriorities ++ powerOnPriorities ++
      powerOnPriorities ++ powerOnPriorities,
    thinning := List.replicate 16 0,
    device := DeviceSettings.powerOn node }

/-- A meter's levels and counters at power-on (R46, R48). -/
def MeterState.powerOn : MeterState :=
  { committed := 0, excess := 0, green := 0, yellow := 0, red := 0 }

/-- The Buffer Pool with every block free (R71, R72). -/
def Pool.allFree : Pool :=
  { free := List.range Config.poolBlocks, frames := Table.empty, usage := PerLine.all 0,
    sharedCount := 0, emptyArmed := true }

/-- The Cycle Timer UNLOCKED with a cycle number (R75, R86). -/
def Timer.unlockedAt (cycle : Cycle) : Timer :=
  { state := .unlocked, cycle := cycle, miss := 0, lastStart := none, expiry := none }

/-- The credits at the weights of a line's settings (R92). -/
def Credits.ofWeights (ls : LineSettings) : Credits :=
  { cls := ls.weights, service := ls.serviceWeight }

/-- A line's queues empty, credits at the weights, no hold (R103). -/
def Egress.fresh (ls : LineSettings) : Egress :=
  { queues := PerClass.all [], credits := Credits.ofWeights ls, release := PerClass.all none }

/-- The power-on values of a Branch Sequencer (R105). -/
def Sequencer.powerOn : Sequencer :=
  { state := .waiting, cycle := 0, deadline := none, list := [], inFlight := none,
    sending := none, pendingStart := none, holds := PerClass.all false, delivering := none,
    lastServiced := 30 }

/-- The power-on values of a station's record (R126, R127). -/
def Station.powerOn : Station :=
  { state := .absent, failureCount := 0, resyncPending := false, downToggle := false,
    upExpected := false, probeCountdown := 0, lastFaultCode := 0, serviced := false,
    counters := Table.empty }

/-- The power-on values of the Change Unit (R158). -/
def Change.powerOn : Change := { state := .empty, list := [], target := none, generation := 0 }

/-- The power-on values of the Management Endpoint (R169). -/
def Endpoint.powerOn : Endpoint :=
  { queue := [], slot := none, inProgress := none, events := [], eventsLost := false,
    mgmtOverrun := false, attnOutstanding := false, attnPending := false, overrunCount := 0,
    notMineCount := 0 }

/-- The part at its power-on state, with the reset input asserted or not, and a node address
(R1, R14, R22, R46, R52, R71, R75, R86, R103, R105, R126, R147, R155, R158, R169). -/
def Device.powerOn (now : Nat) (inReset : Bool) (node : Nat) : Device :=
  { now := now, inReset := inReset, choices := 0,
    lines := PerLine.all LineIf.powerOn,
    trunkAdm := .mgmtOnly, branchAdm := PerBranch.all .shut, openedAt := PerBranch.all 0,
    accumulators := PerLine.all 0, meters := Table.empty, circuitCounters := Table.empty,
    pool := Pool.allFree, timer := Timer.unlockedAt 0,
    egress := { PerLine.all (Egress.fresh (LineSettings.powerOn 128)) with
      t := Egress.fresh (LineSettings.powerOn 256) },
    slots := Table.empty, trunkTx := none,
    seqs := PerBranch.all Sequencer.powerOn, stations := Table.empty, contexts := [],
    tables := Tables.powerOn node, change := Change.powerOn, endpoint := Endpoint.powerOn }

/-- The machine right after power-on reset: the input released with every strap at 0 (log 3), and
no command waiting. -/
def State.reset : State := { dev := Device.powerOn 0 false 0, pending := [] }

end Sys2Proof.Machine
end

