-- ==== Sys2Proof/Machine/Operands.lean ====
section
/-! DEFINITION. The wire layouts: bytes and byte order, the two checks of a frame, the frames of
the trunk and the branches, the management records, and the entries of every unit (Chapter 1,
Sections 1.2 to 1.4 and 1.12, and the chapters that own the entries). -/

namespace Sys2Proof.Machine

/-! ### Bytes and byte order (00_scope.md, Section 6) -/

/-- The low byte of a number. -/
def byteOf (n : Nat) : Byte := BitVec.ofNat 8 n

/-- A number in two bytes, most significant first. -/
def be2 (n : Nat) : List Byte := [byteOf (n / 256), byteOf n]

/-- A number in four bytes, most significant first. -/
def be4 (n : Nat) : List Byte :=
  [byteOf (n / 16777216), byteOf (n / 65536), byteOf (n / 256), byteOf n]

/-- The byte at an offset; 00h in the place of a byte that is not there (R10, R172). -/
def rd1 (bs : List Byte) (i : Nat) : Nat := (bs.getD i 0).toNat

/-- The two-byte field at an offset. -/
def rd2 (bs : List Byte) (i : Nat) : Nat := 256 * rd1 bs i + rd1 bs (i + 1)

/-- `n` bytes from an offset on, padded with 00h. -/
def rdN (bs : List Byte) (i : Nat) : Nat → List Byte
  | 0 => []
  | n + 1 => bs.getD i 0 :: rdN bs (i + 1) n

/-- A yes/no field (R21). -/
def boolByte (b : Bool) : List Byte := [byteOf (if b then 1 else 0)]

/-- A one-byte field with every bit set when it is absent (R21). -/
def optByte : Option Nat → List Byte
  | some n => [byteOf n]
  | none => [byteOf 255]

/-- A two-byte field with every bit set when it is NONE (R21). -/
def opt2 : Option Nat → List Byte
  | some n => be2 n
  | none => be2 65535

/-- Reading a one-byte field that may be absent. -/
def readOpt1 (n : Nat) : Option Nat := if n = 255 then none else some n

/-- Reading a two-byte field that may be NONE. -/
def readOpt2 (n : Nat) : Option Nat := if n = 65535 then none else some n

/-! ### The two checks (Section 1.4) -/

/-- The sum of bytes as numbers. -/
def sumBytes : List Byte → Nat
  | [] => 0
  | b :: bs => b.toNat + sumBytes bs

/-- The header check: the sum of the header with it is a multiple of 256 (R6). -/
def headerCheck (h : List Byte) : Byte := byteOf (256 - sumBytes h % 256)

/-- Whether a header, check byte included, sums to 0 modulo 256 (R6). -/
def headerSumOk (h : List Byte) : Bool := sumBytes h % 256 == 0

/-- One bit of the CRC-16 register, polynomial x¹⁶ + x¹² + x⁵ + 1 (R7). -/
def crcBit (c : BitVec 16) : BitVec 16 :=
  if c.getLsbD 15 then (c <<< 1) ^^^ 0x1021#16 else c <<< 1

/-- One byte into the CRC-16 register, most significant bit first (R7). -/
def crcByte (c : BitVec 16) (b : Byte) : BitVec 16 :=
  crcBit (crcBit (crcBit (crcBit (crcBit (crcBit (crcBit (crcBit
    (c ^^^ (b.setWidth 16 <<< 8)))))))))

/-- The payload check: preset FFFFh, not inverted (R7). -/
def crc16 (payload : List Byte) : BitVec 16 := payload.foldl crcByte 0xFFFF#16

/-- A payload with its check behind it; nothing for an empty payload (R7). -/
def withCheck (payload : List Byte) : List Byte :=
  if payload.length = 0 then [] else payload ++ be2 (crc16 payload).toNat

/-- The size of a frame with the seven-byte header (R3, R5). -/
def frameSize (length : Nat) : Nat := if length = 0 then 7 else 9 + length

/-- A header with its check behind it. -/
def sealHeader (h : List Byte) : List Byte := h ++ [headerCheck h]

/-- What the checks of an arrival come to (R8). -/
inductive Checked (α : Type) where
  | headerError
  | payloadError
  | passed (frame : α)
deriving DecidableEq, Repr

/-- The byte count and payload checks of a frame whose header holds (R8, steps 2 and 3). -/
def checkPayload {α : Type} (rx : RxBuffer) (length : Nat) (frame : List Byte → α) : Checked α :=
  let payload := (rx.stored.drop 7).take length
  if rx.count ≠ frameSize length then .payloadError
  else if length ≠ 0 ∧ rd2 rx.stored (7 + length) ≠ (crc16 payload).toNat then .payloadError
  else .passed (frame payload)

/-! ### Trunk frames (Section 1.2) -/

/-- A trunk frame (R3). -/
inductive TrunkFrame where
  | cycle (number : Cycle)
  | data (cid priority : Nat) (payload : List Byte)
deriving DecidableEq, Repr

/-- The bytes of a trunk DATA frame (R3, Section 1.12). -/
def trunkData (cid priority : Nat) (payload : List Byte) : List Byte :=
  sealHeader ([byteOf 2] ++ be2 cid ++ [byteOf priority] ++ be2 payload.length) ++
    withCheck payload

/-- The bytes of a trunk CYCLE frame (R3, Section 1.12). -/
def trunkCycle (number : Cycle) : List Byte := sealHeader ([byteOf 1] ++ be2 number.toNat)

/-- The checks of a trunk arrival in the order of R8, with the field ranges of R3. -/
def checkTrunk (rx : RxBuffer) : Checked TrunkFrame :=
  let bs := rx.stored
  if rx.count = 0 then .headerError
  else if rd1 bs 0 = 1 then
    if rx.count < 4 || !headerSumOk (bs.take 4) then .headerError
    else if rx.count ≠ 4 then .payloadError
    else .passed (.cycle (BitVec.ofNat 16 (rd2 bs 1)))
  else if rd1 bs 0 = 2 then
    if rx.count < 7 || !headerSumOk (bs.take 7) then .headerError
    else if 4095 < rd2 bs 1 || 7 < rd1 bs 3 || Config.maxPayload < rd2 bs 4 then .headerError
    else checkPayload rx (rd2 bs 4) fun payload => .data (rd2 bs 1) (rd1 bs 3) payload
  else .headerError

/-! ### Branch frames (Section 1.3) -/

/-- The branch frame kinds (R4). -/
inductive BranchKind where
  | cycle | exchange | service | deliver | data | empty | ack | busy | fault
deriving DecidableEq, Repr

/-- The kind byte (Section 1.12). -/
def BranchKind.code : BranchKind → Nat
  | .cycle => 0x10
  | .exchange => 0x11
  | .service => 0x12
  | .deliver => 0x13
  | .data => 0x20
  | .empty => 0x21
  | .ack => 0x22
  | .busy => 0x23
  | .fault => 0x24

/-- The kind a kind byte names, if it names one. -/
def BranchKind.ofCode : Nat → Option BranchKind
  | 0x10 => some .cycle
  | 0x11 => some .exchange
  | 0x12 => some .service
  | 0x13 => some .deliver
  | 0x20 => some .data
  | 0x21 => some .empty
  | 0x22 => some .ack
  | 0x23 => some .busy
  | 0x24 => some .fault
  | _ => none

/-- Whether a payload length lies in the range of a kind (R4). -/
def BranchKind.lengthOk : BranchKind → Nat → Bool
  | .exchange, n => n ≤ 128
  | .deliver, n => n ≤ 128
  | .data, n => n ≤ 128
  | .fault, n => n == 1
  | .cycle, n => n == 0
  | .service, n => n == 0
  | .empty, n => n == 0
  | .ack, n => n == 0
  | .busy, n => n == 0

/-- Where a segment stands in its frame (R5), in the order of Section 1.12. -/
inductive Position where
  | only | first | middle | last
deriving DecidableEq, Repr

def Position.code : Position → Nat
  | .only => 0
  | .first => 1
  | .middle => 2
  | .last => 3

def Position.ofCode : Nat → Position
  | 0 => .only
  | 1 => .first
  | 2 => .middle
  | _ => .last

/-- A branch frame (R5). `field` is the 16-bit field that holds the cycle number in CYCLE and the
priority and CID in the other kinds. -/
structure BranchFrame where
  kind     : BranchKind
  station  : Nat
  toggle   : Bool
  resync   : Bool
  fresh    : Bool
  position : Position
  field    : Nat
  payload  : List Byte
deriving DecidableEq, Repr

/-- The CID of a branch frame: bits 12 to 0 of its field. -/
def BranchFrame.cid (f : BranchFrame) : Nat := f.field % 8192

/-- The priority of a branch frame: bits 15 to 13 of its field. -/
def BranchFrame.priority (f : BranchFrame) : Nat := f.field / 8192

/-- The field that carries a priority and a CID. -/
def cidField (priority cid : Nat) : Nat := priority * 8192 + cid

/-- The flags byte (Section 1.12). -/
def BranchFrame.flags (f : BranchFrame) : Nat :=
  (if f.toggle then 128 else 0) + (if f.resync then 64 else 0) + (if f.fresh then 32 else 0) +
    f.position.code

/-- The bytes of a branch frame (R5, Section 1.12). -/
def BranchFrame.wire (f : BranchFrame) : List Byte :=
  sealHeader ([byteOf f.kind.code, byteOf f.station, byteOf f.flags] ++ be2 f.field ++
    [byteOf f.payload.length]) ++ withCheck f.payload

/-- A frame of a kind without payload, position ONLY, toggle and fresh 0. -/
def BranchFrame.bare (kind : BranchKind) (station : Nat) (resync : Bool) (field : Nat) :
    BranchFrame :=
  { kind := kind, station := station, toggle := false, resync := resync, fresh := false,
    position := .only, field := field, payload := [] }

/-- The field ranges of a branch header (R4, R5). -/
def branchRangesOk (kind : BranchKind) (bs : List Byte) : Bool :=
  let station := rd1 bs 1
  (if kind = .cycle then station == 0 else 1 ≤ station && station ≤ 30) &&
  (kind == .deliver || kind == .data || rd1 bs 2 % 4 == 0) &&
  (kind == .cycle || rd2 bs 3 % 8192 ≤ 4095) &&
  rd1 bs 5 ≤ 128 && kind.lengthOk (rd1 bs 5)

/-- The checks of a branch arrival in the order of R8, with the ranges of R4 and R5. -/
def checkBranch (rx : RxBuffer) : Checked BranchFrame :=
  let bs := rx.stored
  if rx.count < 7 then .headerError
  else match BranchKind.ofCode (rd1 bs 0) with
    | none => .headerError
    | some kind =>
      if !headerSumOk (bs.take 7) || !branchRangesOk kind bs then .headerError
      else checkPayload rx (rd1 bs 5) fun payload =>
        { kind := kind, station := rd1 bs 1, toggle := 128 ≤ rd1 bs 2,
          resync := 64 ≤ rd1 bs 2 % 128, fresh := 32 ≤ rd1 bs 2 % 64,
          position := Position.ofCode (rd1 bs 2 % 4), field := rd2 bs 3, payload := payload }

/-! ### Management records (Section 1.12) -/

/-- The op codes of the request record. -/
inductive Op where
  | read | stage | discard | commit | setLine | clear | takeEvents | restart
deriving DecidableEq, Repr

def Op.code : Op → Nat
  | .read => 1
  | .stage => 2
  | .discard => 3
  | .commit => 4
  | .setLine => 5
  | .clear => 6
  | .takeEvents => 7
  | .restart => 8

/-- The op an op byte names, if it names one. -/
def Op.ofCode : Nat → Option Op
  | 1 => some .read
  | 2 => some .stage
  | 3 => some .discard
  | 4 => some .commit
  | 5 => some .setLine
  | 6 => some .clear
  | 7 => some .takeEvents
  | 8 => some .restart
  | _ => none

/-- The bytes of a request record. -/
def requestRecord (op : Op) (r : Request) : List Byte :=
  [r.node, byteOf op.code] ++ be2 r.tag.toNat ++ [r.unit] ++ be2 r.index.toNat ++ [r.count, r.argA]
    ++ be2 r.argB.toNat ++ r.entries

/-- The trunk frame that carries a request: a DATA frame on CID 4095 (R3). -/
def requestFrame (op : Op) (r : Request) : List Byte :=
  trunkData Config.managementCid 0 (requestRecord op r)

/-- The response statuses, in the order of Section 1.12. -/
inductive Status where
  | ok | badFormat | badOp | badUnit | badIndex | badValue | readOnly | listFull | armed
  | emptyList | badTarget | notUnlocked | conflict | lineState
deriving DecidableEq, Repr

def Status.code : Status → Nat
  | .ok => 0
  | .badFormat => 1
  | .badOp => 2
  | .badUnit => 3
  | .badIndex => 4
  | .badValue => 5
  | .readOnly => 6
  | .listFull => 7
  | .armed => 8
  | .emptyList => 9
  | .badTarget => 10
  | .notUnlocked => 11
  | .conflict => 12
  | .lineState => 13

def ChangeState.code : ChangeState → Nat
  | .empty => 0
  | .staging => 1
  | .armed => 2

/-- What a performed request answers beside what every response carries (R172). -/
structure Reply where
  status      : Status
  detailUnit  : Nat := 0
  detailIndex : Nat := 0
  count       : Nat := 0
  entries     : List Byte := []
deriving DecidableEq, Repr

/-- A response record, built from the part as it stands (R172, Section 1.12). -/
def responseRecord (d : Device) (op : Byte) (tag : List Byte) (r : Reply) : List Byte :=
  [byteOf d.tables.device.nodeAddress, op] ++ tag ++
    [byteOf r.status.code, byteOf d.change.state.code] ++ be2 d.change.generation.toNat ++
    be2 d.timer.cycle.toNat ++ [byteOf r.detailUnit] ++ be2 r.detailIndex ++ [byteOf r.count] ++
    r.entries

/-- The ATTENTION record: op 09h, tag 0, status OK, count 0 (R176). -/
def attentionRecord (d : Device) : List Byte :=
  responseRecord d (byteOf 9) (be2 0) { status := .ok }

/-! ### Entries of the loadable units -/

def CircuitKind.code : CircuitKind → Nat
  | .periodic => 0
  | .aperiodic => 1

def ClassSource.code : ClassSource → Nat
  | .fixed => 0
  | .mapped => 1

/-- The egress set in bits 0 to 4 for T, B0 to B3 (Section 1.12). -/
def egressBits (e : PerLine Bool) : Nat :=
  (if e.t then 1 else 0) + (if e.b0 then 2 else 0) + (if e.b1 then 4 else 0) +
    (if e.b2 then 8 else 0) + (if e.b3 then 16 else 0)

def egressOfBits (n : Nat) : PerLine Bool :=
  { t := n % 2 == 1, b0 := n / 2 % 2 == 1, b1 := n / 4 % 2 == 1, b2 := n / 8 % 2 == 1,
    b3 := n / 16 % 2 == 1 }

/-- An absent or inactive entry of `size` bytes: 00h, then FFh (R21). -/
def absentEntry (size : Nat) : List Byte := byteOf 0 :: List.replicate (size - 1) (byteOf 255)

/-- A Circuit Table entry (Section 1.12). -/
def encodeCircuit : Option Circuit → List Byte
  | none => absentEntry 13
  | some c =>
    [byteOf 1, byteOf c.kind.code, byteOf c.ingressLine.toNat] ++ optByte c.ingressStation ++
      [byteOf (egressBits c.egress)] ++ optByte c.egressStation ++
      [byteOf c.classSource.code, byteOf c.fixedClass.toNat] ++ optByte c.meter ++
      opt2 c.egressCid ++ be2 c.maxLength

/-- The circuit a present entry describes. -/
def decodeCircuit (bs : List Byte) : Circuit :=
  { kind := if rd1 bs 1 = 0 then .periodic else .aperiodic,
    ingressLine := Line.ofIndex (rd1 bs 2), ingressStation := readOpt1 (rd1 bs 3),
    egress := egressOfBits (rd1 bs 4), egressStation := readOpt1 (rd1 bs 5),
    classSource := if rd1 bs 6 = 0 then .fixed else .mapped,
    fixedClass := Class.ofIndex (rd1 bs 7), meter := readOpt1 (rd1 bs 8),
    egressCid := readOpt2 (rd2 bs 9), maxLength := rd2 bs 11 }

/-- A station field: 1..30, or FFh when absent (R160). -/
def stationFieldOk (n : Nat) : Bool := (1 ≤ n && n ≤ 30) || n == 255

/-- A circuit field: a CID 0..4094, or FFFFh (R160). -/
def circuitFieldOk (n : Nat) : Bool := n ≤ 4094 || n == 65535

/-- The field checks of a unit 1 entry (R160). -/
def circuitOk (bs : List Byte) : Bool :=
  rd1 bs 0 == 0 ||
  (rd1 bs 0 == 1 && rd1 bs 1 ≤ 1 && rd1 bs 2 ≤ 4 && stationFieldOk (rd1 bs 3) &&
    rd1 bs 4 < 32 && stationFieldOk (rd1 bs 5) && rd1 bs 6 ≤ 1 && rd1 bs 7 ≤ 3 &&
    (rd1 bs 8 ≤ 63 || rd1 bs 8 == 255) && circuitFieldOk (rd2 bs 9) && rd2 bs 11 ≤ 1024)

def MeterMode.code : MeterMode → Nat
  | .pass => 0
  | .meter => 1

def YellowPolicy.code : YellowPolicy → Nat
  | .forward => 0
  | .thin => 1

def RedPolicy.code : RedPolicy → Nat
  | .drop => 0
  | .forward => 1

/-- A Meter Table entry (R45). -/
def encodeMeter (m : MeterSettings) : List Byte :=
  [byteOf m.mode.code] ++ be2 m.cir ++ be2 m.cbs ++ be2 m.ebs ++
    [byteOf m.yellow.code, byteOf m.red.code]

def decodeMeter (bs : List Byte) : MeterSettings :=
  { mode := if rd1 bs 0 = 0 then .pass else .meter, cir := rd2 bs 1, cbs := rd2 bs 3,
    ebs := rd2 bs 5, yellow := if rd1 bs 7 = 0 then .forward else .thin,
    red := if rd1 bs 8 = 0 then .drop else .forward }

/-- The field checks of a unit 2 entry (R45). -/
def meterOk (bs : List Byte) : Bool := rd1 bs 0 ≤ 1 && rd1 bs 7 ≤ 1 && rd1 bs 8 ≤ 1

/-- A Poll Schedule entry (Section 1.12). -/
def encodeSched : Option SchedEntry → List Byte
  | none => absentEntry 8
  | some e =>
    [byteOf 1, byteOf e.station, byteOf e.period, byteOf e.phase] ++ opt2 e.output ++ opt2 e.input

def decodeSched (bs : List Byte) : SchedEntry :=
  { station := rd1 bs 1, period := rd1 bs 2, phase := rd1 bs 3, output := readOpt2 (rd2 bs 4),
    input := readOpt2 (rd2 bs 6) }

/-- The periods a schedule entry may have (R155). -/
def periods : List Nat := [1, 2, 4, 8, 16, 32, 64, 128]

/-- The field checks of a unit 3 entry (R160). -/
def schedOk (bs : List Byte) : Bool :=
  rd1 bs 0 == 0 ||
  (rd1 bs 0 == 1 && (1 ≤ rd1 bs 1 && rd1 bs 1 ≤ 30) && periods.contains (rd1 bs 2) &&
    rd1 bs 3 < rd1 bs 2 && circuitFieldOk (rd2 bs 4) && circuitFieldOk (rd2 bs 6) &&
    !(rd2 bs 4 == 65535 && rd2 bs 6 == 65535))

/-- A Station Configuration entry (R125). -/
def encodeStationConfig (c : StationConfig) : List Byte :=
  boolByte c.configured ++ boolByte c.service

def decodeStationConfig (bs : List Byte) : StationConfig :=
  { configured := rd1 bs 0 == 1, service := rd1 bs 1 == 1 }

/-- The field checks of a unit 4 entry (R125). -/
def stationConfigOk (bs : List Byte) : Bool := rd1 bs 0 ≤ 1 && rd1 bs 1 ≤ 1

def CaptureMode.code : CaptureMode → Nat
  | .first => 0
  | .latest => 1

def EgressMode.code : EgressMode → Nat
  | .strict => 0
  | .weighted => 1

/-- A Line Settings entry (R156). -/
def encodeLineSettings (s : LineSettings) : List Byte :=
  [byteOf s.captureMode.code] ++ be2 s.dropLevel ++ [byteOf s.egressMode.code] ++
    [byteOf s.weights.c0, byteOf s.weights.c1, byteOf s.weights.c2, byteOf s.weights.c3,
      byteOf s.serviceWeight] ++
    be2 s.rates.c0 ++ be2 s.rates.c1 ++ be2 s.rates.c2 ++ be2 s.rates.c3 ++
    be2 s.byteTime ++ be2 s.replyTimeout ++
    [byteOf s.retryLimit, byteOf s.reserve, byteOf s.busyLimit, byteOf s.faultThreshold] ++
    be2 s.probeInterval

def decodeLineSettings (bs : List Byte) : LineSettings :=
  { captureMode := if rd1 bs 0 = 0 then .first else .latest, dropLevel := rd2 bs 1,
    egressMode := if rd1 bs 3 = 0 then .strict else .weighted,
    weights := ⟨rd1 bs 4, rd1 bs 5, rd1 bs 6, rd1 bs 7⟩, serviceWeight := rd1 bs 8,
    rates := ⟨rd2 bs 9, rd2 bs 11, rd2 bs 13, rd2 bs 15⟩, byteTime := rd2 bs 17,
    replyTimeout := rd2 bs 19, retryLimit := rd1 bs 21, reserve := rd1 bs 22,
    busyLimit := rd1 bs 23, faultThreshold := rd1 bs 24, probeInterval := rd2 bs 25 }

/-- A weight: 1..15 (R91). -/
def weightOk (n : Nat) : Bool := 1 ≤ n && n ≤ 15

/-- The field checks of a unit 5 entry (R67, R91, R104, R125, R156). -/
def lineSettingsOk (bs : List Byte) : Bool :=
  rd1 bs 0 ≤ 1 && rd2 bs 1 ≤ 512 && rd1 bs 3 ≤ 1 &&
  weightOk (rd1 bs 4) && weightOk (rd1 bs 5) && weightOk (rd1 bs 6) && weightOk (rd1 bs 7) &&
  weightOk (rd1 bs 8) &&
  (20 ≤ rd2 bs 17 && rd2 bs 17 ≤ 2000) && (5 ≤ rd2 bs 19 && rd2 bs 19 ≤ 1000) &&
  rd1 bs 21 ≤ 3 && [25, 50, 75, 90].contains (rd1 bs 22) && 1 ≤ rd1 bs 23 &&
  weightOk (rd1 bs 24) && (8 ≤ rd2 bs 25 && rd2 bs 25 ≤ 1024)

/-- A Device Settings entry (R157). -/
def encodeDeviceSettings (s : DeviceSettings) : List Byte :=
  [byteOf s.nodeAddress] ++ boolByte s.attentionEnable ++ be2 s.sharedLevel ++
    [byteOf s.reassemblyTimeout] ++ be2 s.d ++ be2 s.w ++ [byteOf s.n, byteOf s.g]

def decodeDeviceSettings (bs : List Byte) : DeviceSettings :=
  { nodeAddress := rd1 bs 0, attentionEnable := rd1 bs 1 == 1, sharedLevel := rd2 bs 2,
    reassemblyTimeout := rd1 bs 4, d := rd2 bs 5, w := rd2 bs 7, n := rd1 bs 9, g := rd1 bs 10 }

/-- The field checks of a unit 8 entry (R68, R73, R152, R157). -/
def deviceSettingsOk (bs : List Byte) : Bool :=
  rd1 bs 0 ≤ 62 && rd1 bs 1 ≤ 1 && rd2 bs 2 ≤ 512 && (2 ≤ rd1 bs 4 && rd1 bs 4 ≤ 64) &&
  250 ≤ rd2 bs 5 && (1 ≤ rd1 bs 9 && rd1 bs 9 ≤ 15)

/-! ### The units (R155, R173) -/

/-- The number of indices and the entry size of a unit, if the unit exists. -/
def unitShape : Nat → Option (Nat × Nat)
  | 1 => some (4095, 13)
  | 2 => some (64, 9)
  | 3 => some (192, 8)
  | 4 => some (120, 2)
  | 5 => some (5, 27)
  | 6 => some (40, 1)
  | 7 => some (16, 2)
  | 8 => some (1, 11)
  | 16 => some (120, 45)
  | 17 => some (5, 32)
  | 18 => some (5, 164)
  | 19 => some (4095, 76)
  | 20 => some (64, 16)
  | 21 => some (1, 28)
  | 22 => some (64, 32)
  | _ => none

/-- Units 1 to 8 are loadable (R155). -/
def isLoadable (unit : Nat) : Bool := 1 ≤ unit && unit ≤ 8

/-- Units 16 to 22 are read-only (R173). -/
def isReadOnly (unit : Nat) : Bool := 16 ≤ unit && unit ≤ 22

/-- The field checks of a STAGE of one entry of a loadable unit (R45, R51, R67, R73, R91, R104,
R125, R156, R157, R160). -/
def entryOk (unit : Nat) (bs : List Byte) : Bool :=
  match unit with
  | 1 => circuitOk bs
  | 2 => meterOk bs
  | 3 => schedOk bs
  | 4 => stationConfigOk bs
  | 5 => lineSettingsOk bs
  | 6 => rd1 bs 0 ≤ 3
  | 7 => rd2 bs 0 ≤ 1024
  | 8 => deviceSettingsOk bs
  | _ => false

/-- The code of an event kind (R175). -/
def EventKind.code (k : EventKind) : Nat := k.ctorIdx

/-- The record of an event as TAKE_EVENTS returns it (R175). -/
def encodeEvent (e : Event) : List Byte :=
  [byteOf e.kind.code] ++ be2 e.cycle.toNat ++ optByte (e.line.map Line.toNat) ++
    optByte e.station ++ be2 e.detail

end Sys2Proof.Machine
end

