-- ==== Sys2Proof/Machine/Ops.lean ====
section
/-! DEFINITION. Named reads and writes of the part's state, and the Buffer Pool's operations:
claim, release, and the return of a context's blocks (Chapter 4). Every other file reads and
writes the state through these. -/

namespace Sys2Proof.Machine

/-! ### Cycle numbers (00_scope.md, Section 6) -/

/-- a is ahead of b when (a − b) mod 65 536 lies in 1..32 767. -/
def Cycle.ahead (a b : Cycle) : Bool := 1 ≤ (a - b).toNat && (a - b).toNat ≤ 32767

/-- a is at or behind b when it equals b or b is ahead of it (log 13). -/
def Cycle.atOrBehind (a b : Cycle) : Bool := a == b || Cycle.ahead b a

/-! ### Access to one line's, branch's or station's part of the state -/

namespace Device

variable (d : Device)

def lineIf (l : Line) : LineIf := d.lines.get l

def setLineIf (l : Line) (x : LineIf) : Device := { d with lines := d.lines.set l x }

def settings (l : Line) : LineSettings := d.tables.lines.get l

def circuit? (cid : Nat) : Option Circuit := d.tables.circuits.find? cid

def admission (k : Branch) : BranchAdmission := d.branchAdm.get k

def setAdmission (k : Branch) (a : BranchAdmission) : Device :=
  { d with branchAdm := d.branchAdm.set k a }

/-- Whether a line counts as OPEN: T in state OPEN alone, a branch in state OPEN alone (R14,
R27). -/
def lineOpen (l : Line) : Bool :=
  match l.branch? with
  | none => d.trunkAdm == .opened
  | some k => d.admission k == .opened

def egr (l : Line) : Egress := d.egress.get l

def setEgr (l : Line) (x : Egress) : Device := { d with egress := d.egress.set l x }

def queue (l : Line) (c : Class) : List Entry := (d.egr l).queues.get c

def setQueue (l : Line) (c : Class) (q : List Entry) : Device :=
  d.setEgr l { d.egr l with queues := (d.egr l).queues.set c q }

def setCredits (l : Line) (c : Credits) : Device := d.setEgr l { d.egr l with credits := c }

/-- The shaper release expiry pending for a class, which holds it (R96). -/
def release (l : Line) (c : Class) : Option Nat := (d.egr l).release.get c

def setRelease (l : Line) (c : Class) (e : Option Nat) : Device :=
  d.setEgr l { d.egr l with release := (d.egr l).release.set c e }

def seq (k : Branch) : Sequencer := d.seqs.get k

def setSeq (k : Branch) (q : Sequencer) : Device := { d with seqs := d.seqs.set k q }

end Device

/-- The index of a station's record in units 4 and 16 (R125). -/
def stationIndex (k : Branch) (s : Nat) : Nat := k.toNat * 30 + s - 1

/-- The station addresses of a branch. -/
def stationAddresses : List Nat := List.range' 1 30

namespace Device

variable (d : Device)

def station (k : Branch) (s : Nat) : Station := d.stations.get Station.powerOn (stationIndex k s)

def setStation (k : Branch) (s : Nat) (x : Station) : Device :=
  { d with stations := d.stations.put Station.powerOn (stationIndex k s) x }

def stationConfig (k : Branch) (s : Nat) : StationConfig :=
  d.tables.stations.get StationConfig.powerOn (stationIndex k s)

/-- A station that transactions other than probes are started to (R111). -/
def stationUp (k : Branch) (s : Nat) : Bool :=
  (d.station k s).state == .active || (d.station k s).state == .suspect

def meterSettings (m : Nat) : MeterSettings := d.tables.meters.get MeterSettings.powerOn m

def meterState (m : Nat) : MeterState := d.meters.get MeterState.powerOn m

def setMeterState (m : Nat) (x : MeterState) : Device :=
  { d with meters := d.meters.put MeterState.powerOn m x }

/-- The class a priority maps to on a line: index l × 8 + p of unit 6 (R30). -/
def priorityClass (l : Line) (p : Nat) : Class := d.tables.priorities.getD (l.toNat * 8 + p) .c0

/-- The context of a station, if it has one (R147). -/
def context? (k : Branch) (s : Nat) : Option Context :=
  d.contexts.find? fun c => c.branch == k && c.station == s

def frame? (ref : Nat) : Option Frame := d.pool.frames.find? ref

end Device

/-- The lines of an egress set in order. -/
def egressLines (e : PerLine Bool) : List Line := Line.all.filter fun l => e.get l

/-- The one line at which a PERIODIC circuit's slot is held (R89). -/
def Circuit.slotLine (c : Circuit) : Line := (egressLines c.egress).headD .t

/-- The CID under which a circuit's frames leave: SAME is its own (R23). -/
def Circuit.leavesUnder (c : Circuit) (cid : Nat) : Nat := c.egressCid.getD cid

/-! ### The Buffer Pool -/

/-- The number of blocks a payload of L bytes occupies: max(1, ⌈L / 128⌉) (R58). -/
def blocksFor (length : Nat) : Nat := max 1 ((length + 127) / Config.blockBytes)

/-- The contents of n successive blocks of a payload (R58). -/
def pieces : Nat → List Byte → List (List Byte)
  | 0, _ => []
  | n + 1, bs => bs.take Config.blockBytes :: pieces n (bs.drop Config.blockBytes)

/-- A frame's payload, read along its chain (R58). -/
def Frame.payload (f : Frame) : List Byte := (f.chain.map Block.data).flatten

/-- The contents of block s of a frame's chain, counting from 1: its segment s (R58, R144). -/
def Frame.segment (f : Frame) (s : Nat) : List Byte :=
  match f.chain[s - 1]? with
  | some b => b.data
  | none => []

namespace Pool

/-- POOL_EMPTY is armed again when 32 blocks are free (R70). -/
def rearm (p : Pool) : Pool :=
  { p with emptyArmed := p.emptyArmed || decide (Config.rearmBlocks ≤ p.free.length) }

/-- Blocks go back to the free list and the charged line's usage falls (R65, R69). -/
def giveBack (p : Pool) (blocks : List Block) (l : Line) : Pool :=
  rearm { p with
    free := blocks.map Block.number ++ p.free,
    usage := p.usage.set l (p.usage.get l - blocks.length) }

/-- A frame whose last reference is gone is freed (R65). -/
def freeFrame (p : Pool) (ref : Nat) (f : Frame) : Pool :=
  giveBack { p with
    frames := p.frames.erase ref,
    sharedCount := if f.shared then p.sharedCount - f.chain.length else p.sharedCount }
    f.chain f.ingress

/-- One reference to a frame is given up (R64, R65). -/
def release (p : Pool) (ref : Nat) : Pool :=
  match p.frames.find? ref with
  | none => p
  | some f =>
    if 1 < f.refs then { p with frames := p.frames.insert ref { f with refs := f.refs - 1 } }
    else p.freeFrame ref f

/-- One more reference to a frame is taken (R64). -/
def take (p : Pool) (ref : Nat) : Pool :=
  match p.frames.find? ref with
  | none => p
  | some f => { p with frames := p.frames.insert ref { f with refs := f.refs + 1 } }

/-- The blocks a met claim for these contents is given, one for each (R57, log 17). -/
def blocksGiven (p : Pool) (contents : List (List Byte)) : List Block :=
  List.zipWith Block.mk p.free contents

/-- A met claim: its blocks leave the free list and are charged to the line (R60, R61, R62). -/
def charge (p : Pool) (n : Nat) (l : Line) : Pool :=
  { p with free := p.free.drop n, usage := p.usage.set l (p.usage.get l + n) }

/-- A frame becomes held, named by the number of its first block (R59, log 17). -/
def hold (p : Pool) (f : Frame) : Pool :=
  { p with frames := p.frames.insert (f.chain.headD ⟨0, []⟩).number f }

end Pool

namespace Device

variable (d : Device)

def releaseFrame (ref : Nat) : Device := { d with pool := d.pool.release ref }

def takeFrame (ref : Nat) : Device := { d with pool := d.pool.take ref }

end Device

end Sys2Proof.Machine
end

