-- ==== Sys2Proof/Machine/Flags.lean ====
section
/-! DEFINITION. Counters, sticky flags, the capture record, and the event list with its
attention (Chapters 1, 2 and 11). -/

namespace Sys2Proof.Machine

/-! ### Counters -/

/-- A counter raised by n, staying at its largest value (00_scope.md, Section 6). -/
def raiseCount (count n : Nat) : Nat := min (count + n) Config.counterMax

/-- The place of a counter in its entry (R173). -/
def LineCounter.pos (c : LineCounter) : Nat := c.ctorIdx

/-- The place of a counter in its entry (R44). -/
def CircuitCounter.pos (c : CircuitCounter) : Nat := c.ctorIdx

/-- The place of a counter in its entry (R127). -/
def StationCounter.pos (c : StationCounter) : Nat := c.ctorIdx

/-- A table of counters with one raised. -/
def bump (t : Table Nat) (i n : Nat) : Table Nat := t.put 0 i (raiseCount (t.get 0 i) n)

namespace Device

variable (d : Device)

def lineCount (l : Line) (c : LineCounter) : Nat := (d.lineIf l).counters.get 0 c.pos

def bumpLineBy (l : Line) (c : LineCounter) (n : Nat) : Device :=
  d.setLineIf l { d.lineIf l with counters := bump (d.lineIf l).counters c.pos n }

def bumpLine (l : Line) (c : LineCounter) : Device := d.bumpLineBy l c 1

def circuitCount (cid : Nat) (c : CircuitCounter) : Nat :=
  (d.circuitCounters.get Table.empty cid).get 0 c.pos

/-- A circuit's counter is raised only while the CID names a present circuit (R44). -/
def bumpCircuitBy (cid : Nat) (c : CircuitCounter) (n : Nat) : Device :=
  match d.circuit? cid with
  | none => d
  | some _ =>
    let entry := bump (d.circuitCounters.get Table.empty cid) c.pos n
    { d with circuitCounters := d.circuitCounters.put Table.empty cid entry }

def bumpCircuit (cid : Nat) (c : CircuitCounter) : Device := d.bumpCircuitBy cid c 1

def stationCount (k : Branch) (s : Nat) (c : StationCounter) : Nat :=
  (d.station k s).counters.get 0 c.pos

def bumpStation (k : Branch) (s : Nat) (c : StationCounter) : Device :=
  d.setStation k s { d.station k s with counters := bump (d.station k s).counters c.pos 1 }

end Device

/-- The line counter of a reason (R40, R88). -/
def Reason.lineCounter : Reason → LineCounter
  | .admission => .admission
  | .unknown => .unknown
  | .wrongLine => .wrongLine
  | .wrongStation => .wrongStation
  | .wrongKind => .wrongKind
  | .oversize => .oversize
  | .egressClosed => .egressClosed
  | .lineLimit => .lineLimit
  | .sharedLimit => .sharedLimit
  | .poolEmpty => .poolEmpty
  | .red => .red
  | .thinned => .thinned
  | .superseded => .superseded
  | .late => .late
  | .flushed => .flushed
  | .reconfigured => .reconfigured
  | .stationGone => .stationGone
  | .busyLimit => .busyLimit

/-- The circuit counter of a reason: every reason but UNKNOWN has one (R40, R44). -/
def Reason.circuitCounter : Reason → Option CircuitCounter
  | .admission => some .admission
  | .unknown => none
  | .wrongLine => some .wrongLine
  | .wrongStation => some .wrongStation
  | .wrongKind => some .wrongKind
  | .oversize => some .oversize
  | .egressClosed => some .egressClosed
  | .lineLimit => some .lineLimit
  | .sharedLimit => some .sharedLimit
  | .poolEmpty => some .poolEmpty
  | .red => some .red
  | .thinned => some .thinned
  | .superseded => some .superseded
  | .late => some .late
  | .flushed => some .flushed
  | .reconfigured => some .reconfigured
  | .stationGone => some .stationGone
  | .busyLimit => some .busyLimit

namespace Device

variable (d : Device)

/-- A discard or release is counted on a line, and against the circuit that the frame's CID names
while it is present (R40, R44, R88). -/
def countReason (l : Line) (cid : Nat) (r : Reason) : Device :=
  match r.circuitCounter with
  | none => d.bumpLine l r.lineCounter
  | some c => (d.bumpLine l r.lineCounter).bumpCircuit cid c

/-- A holder gives up its reference early, and the reason is counted by the CID in the frame's
descriptor (R44, R64, R88). -/
def dropFrame (l : Line) (ref : Nat) (r : Reason) : Device :=
  match d.frame? ref with
  | none => d.bumpLine l r.lineCounter
  | some f => (d.countReason l f.cid r).releaseFrame ref

/-- MISSED, SKIPPED and their like rise on the branch and against the station together. -/
def bumpBoth (k : Branch) (s : Nat) (lc : LineCounter) (sc : StationCounter) : Device :=
  (d.bumpLine k.line lc).bumpStation k s sc

end Device

/-! ### The event list and attention (R175, R176) -/

/-- The record of an event raised now. -/
def Device.eventNow (d : Device) (kind : EventKind) (line : Option Line) (station : Option Nat)
    (detail : Nat) : Event :=
  { kind := kind, cycle := d.timer.cycle, line := line, station := station, detail := detail }

/-- A record joins the tail of the list, or is discarded with EVENTS_LOST set; one that joins an
empty list makes an ATTENTION pending if attention is enabled and none is outstanding. -/
def joinEvent (e : Event) (d : Device) : Device :=
  let p := d.endpoint
  if p.events.length < Config.maxEvents then
    let attention :=
      p.events.isEmpty && d.tables.device.attentionEnable && !p.attnOutstanding
    { d with endpoint := { p with
      events := p.events ++ [e],
      attnPending := p.attnPending || attention,
      attnOutstanding := p.attnOutstanding || attention } }
  else { d with endpoint := { p with eventsLost := true } }

/-- Step 2 of the slot rule (R171): a pending ATTENTION is built and placed in the empty slot,
unless a RESTART is in progress or a held SET_LINE's response comes first. -/
def placeAttention (d : Device) : Device :=
  match d.endpoint.slot, d.endpoint.inProgress with
  | some _, _ => d
  | none, some .restart => d
  | none, some (.ready _) => d
  | none, _ =>
    if d.endpoint.attnPending then
      { d with endpoint := { d.endpoint with
        slot := some { bytes := attentionRecord d, isRestart := false }, attnPending := false } }
    else d

/-- The idle Trunk Transmitter takes the record out of the response slot and starts it, as a DATA
frame on CID 4095 with priority 0 (R98, R99). -/
def startRecord (d : Device) : Device :=
  match d.trunkTx, d.endpoint.slot with
  | none, some r =>
    { d with
      trunkTx := some { holds := .record r.isRestart,
                        wire := trunkData Config.managementCid 0 r.bytes },
      endpoint := { d.endpoint with slot := none } }
  | _, _ => d

/-- An event is raised: its record joins the list (R175). An ATTENTION it makes pending (R176)
waits for the slot rule at the end of the event, where a ready response comes before it (R171,
log 15). -/
def raiseEvent (kind : EventKind) (line : Option Line) (station : Option Nat) (detail : Nat)
    (d : Device) : Device :=
  joinEvent (d.eventNow kind line station detail) d

/-! ### Header and payload errors (R9, R10, R12) -/

/-- The bytes and cycle number that a header error captures: seven bytes as received, with 00h in
the place of any byte the frame did not contain. -/
def Device.captureNow (d : Device) (rx : RxBuffer) : Captured :=
  { bytes := rdN rx.stored 0 7, cycle := d.timer.cycle }

/-- The capture record after a header error, by the capture mode in force (R10). -/
def Capture.afterError (c : Capture) (mode : CaptureMode) (now : Captured) : Capture :=
  { filled :=
      match c.filled, mode with
      | none, _ => some now
      | some old, .first => some old
      | some _, .latest => some now,
    errorCount := raiseCount c.errorCount 1 }

/-- A frame with a header error is discarded (R9), and HEADER_CAPTURE is raised when the record
was empty (R10). -/
def headerErrorOn (l : Line) (d : Device) : Device :=
  let x := d.lineIf l
  let cap := x.capture.afterError (d.settings l).captureMode (d.captureNow x.rx)
  let d' := (d.setLineIf l { x with headerError := true, capture := cap }).bumpLine l .headerErrors
  if x.capture.filled.isNone then raiseEvent .headerCapture (some l) none cap.errorCount d' else d'

/-- A frame with a payload error is discarded (R12). -/
def payloadErrorOn (l : Line) (d : Device) : Device :=
  (d.setLineIf l { d.lineIf l with payloadError := true }).bumpLine l .payloadErrors

end Sys2Proof.Machine
end

