-- ==== Sys2Proof/Machine/Egress.lean ====
section
/-! DEFINITION. The Egress Queues and the Trunk Transmitter: selection between sources, shaper
holds, the trunk's choice of its next frame, the lateness of trunk slots, and the trunk's flush
(Chapter 6, R15). -/

namespace Sys2Proof.Machine

/-! ### Selection (R93 to R95) -/

/-- A source of a selection: a class, or the service polls of a branch. -/
inductive Source where
  | cls (c : Class)
  | service
deriving DecidableEq, Repr

/-- The rank that settles a tie of credits (R94). -/
def weightedRank : List Source := [.cls .c3, .service, .cls .c2, .cls .c1, .cls .c0]

/-- The rank of a STRICT pick (R95). -/
def strictRank : List Source := [.cls .c3, .cls .c2, .cls .c1, .cls .c0, .service]

/-- The credit of a source (R92). -/
def Credits.of (c : Credits) : Source → Nat
  | .cls q => c.cls.get q
  | .service => c.service

/-- The credits after a pick (R94). -/
def Credits.spend (c : Credits) : Source → Credits
  | .cls q => { c with cls := c.cls.set q (c.cls.get q - 1) }
  | .service => { c with service := c.service - 1 }

/-- The first source of a list among those with the greatest credit (R94). -/
def greatest (credit : Source → Nat) : List Source → Option Source
  | [] => none
  | s :: ss =>
    match greatest credit ss with
    | none => some s
    | some best => if credit best ≤ credit s then some s else some best

/-- A selection among the eligible sources of a line: the pick, and the credits after it
(R94, R95). -/
def selectSource (ls : LineSettings) (credits : Credits) (eligible : Source → Bool) :
    Option (Source × Credits) :=
  match ls.egressMode with
  | .strict => (strictRank.find? eligible).map fun s => (s, credits)
  | .weighted =>
    let able := weightedRank.filter eligible
    let round :=
      if able.all fun s => credits.of s == 0 then Credits.ofWeights ls else credits
    (greatest round.of able).map fun s => (s, round.spend s)

/-! ### Shapers (R96) -/

/-- The hold that a transmission of `length` payload bytes picked from a class sets (R96). -/
def setHold (l : Line) (c : Class) (length : Nat) (d : Device) : Device :=
  let rate := (d.settings l).rates.get c
  if 0 < rate ∧ 0 < length then d.setRelease l c (some (d.now + length * rate)) else d

/-! ### The Trunk Transmitter (R98, R99) -/

/-- The line that holds a circuit's slot (R89). -/
def Device.slotLine? (d : Device) (cid : Nat) : Option Line :=
  (d.circuit? cid).map Circuit.slotLine

/-- The slots held at a line that hold a frame, in ascending CID order: CID and frame. -/
def Device.slotsAt (d : Device) (l : Line) : List (Nat × Nat) :=
  d.slots.cells.filter fun c => d.slotLine? c.1 == some l

/-- The bytes of a held frame sent on T under a CID (R99). -/
def Device.trunkWire (d : Device) (cid ref : Nat) : List Byte :=
  match d.frame? ref with
  | some f => trunkData cid f.priority f.payload
  | none => []

/-- A frame's transmission on T begins: the reference passes to the transmitter (R99). -/
def startTrunkFrame (cid ref : Nat) (d : Device) : Device :=
  { d with trunkTx := some { holds := .frame ref, wire := d.trunkWire cid ref } }

/-- The frame of a T slot is sent under the egress CID in force, and the slot is empty (R29,
R99). -/
def startTrunkSlot (cid ref : Nat) (d : Device) : Device :=
  let leaves := match d.circuit? cid with
    | some c => c.leavesUnder cid
    | none => cid
  startTrunkFrame leaves ref { d with slots := d.slots.erase cid }

/-- The payload length of a held frame. -/
def Device.lengthOf (d : Device) (ref : Nat) : Nat := ((d.frame? ref).map Frame.length).getD 0

/-- A class of T is eligible when its queue is not empty and its shaper does not hold it (R93). -/
def Device.trunkEligible (d : Device) : Source → Bool
  | .cls c => !(d.queue .t c).isEmpty && (d.release .t c).isNone
  | .service => false

/-- The head of the picked class of T is sent under its recorded egress CID (R99). -/
def startTrunkClass (c : Class) (d : Device) : Device :=
  match d.queue .t c with
  | [] => d
  | e :: es =>
    startTrunkFrame e.egressCid e.frame
      (setHold .t c (d.lengthOf e.frame) (d.setQueue .t c es))

/-- The aperiodic selection of T (R98, step 3). -/
def trunkSelect (d : Device) : Device :=
  match selectSource (d.settings .t) (d.egr .t).credits d.trunkEligible with
  | some (.cls c, credits) => startTrunkClass c (d.setCredits .t credits)
  | _ => d

/-- The choice an idle transmitter makes: the response slot, then the T slot of lowest CID, then
the aperiodic selection; the last two only while T is OPEN (R98). -/
def trunkChoose (d : Device) : Device :=
  match d.trunkTx, d.endpoint.slot with
  | some _, _ => d
  | none, some _ => startRecord d
  | none, none =>
    if d.trunkAdm = .opened then
      match d.slotsAt .t with
      | (cid, ref) :: _ => startTrunkSlot cid ref d
      | [] => trunkSelect d
    else d

/-! ### Slots and queues given up -/

/-- A slot's frame is released early and the slot is empty (R90). -/
def dropSlot (l : Line) (r : Reason) (d : Device) (slot : Nat × Nat) : Device :=
  { d with slots := d.slots.erase slot.1 }.dropFrame l slot.2 r

/-- Whether a frame is late at the start of a cycle: its fill cycle is at or behind the cycle's
number minus 2 (R101). -/
def Device.isLate (d : Device) (ref : Nat) : Bool :=
  match (d.frame? ref).bind Frame.fillCycle with
  | some fill => Cycle.atOrBehind fill (d.timer.cycle - 2)
  | none => false

/-- At a cycle start the T slots whose frame is late are emptied (R101). -/
def discardLate (d : Device) : Device :=
  ((d.slotsAt .t).filter fun s => d.isLate s.2).foldl (dropSlot .t .late) d

/-- Every slot held at a line is emptied under FLUSHED (R15, R19). -/
def flushSlots (l : Line) (d : Device) : Device :=
  (d.slotsAt l).foldl (dropSlot l .flushed) d

/-- Every entry of a class queue is removed under FLUSHED (R15, R19). -/
def flushQueue (l : Line) (d : Device) (c : Class) : Device :=
  (d.queue l c).foldl (fun d e => d.dropFrame l e.frame .flushed) (d.setQueue l c [])

/-- Every entry of a line's four class queues is removed under FLUSHED (R15, R19). -/
def flushQueues (l : Line) (d : Device) : Device := Class.all.foldl (flushQueue l) d

/-- The trunk's flush on entering MGMT_ONLY; its credits and holds stay (R15, R102). -/
def flushTrunk (d : Device) : Device := flushSlots .t (flushQueues .t d)

end Sys2Proof.Machine
end

