-- ==== Sys2Proof/Machine/Buffers.lean ====
section
/-! DEFINITION. Claims on the Buffer Pool with their tests and the POOL_EMPTY event (R60 to R62,
R70), and the Meter Bank's colouring, thinning and refill (Chapter 3). -/

namespace Sys2Proof.Machine

/-! ### Claims -/

/-- POOL_EMPTY is raised when a met claim has brought the free blocks to 0 while it is armed, and
raising it disarms it (R70). -/
def considerPoolEmpty (l : Line) (station : Option Nat) (n : Nat) (d : Device) : Device :=
  if d.pool.free.isEmpty && d.pool.emptyArmed then
    raiseEvent .poolEmpty (some l) station n { d with pool := { d.pool with emptyArmed := false } }
  else d

/-- The tests of a claim of one block charged to a branch (R61, R62). -/
def Device.receiptRefusal (d : Device) (k : Branch) : Option Reason :=
  if (d.settings k.line).dropLevel < d.pool.usage.get k.line + 1 then some .lineLimit
  else if d.pool.free.isEmpty then some .poolEmpty
  else none

/-- The block a met claim of one block is given, holding a segment's bytes (R61, R62). -/
def Device.blockFor (d : Device) (bytes : List Byte) : Block :=
  (d.pool.blocksGiven [bytes]).headD ⟨0, bytes⟩

/-- The descriptor of a frame brought up by a single-block receipt (R59). -/
def receivedFrame (k : Branch) (f : BranchFrame) (b : Block) : Frame :=
  { chain := [b], length := f.payload.length, cid := f.cid, priority := f.priority,
    ingress := k.line, refs := 1, shared := false, fillCycle := none }

/-- A met single-block receipt: the reply's payload becomes a held frame (R61). -/
def storeReceipt (k : Branch) (f : BranchFrame) (d : Device) : Device :=
  let held := (d.pool.charge 1 k.line).hold (receivedFrame k f (d.blockFor f.payload))
  considerPoolEmpty k.line (some f.station) 1 { d with pool := held }

/-! ### Meters (R47 to R50) -/

/-- The colour of a frame of L bytes at a meter's mode and levels (R47). -/
def colourOf (s : MeterSettings) (m : MeterState) (length : Nat) : Colour :=
  match s.mode with
  | .pass => .green
  | .meter =>
    if length ≤ m.committed then .green
    else if length ≤ m.excess then .yellow
    else .red

/-- The debit and the count that go with a colour (R47, R48). -/
def MeterState.afterColour (m : MeterState) (mode : MeterMode) (length : Nat) :
    Colour → MeterState
  | .green =>
    { m with green := raiseCount m.green 1,
             committed := if mode = .meter then m.committed - length else m.committed }
  | .yellow => { m with yellow := raiseCount m.yellow 1, excess := m.excess - length }
  | .red => { m with red := raiseCount m.red 1 }

/-- The colour the Meter Bank gives a frame of L bytes (R47). -/
def Device.colour (d : Device) (m length : Nat) : Colour :=
  colourOf (d.meterSettings m) (d.meterState m) length

/-- A meter colours a frame: its bucket is debited and the colour counted (R47, R48). -/
def colourFrame (m length : Nat) (d : Device) : Device :=
  d.setMeterState m
    ((d.meterState m).afterColour (d.meterSettings m).mode length (d.colour m length))

/-- A meter's levels after a refill under its settings (R49). -/
def MeterState.refilled (m : MeterState) (s : MeterSettings) : MeterState :=
  match s.mode with
  | .pass => m
  | .meter =>
    if m.committed + s.cir ≤ s.cbs then { m with committed := m.committed + s.cir }
    else { m with
      committed := s.cbs, excess := min (m.excess + (m.committed + s.cir - s.cbs)) s.ebs }

/-- One meter is refilled (R49). -/
def refillMeter (d : Device) (m : Nat) : Device :=
  d.setMeterState m ((d.meterState m).refilled (d.meterSettings m))

/-- At a cycle start every meter in METER mode is refilled (R49). -/
def refillMeters (d : Device) : Device := (List.range 64).foldl refillMeter d

/-- A meter is written: both buckets are full under the settings in force (R50). -/
def fillMeter (m : Nat) (d : Device) : Device :=
  d.setMeterState m { d.meterState m with
    committed := (d.meterSettings m).cbs, excess := (d.meterSettings m).ebs }

/-! ### Thinning (R51 to R54) -/

/-- A line's accumulator with the weight of its usage count added (R53). -/
def Device.thinningSum (d : Device) (l : Line) : Nat :=
  d.accumulators.get l + d.tables.thinning.getD (min 15 (d.pool.usage.get l / 32)) 0

/-- Whether the thinning decision discards the frame (R53). -/
def Device.thins (d : Device) (l : Line) : Bool := 1024 ≤ d.thinningSum l

/-- The accumulator after a thinning decision (R53). -/
def thinLine (l : Line) (d : Device) : Device :=
  let sum := d.thinningSum l
  { d with accumulators := d.accumulators.set l (if 1024 ≤ sum then sum - 1024 else sum) }

end Sys2Proof.Machine
end

