-- ==== Sys2Proof/Machine/Stations.lean ====
section
/-! DEFINITION. The station logic: resync, health, fault replies, probe countdowns, and the
effects of configuration and restart on a station's record (Chapter 8). -/

namespace Sys2Proof.Machine

/-- What a transaction's end reports to the station logic (R114). -/
inductive Outcome where
  | success
  | faultReply (code : Nat)
  | failed
deriving DecidableEq, Repr

/-- The partial delivery addressed to a station is returned to its first segment (R131). -/
def rewindDelivery (k : Branch) (s : Nat) (d : Device) : Device :=
  match (d.seq k).delivering with
  | none => d
  | some c =>
    match d.queue k.line c with
    | [] => d
    | e :: es =>
      if e.station = some s then
        (d.setQueue k.line c ({ e with nextSegment := 1 } :: es)).setSeq k
          { d.seq k with delivering := none }
      else d

/-- A station's resync pending becomes yes (R131). -/
def markResync (k : Branch) (s : Nat) (d : Device) : Device :=
  rewindDelivery k s (d.setStation k s { d.station k s with resyncPending := true })

/-- Every configured station of a branch gets resync pending (R16, R19). -/
def markResyncAll (k : Branch) (d : Device) : Device :=
  stationAddresses.foldl
    (fun d s => if (d.stationConfig k s).configured then markResync k s d else d) d

/-- A valid reply clears resync pending and both toggles before any other handling; an ABSENT
record stays as it is (R131, R141). -/
def resyncOnReply (k : Branch) (s : Nat) (d : Device) : Device :=
  let x := d.station k s
  if x.state ≠ .absent ∧ x.resyncPending then
    d.setStation k s { x with resyncPending := false, downToggle := false, upExpected := false }
  else d

/-- A toggle flips, but not on an ABSENT record (R135, R137, R141). -/
def flipDown (k : Branch) (s : Nat) (d : Device) : Device :=
  let x := d.station k s
  if x.state = .absent then d else d.setStation k s { x with downToggle := !x.downToggle }

/-- The up toggle expected flips, but not on an ABSENT record (R137, R141). -/
def flipUp (k : Branch) (s : Nat) (d : Device) : Device :=
  let x := d.station k s
  if x.state = .absent then d else d.setStation k s { x with upExpected := !x.upExpected }

/-- A station enters or stays in FAULTED: its countdown is the probe interval in force and its
resync pending becomes yes (R138, R139). -/
def putFaulted (k : Branch) (s : Nat) (d : Device) : Device :=
  let interval := (d.settings k.line).probeInterval
  markResync k s
    (d.setStation k s { d.station k s with state := .faulted, probeCountdown := interval })

/-- A success at the transaction's end (R138, R140). It goes by the station's state at that moment:
a probe whose station two commits have made ABSENT and then ACTIVE in its flight raises no event,
the model's choice (log 31). -/
def stationSuccess (k : Branch) (s : Nat) (d : Device) : Device :=
  let x := d.station k s
  match x.state with
  | .absent => d
  | .active => d.setStation k s { x with failureCount := 0, state := .active }
  | .suspect => d.setStation k s { x with failureCount := 0, state := .active }
  | .faulted =>
    raiseEvent .stationRecovered (some k.line) (some s) 0
      (d.setStation k s { x with state := .active, failureCount := 0, probeCountdown := 0 })

/-- A failed transaction of an ACTIVE or SUSPECT station (R138). -/
def stationFails (k : Branch) (s : Nat) (d : Device) : Device :=
  let x := d.station k s
  let count := x.failureCount + 1
  let d' := (d.setStation k s { x with failureCount := count }).bumpStation k s .failedTransactions
  if (d.settings k.line).faultThreshold ≤ count then
    raiseEvent .stationFaulted (some k.line) (some s) 256 (putFaulted k s d')
  else
    let d'' := d'.setStation k s { d'.station k s with state := .suspect }
    if x.state = .active then raiseEvent .stationSuspect (some k.line) (some s) count d'' else d''

/-- A failed transaction on an OPEN branch: a FAULTED station's countdown starts again; an ABSENT
record stays and its counter rises (R138, R140, R141, log 18). A failed probe whose station commits
have made ACTIVE in its flight is counted as any failed transaction, the model's choice (log 31). -/
def stationFailure (k : Branch) (s : Nat) (isProbe : Bool) (d : Device) : Device :=
  let x := d.station k s
  match x.state with
  | .absent => if isProbe then d else d.bumpStation k s .failedTransactions
  | .active => stationFails k s d
  | .suspect => stationFails k s d
  | .faulted => d.setStation k s { x with probeCountdown := (d.settings k.line).probeInterval }

/-- A valid FAULT reply (R139). -/
def stationFaultReply (k : Branch) (s code : Nat) (d : Device) : Device :=
  let x := d.station k s
  match x.state with
  | .absent => d.bumpStation k s .faultReplies
  | .faulted =>
    putFaulted k s ((d.setStation k s { x with lastFaultCode := code }).bumpStation k s
      .faultReplies)
  | _ =>
    raiseEvent .stationFaulted (some k.line) (some s) code
      (putFaulted k s ((d.setStation k s { x with lastFaultCode := code }).bumpStation k s
        .faultReplies))

/-- The station logic at a transaction's end; a failed transaction on a SHUTTING branch changes
nothing (R18, R138). -/
def reportOutcome (k : Branch) (s : Nat) (isProbe : Bool) (o : Outcome) (d : Device) : Device :=
  match o with
  | .success => stationSuccess k s d
  | .faultReply code => stationFaultReply k s code d
  | .failed => if d.admission k = .opened then stationFailure k s isProbe d else d

/-- One station's probe countdown at a cycle start (R140). -/
def countDownStation (k : Branch) (d : Device) (s : Nat) : Device :=
  let x := d.station k s
  if x.state = .faulted ∧ 0 < x.probeCountdown then
    d.setStation k s { x with probeCountdown := x.probeCountdown - 1 }
  else d

/-- At a cycle start the countdowns of the FAULTED stations of every OPEN branch run (R140). -/
def countDownProbes (d : Device) : Device :=
  Branch.all.foldl
    (fun d k => if d.admission k = .opened then stationAddresses.foldl (countDownStation k) d
      else d) d

/-- A branch cycle begins: every "serviced this cycle" flag is cleared (R107). -/
def clearServiced (k : Branch) (d : Device) : Device :=
  stationAddresses.foldl
    (fun d s => d.setStation k s { d.station k s with serviced := false }) d

/-- A station's record after RESTART: last fault code and counters are kept (R126). -/
def Station.restarted (x : Station) (configured : Bool) : Station :=
  { x with
    state := if configured then .active else .absent, failureCount := 0,
    resyncPending := configured, downToggle := false, upExpected := false, probeCountdown := 0,
    serviced := false }

/-- A station's record when a commit configures or unconfigures it (R141). -/
def Station.reconfigured (x : Station) (configured : Bool) : Station :=
  { x with
    state := if configured then .active else .absent, failureCount := 0,
    resyncPending := configured, downToggle := false, upExpected := false, probeCountdown := 0 }

end Sys2Proof.Machine
end

