-- ==== Sys2Proof/Machine/Branches.lean ====
section
/-! DEFINITION. The Branch Sequencer's starts: worst cases and the start condition, the requests of
the three transactions, the transaction list, probes and selections, the beginning of a branch
cycle, and the flush of a branch that reaches SHUT (Chapters 7 and 8, R19). -/

namespace Sys2Proof.Machine

/-! ### Worst cases and the start condition (R110, R111) -/

/-- The worst case of an EXCHANGE attempt, in ns (R110). -/
def exchangeWorst (ls : LineSettings) (o i : Nat) : Nat :=
  (frameSize o + frameSize i) * ls.byteTime + ls.replyTimeout * 1000

/-- The worst case of a DELIVER attempt of s bytes, in ns (R110). -/
def deliverWorst (ls : LineSettings) (s : Nat) : Nat :=
  (frameSize s + 7) * ls.byteTime + ls.replyTimeout * 1000

/-- The worst case of a SERVICE or probe attempt, in ns (R110). -/
def serviceWorst (ls : LineSettings) : Nat := 151 * ls.byteTime + ls.replyTimeout * 1000

/-- The start condition: now plus the worst case lies at or before the deadline (R111). -/
def Device.fits (d : Device) (k : Branch) (worst : Nat) : Bool :=
  match (d.seq k).deadline with
  | some deadline => d.now + worst ≤ deadline
  | none => false

/-- The max length of a circuit of a table, 0 for NONE (R110). -/
def maxLengthIn (circuits : Table Circuit) (cid : Option Nat) : Nat :=
  ((cid.bind circuits.find?).map Circuit.maxLength).getD 0

/-- The frame that the slot of an output circuit holds, if any (R132). -/
def Device.outputFrame (d : Device) (output : Option Nat) : Option Nat :=
  output.bind d.slots.find?

/-- The o term of an element: its output circuit's max length, or the length of a longer frame
that waits in the slot (R110). -/
def Device.outputTerm (d : Device) (e : Element) : Nat :=
  max (maxLengthIn d.tables.circuits e.output)
    (((d.outputFrame e.output).map d.lengthOf).getD 0)

/-- The worst case of an element's EXCHANGE (R110). -/
def Device.elementWorst (d : Device) (k : Branch) (e : Element) : Nat :=
  exchangeWorst (d.settings k.line) (d.outputTerm e) (maxLengthIn d.tables.circuits e.input)

/-! ### Sending (R13) -/

/-- A branch frame's transmission begins: it ends after size × byte time (R13). The end is fixed
here, by the byte time in force at the start: a commit that changes the byte time while a frame begun
before the branch became SHUT, or before a RESTART, is still being sent does not move it. No rule
says which byte time sets that end, and this is the model's choice (log 32). -/
def sendBranch (k : Branch) (role : TxRole) (f : BranchFrame) (d : Device) : Device :=
  let ends := d.now + frameSize f.payload.length * (d.settings k.line).byteTime
  d.setSeq k { d.seq k with
    sending := some { role := role, starts := d.now, ends := ends, wire := f.wire } }

/-- The position of segment s of n (R144). -/
def segmentPosition (s n : Nat) : Position :=
  if n = 1 then .only else if s = 1 then .first else if s < n then .middle else .last

/-- The segment that a class's head entry sends next, and the frame's number of segments (R144). -/
def Device.segmentOf (d : Device) (e : Entry) (s : Nat) : List Byte × Nat :=
  match d.frame? e.frame with
  | some f => (f.segment s, f.chain.length)
  | none => ([], 1)

/-- The priority in a held frame's descriptor. -/
def Device.priorityOf (d : Device) (ref : Nat) : Nat := ((d.frame? ref).map Frame.priority).getD 0

/-- A held frame's payload. -/
def Device.payloadOf (d : Device) (ref : Nat) : List Byte :=
  ((d.frame? ref).map Frame.payload).getD []

/-- The request of the transaction in flight as it would be sent now: a retry repeats the request
with the resync flag, and a DELIVER's toggle, as resync pending stands (R112, R131, R132, R134,
R136). -/
def Device.requestOf (d : Device) (k : Branch) (r : InFlight) : BranchFrame :=
  let st := d.station k r.station
  match r.txn with
  | .exchange _ _ _ outputFrame cid priority =>
    { kind := .exchange, station := r.station, toggle := false, resync := st.resyncPending,
      fresh := outputFrame.isSome, position := .only, field := cidField priority cid,
      payload := (outputFrame.map d.payloadOf).getD [] }
  | .deliver c s =>
    match d.queue k.line c with
    | [] => BranchFrame.bare .deliver r.station st.resyncPending 0
    | e :: _ =>
      let (bytes, n) := d.segmentOf e s
      { kind := .deliver, station := r.station,
        toggle := if st.resyncPending then false else st.downToggle,
        resync := st.resyncPending, fresh := false, position := segmentPosition s n,
        field := cidField (d.priorityOf e.frame) e.egressCid, payload := bytes }
  | .service => BranchFrame.bare .service r.station st.resyncPending 0
  | .probe => BranchFrame.bare .service r.station true 0

/-- An attempt starts: its record is the one in flight and its request is sent (R112). -/
def startAttempt (k : Branch) (r : InFlight) (d : Device) : Device :=
  let d' := d.setSeq k { d.seq k with inFlight := some { r with replyWait := none } }
  sendBranch k .request (d'.requestOf k r) d'

/-- A transaction's record at its first attempt (R112). -/
def firstAttempt (txn : Txn) (station worst : Nat) : InFlight :=
  { txn := txn, station := station, worst := worst, attempt := 1, replyWait := none,
    received := none }

/-! ### The periodic part (R115, R132) -/

/-- The CID field of an EXCHANGE: the egress CID in force of the output circuit, 0 for NONE
(R132). -/
def Device.exchangeCid (d : Device) (output : Option Nat) : Nat :=
  match output with
  | none => 0
  | some cid =>
    match d.circuit? cid with
    | some c => c.leavesUnder cid
    | none => cid

/-- The first attempt of an element's EXCHANGE: it takes its own reference on the slot's frame
(R132). -/
def startExchange (k : Branch) (e : Element) (d : Device) : Device :=
  let frame := d.outputFrame e.output
  let priority := (frame.map d.priorityOf).getD 0
  let txn := Txn.exchange e.index e.output e.input frame (d.exchangeCid e.output) priority
  let record := firstAttempt txn e.station (d.elementWorst k e)
  startAttempt k record (match frame with
    | some ref => d.takeFrame ref
    | none => d)

/-- An element of the list takes a status. -/
def setElement (k : Branch) (index : Nat) (status : ElementStatus) (d : Device) : Device :=
  let mark := fun e : Element => if e.index = index then { e with status := status } else e
  d.setSeq k { d.seq k with list := (d.seq k).list.map mark }

/-- An element becomes MISSED and is counted (R107, R115, R124). -/
def missElement (k : Branch) (d : Device) (e : Element) : Device :=
  (setElement k e.index .missed d).bumpBoth k e.station .missed .missed

/-- An element becomes SKIPPED and is counted (R115, R124). -/
def skipElement (k : Branch) (d : Device) (e : Element) : Device :=
  (setElement k e.index .skipped d).bumpBoth k e.station .skipped .skipped

/-- The elements of the list that are still PENDING, in order. -/
def Device.pendingElements (d : Device) (k : Branch) : List Element :=
  (d.seq k).list.filter fun e => e.status == .pending

/-! ### Probes, selection and DONE (R116 to R122) -/

/-- The station due for a probe with the lowest address (R116). -/
def Device.probeDue (d : Device) (k : Branch) : Option Nat :=
  stationAddresses.find? fun s =>
    let x := d.station k s
    x.state == .faulted && x.probeCountdown == 0 && !x.serviced

/-- The order in which the service scan looks at the stations (R120). -/
def serviceOrder (last : Nat) : List Nat := List.range' (last + 1) (30 - last) ++ List.range' 1 last

/-- The service candidate (R120). -/
def Device.serviceCandidate (d : Device) (k : Branch) : Option Nat :=
  (serviceOrder (d.seq k).lastServiced).find? fun s =>
    (d.stationConfig k s).configured && (d.stationConfig k s).service && d.stationUp k s &&
      !(d.station k s).serviced

/-- A class that is not held, by the class holds or by its shaper (R93, R118). -/
def Device.unheld (d : Device) (k : Branch) (c : Class) : Bool :=
  !(d.seq k).holds.get c && (d.release k.line c).isNone

/-- The head of a class is removed from its queue; a partial delivery of it ends (R118, R119,
R121). -/
def removeHead (k : Branch) (c : Class) (rest : List Entry) (d : Device) : Device :=
  let d' := d.setQueue k.line c rest
  if (d.seq k).delivering = some c then d'.setSeq k { d'.seq k with delivering := none } else d'

/-- The heads of a class whose station is gone are discarded until the head's station is ACTIVE or
SUSPECT or the queue is empty (R118). -/
def sweepQueue (k : Branch) (c : Class) : List Entry → Device → Device
  | [], d => d
  | e :: es, d =>
    if (e.station.map (d.stationUp k)).getD false then d
    else sweepQueue k c es ((removeHead k c es d).dropFrame k.line e.frame .stationGone)

/-- The sweep of one class at a selection (R118). -/
def sweepClass (k : Branch) (d : Device) (c : Class) : Device :=
  if d.unheld k c then sweepQueue k c (d.queue k.line c) d else d

/-- The sweep of the class heads at a selection (R118). -/
def sweep (k : Branch) (d : Device) : Device := Class.all.foldl (sweepClass k) d

/-- Whether a source is eligible for a selection of the branch (R93, R119). -/
def Device.branchEligible (d : Device) (k : Branch) : Source → Bool
  | .cls c =>
    match d.queue k.line c with
    | [] => false
    | e :: _ =>
      d.unheld k c && ((d.seq k).delivering.isNone || (d.seq k).delivering == some c) &&
        d.fits k (deliverWorst (d.settings k.line) (d.segmentOf e e.nextSegment).1.length)
  | .service => (d.serviceCandidate k).isSome && d.fits k (serviceWorst (d.settings k.line))

/-- The first attempt of a DELIVER of a class's head's next segment, with the class's shaper hold
(R96, R117, R134). -/
def startDeliver (k : Branch) (c : Class) (d : Device) : Device :=
  match d.queue k.line c with
  | [] => d
  | e :: _ =>
    let length := (d.segmentOf e e.nextSegment).1.length
    let worst := deliverWorst (d.settings k.line) length
    startAttempt k (firstAttempt (.deliver c e.nextSegment) (e.station.getD 0) worst)
      (setHold k.line c length d)

/-- A station's "serviced this cycle" flag is set (R116, R120). -/
def markServiced (k : Branch) (s : Nat) (d : Device) : Device :=
  d.setStation k s { d.station k s with serviced := true }

/-- A SERVICE to the candidate starts (R120, R136). -/
def startService (k : Branch) (d : Device) : Device :=
  match d.serviceCandidate k with
  | none => d
  | some s =>
    let d' := markServiced k s d
    startAttempt k (firstAttempt .service s (serviceWorst (d.settings k.line)))
      (d'.setSeq k { d'.seq k with lastServiced := s })

/-- A probe starts; the last serviced station is left as it was (R116). -/
def startProbe (k : Branch) (s : Nat) (d : Device) : Device :=
  startAttempt k (firstAttempt .probe s (serviceWorst (d.settings k.line))) (markServiced k s d)

/-- The sequencer takes a state. -/
def setSeqState (k : Branch) (st : SeqState) (d : Device) : Device :=
  d.setSeq k { d.seq k with state := st }

/-- The pick's transaction starts (R117). -/
def startPick (k : Branch) (s : Source) (d : Device) : Device :=
  match s with
  | .cls c => startDeliver k c d
  | .service => startService k d

/-- A selection of the branch: the sweep, the pick and its transaction; DONE when no source is
eligible (R117, R122). -/
def selectBranch (k : Branch) (d : Device) : Device :=
  let d' := sweep k d
  match selectSource (d'.settings k.line) (d'.egr k.line).credits (d'.branchEligible k) with
  | none => setSeqState k .done d'
  | some (s, credits) => startPick k s (setSeqState k .aperiodic (d'.setCredits k.line credits))

/-- The next step of the free sequencer in APERIODIC: a probe that fits, else a selection (R116,
R117). -/
def aperiodicStep (k : Branch) (d : Device) : Device :=
  let d' := setSeqState k .aperiodic d
  match d'.probeDue k with
  | none => selectBranch k d'
  | some s =>
    if d'.fits k (serviceWorst (d'.settings k.line)) then startProbe k s d' else selectBranch k d'

/-- The PENDING elements are judged in order until one starts its EXCHANGE; when none remains the
sequencer enters APERIODIC (R115). -/
def periodicStep (k : Branch) : List Element → Device → Device
  | [], d => aperiodicStep k d
  | e :: es, d =>
    if !d.stationUp k e.station then periodicStep k es (skipElement k d e)
    else if !d.fits k (d.elementWorst k e) then periodicStep k es (missElement k d e)
    else startExchange k e d

/-- A placement or a shaper release expiry makes a sequencer in DONE select again (R122). -/
def wakeBranch (k : Branch) (d : Device) : Device :=
  if d.admission k = .opened ∧ (d.seq k).state = .done then selectBranch k d else d

/-! ### The branch cycle (R107 to R109) -/

/-- Whether an active entry is due in a cycle (R109). -/
def SchedEntry.due (e : SchedEntry) (cycle : Cycle) : Bool := cycle.toNat % e.period == e.phase

/-- The active Poll Schedule entries of a branch: index and entry, in ascending order (R155). -/
def branchEntries (schedule : Table SchedEntry) (k : Branch) : List (Nat × SchedEntry) :=
  schedule.cells.filter fun c => k.toNat * 48 ≤ c.1 && c.1 < k.toNat * 48 + 48

/-- The transaction list of a branch's cycle (R109). -/
def buildList (schedule : Table SchedEntry) (k : Branch) (cycle : Cycle) : List Element :=
  ((branchEntries schedule k).filter fun c => c.2.due cycle).map fun c =>
    { index := c.1, station := c.2.station, output := c.2.output, input := c.2.input,
      status := .pending }

/-- The branch's CYCLE frame (R107). -/
def cycleFrame (cycle : Cycle) : BranchFrame := BranchFrame.bare .cycle 0 false cycle.toNat

/-- A branch cycle is begun (R107): leftovers MISSED, holds and flags cleared, the list built, the
CYCLE frame started. -/
def beginCycle (k : Branch) (cycle : Cycle) (deadline : Nat) (d : Device) : Device :=
  let missed := (d.pendingElements k).foldl (missElement k) d
  let clear := clearServiced k missed
  let begun := clear.setSeq k { clear.seq k with
    state := .periodic, cycle := cycle, deadline := some deadline, pendingStart := none,
    holds := PerClass.all false, list := buildList d.tables.schedule k cycle }
  sendBranch k .cycle (cycleFrame cycle) (begun.bumpLine k.line .cyclesBegun)

/-- A cycle start at an OPEN branch with work in flight or a frame in transmission is deferred
(R108). -/
def deferCycle (k : Branch) (cycle : Cycle) (deadline : Nat) (d : Device) : Device :=
  (d.setSeq k { d.seq k with pendingStart := some (cycle, deadline) }).bumpLine k.line .overrun

/-- A cycle start reaches a branch: nothing unless it is OPEN (R18, R107, R108). -/
def branchCycleStart (cycle : Cycle) (deadline : Nat) (d : Device) (k : Branch) : Device :=
  if d.admission k = .opened then
    if (d.seq k).inFlight.isNone ∧ (d.seq k).sending.isNone then beginCycle k cycle deadline d
    else deferCycle k cycle deadline d
  else d

/-! ### Reassembly contexts given up, and the flush of a branch (R19, R69, R153) -/

/-- A context is abandoned: its blocks go back and its reason is counted on its branch (R69,
R153). -/
def abandonContext (reason : LineCounter) (d : Device) (c : Context) : Device :=
  let d' := { d with
    contexts := d.contexts.filter fun x => !(x.branch == c.branch && x.station == c.station),
    pool := d.pool.giveBack c.blocks c.branch.line }
  d'.bumpLine c.branch.line reason

/-- Every context of a branch is abandoned FLUSHED (R19). -/
def flushContexts (k : Branch) (d : Device) : Device :=
  (d.contexts.filter fun c => c.branch == k).foldl (abandonContext .contextFlushed) d

/-- The sequencer's part of a flush: last serviced station, frame in transmission, cycle number
and deadline stay (R19, R105). -/
def Sequencer.flushed (q : Sequencer) : Sequencer :=
  { q with
    state := .waiting, list := [], pendingStart := none, holds := PerClass.all false,
    delivering := none, inFlight := none }

/-- A line's credits go to the weights in force (R92). -/
def resetCredits (l : Line) (d : Device) : Device :=
  d.setCredits l (Credits.ofWeights (d.settings l))

/-- Every shaper release expiry pending on a line is cancelled (R97). -/
def cancelReleases (l : Line) (d : Device) : Device :=
  d.setEgr l { d.egr l with release := PerClass.all none }

/-- A branch becomes SHUT and is flushed (R19). -/
def shutBranch (k : Branch) (d : Device) : Device :=
  let d1 := d.setAdmission k .shut
  let d2 := flushContexts k (flushSlots k.line (flushQueues k.line d1))
  let d3 := d2.setSeq k (d2.seq k).flushed
  markResyncAll k (cancelReleases k.line (resetCredits k.line d3))

end Sys2Proof.Machine
end

