-- ==== Sys2Proof/Machine/Classifier.lean ====
section
/-! DEFINITION. The Classifier: the classification order, discards and their counting, acceptance
and placement (Chapter 2). -/

namespace Sys2Proof.Machine

/-- The source of a frame with what only it hands over (R31): a trunk frame's payload is in the
receive buffer; a branch frame is a held frame with one reference. -/
inductive Origin where
  | trunk (payload : List Byte)
  | exchange (branch : Branch) (station : Nat) (input : Option Nat) (ref : Nat)
  | service (branch : Branch) (station : Nat) (ref : Nat)
deriving DecidableEq, Repr

/-- A complete frame as it reaches the Classifier (R31). -/
structure Arriving where
  origin   : Origin
  cid      : Nat
  priority : Nat
  length   : Nat
deriving DecidableEq, Repr

/-- The line a frame arrived on. -/
def Origin.line : Origin → Line
  | .trunk _ => .t
  | .exchange k _ _ _ => k.line
  | .service k _ _ => k.line

/-- The reduced egress set: the lines of the circuit's egress set that are OPEN now (R27). -/
def Device.reducedSet (d : Device) (c : Circuit) : List Line :=
  (egressLines c.egress).filter d.lineOpen

/-- Step 4's WRONG_STATION: the frame came from a branch and from another station (R35). -/
def Origin.wrongStation (o : Origin) (c : Circuit) : Bool :=
  match o with
  | .trunk _ => false
  | .exchange _ s _ _ => c.ingressStation != some s
  | .service _ s _ => c.ingressStation != some s

/-- Step 4's WRONG_KIND (R35). -/
def Origin.wrongKind (o : Origin) (c : Circuit) (cid : Nat) : Bool :=
  match o with
  | .trunk _ => false
  | .exchange _ _ input _ => c.kind == .aperiodic || input != some cid
  | .service _ _ _ => c.kind == .periodic

/-- Step 7, limits, for a frame of n blocks (R37, R38): a branch frame's blocks are already held
and charged, so only SHARED_LIMIT is checked for it. -/
def Device.limitReason (d : Device) (o : Origin) (lines n : Nat) : Option Reason :=
  let shared := decide (1 < lines ∧ d.tables.device.sharedLevel < d.pool.sharedCount + n)
  match o with
  | .trunk _ =>
    if (d.settings .t).dropLevel < d.pool.usage.get .t + n then some .lineLimit
    else if shared then some .sharedLimit
    else if d.pool.free.length < n then some .poolEmpty
    else none
  | _ => if shared then some .sharedLimit else none

/-- Steps 4 to 7 for a frame whose circuit is present: the reason of the first check that fails
(R35 to R38). -/
def Device.refusal (d : Device) (a : Arriving) (c : Circuit) : Option Reason :=
  if a.origin.line ≠ c.ingressLine then some .wrongLine
  else if a.origin.wrongStation c then some .wrongStation
  else if a.origin.wrongKind c a.cid then some .wrongKind
  else if c.maxLength < a.length then some .oversize
  else if (d.reducedSet c).isEmpty then some .egressClosed
  else d.limitReason a.origin (d.reducedSet c).length (blocksFor a.length)

/-- A discard by the Classifier: counted on the arrival line and against the circuit, and the
blocks of a branch frame are released (R40). -/
def discardArriving (a : Arriving) (r : Reason) (d : Device) : Device :=
  let d' := d.countReason a.origin.line a.cid r
  match a.origin with
  | .trunk _ => d'
  | .exchange _ _ _ ref => d'.releaseFrame ref
  | .service _ _ ref => d'.releaseFrame ref

/-! ### Acceptance (R41) -/

/-- The fill cycle of an accepted frame: PERIODIC frames alone have one (R41). -/
def Device.fillCycleOf (d : Device) (c : Circuit) : Option Cycle :=
  if c.kind = .periodic then some d.timer.cycle else none

/-- The shared count with a frame's blocks added when it is accepted on several lines (R41,
R68). -/
def Pool.countShared (p : Pool) (n placements : Nat) : Pool :=
  if 1 < placements then { p with sharedCount := p.sharedCount + n } else p

/-- The descriptor of an accepted trunk frame (R41, R59). -/
def Device.acceptedFrame (d : Device) (a : Arriving) (c : Circuit) (payload : List Byte)
    (placements : Nat) : Frame :=
  { chain := d.pool.blocksGiven (pieces (blocksFor a.length) payload), length := a.length,
    cid := a.cid, priority := a.priority, ingress := .t, refs := placements,
    shared := decide (1 < placements), fillCycle := d.fillCycleOf c }

/-- A trunk frame is given its blocks and becomes a held frame (R41, R60). -/
def claimTrunk (a : Arriving) (c : Circuit) (payload : List Byte) (placements : Nat)
    (d : Device) : Device :=
  let n := blocksFor a.length
  let held := (d.pool.charge n .t).hold (d.acceptedFrame a c payload placements)
  considerPoolEmpty .t none n { d with pool := held.countShared n placements }

/-- A branch frame's descriptor is completed (R41). -/
def completeDescriptor (ref : Nat) (c : Circuit) (placements : Nat) (d : Device) : Device :=
  match d.frame? ref with
  | none => d
  | some f =>
    let f' := { f with
      refs := placements, shared := decide (1 < placements), fillCycle := d.fillCycleOf c }
    let pool := { d.pool with frames := d.pool.frames.insert ref f' }
    { d with pool := pool.countShared f.chain.length placements }

/-- The reference by which an accepted frame is placed: a trunk frame's first block is the first
free one (log 17). -/
def Device.placedRef (d : Device) (o : Origin) : Nat :=
  match o with
  | .trunk _ => d.pool.free.headD 0
  | .exchange _ _ _ ref => ref
  | .service _ _ ref => ref

/-- The frame's blocks are settled and its descriptor is written (R41). -/
def settleBlocks (a : Arriving) (c : Circuit) (placements : Nat) (d : Device) : Device :=
  match a.origin with
  | .trunk payload => claimTrunk a c payload placements d
  | .exchange _ _ _ ref => completeDescriptor ref c placements d
  | .service _ _ ref => completeDescriptor ref c placements d

/-! ### Placement (R42, R43) -/

/-- The class of an accepted APERIODIC frame (R30). -/
def Device.classOf (d : Device) (c : Circuit) (priority : Nat) : Class :=
  match c.classSource with
  | .fixed => c.fixedClass
  | .mapped => d.priorityClass c.ingressLine priority

/-- The queue entry made for a frame on a line (R42). -/
def newEntry (c : Circuit) (cid ref : Nat) (l : Line) : Entry :=
  { frame := ref, egressCid := c.leavesUnder cid,
    station := if l = .t then none else c.egressStation, busy := 0, nextSegment := 1 }

/-- One placement at the tail of a line's class queue (R42). -/
def enqueue (c : Circuit) (cid ref : Nat) (q : Class) (d : Device) (l : Line) : Device :=
  d.setQueue l q (d.queue l q ++ [newEntry c cid ref l])

/-- A branch on which a frame was placed, or whose shaper released a class, selects at once if its
sequencer is in DONE (R122). The choice of an idle Trunk Transmitter (R98) is made at the end of the
event, after the slot rule (log 15). -/
def notice (d : Device) (l : Line) : Device :=
  match l.branch? with
  | none => d
  | some k => wakeBranch k d

/-- An accepted APERIODIC frame is placed on every line of its reduced egress set (R42), and only
then do the branches look at it (R122), which is the model's order (log 15). -/
def placeAperiodic (c : Circuit) (cid ref : Nat) (q : Class) (lines : List Line) (d : Device) :
    Device :=
  lines.foldl notice (lines.foldl (enqueue c cid ref q) d)

/-- An accepted PERIODIC frame takes its circuit's slot; a frame already there is SUPERSEDED
(R43). -/
def placePeriodic (cid ref : Nat) (l : Line) (d : Device) : Device :=
  let d1 := match d.slots.find? cid with
    | some old => dropSlot l .superseded d (cid, old)
    | none => d
  { d1 with slots := d1.slots.insert cid ref }

/-- Step 9: the frame is accepted, counted, and placed (R41 to R43). -/
def acceptFrame (a : Arriving) (c : Circuit) (d : Device) : Device :=
  let lines := d.reducedSet c
  let ref := d.placedRef a.origin
  let d1 := settleBlocks a c lines.length d
  let d2 := (d1.bumpCircuit a.cid .acceptedFrames).bumpCircuitBy a.cid .acceptedBytes a.length
  match c.kind with
  | .aperiodic => placeAperiodic c a.cid ref (d.classOf c a.priority) lines d2
  | .periodic => placePeriodic a.cid ref (lines.headD .t) d2

/-- Step 8, meter, and what follows it (R39, R47, R53). -/
def meterFrame (a : Arriving) (c : Circuit) (d : Device) : Device :=
  match c.meter with
  | none => acceptFrame a c d
  | some m =>
    let d' := colourFrame m a.length d
    match d.colour m a.length, (d.meterSettings m).yellow, (d.meterSettings m).red with
    | .green, _, _ => acceptFrame a c d'
    | .yellow, .forward, _ => acceptFrame a c d'
    | .yellow, .thin, _ =>
      let d'' := thinLine c.ingressLine d'
      if d'.thins c.ingressLine then discardArriving a .thinned d'' else acceptFrame a c d''
    | .red, _, .drop => discardArriving a .red d'
    | .red, _, .forward => acceptFrame a c d'

/-- The classification order for a frame that is not a trunk frame of CID 4095 (R33 to R39): one
frame, one event (R32). -/
def classify (a : Arriving) (d : Device) : Device :=
  match d.circuit? a.cid with
  | none => discardArriving a .unknown d
  | some c =>
    match d.refusal a c with
    | some r => discardArriving a r d
    | none => meterFrame a c d

/-- A trunk DATA frame of a circuit: step 1, ADMISSION, comes before every other check (R33). -/
def classifyTrunk (cid priority : Nat) (payload : List Byte) (d : Device) : Device :=
  let a : Arriving :=
    { origin := .trunk payload, cid := cid, priority := priority, length := payload.length }
  if d.trunkAdm = .mgmtOnly then discardArriving a .admission d else classify a d

/-- A held frame from a branch is handed over with the values of its descriptor (R31); one of CID
4095 is discarded UNKNOWN (R33, step 2). -/
def handOver (ref : Nat) (origin : Origin) (d : Device) : Device :=
  match d.frame? ref with
  | none => d
  | some f =>
    let a : Arriving :=
      { origin := origin, cid := f.cid, priority := f.priority, length := f.length }
    if f.cid = Config.managementCid then discardArriving a .unknown d else classify a d

end Sys2Proof.Machine
end

