-- ==== Sys2Proof/Machine/Reassembly.lean ====
section
/-! DEFINITION. The Reassembly Unit: opening, appending, completing and ageing of contexts
(Chapter 9). -/

namespace Sys2Proof.Machine

/-- What the unit answers for a segment (R148): whether it is acknowledged (taken, or taken and
discarded) rather than refused, the frame a LAST completed, and the part after it. -/
structure SegmentResult where
  acknowledged : Bool
  completed    : Option Nat
  dev          : Device

/-- Taken without completing a frame, or taken and discarded. -/
def SegmentResult.ack (d : Device) : SegmentResult :=
  { acknowledged := true, completed := none, dev := d }

/-- Refused. -/
def SegmentResult.busy (d : Device) : SegmentResult :=
  { acknowledged := false, completed := none, dev := d }

/-- A context is opened by a FIRST segment whose claim is met (R149, step 6). -/
def openContext (k : Branch) (s : Nat) (f : BranchFrame) (d : Device) : Device :=
  let context : Context :=
    { branch := k, station := s, cid := f.cid, priority := f.priority,
      blocks := [d.blockFor f.payload], startCycle := d.timer.cycle }
  considerPoolEmpty k.line (some s) 1
    { d with pool := d.pool.charge 1 k.line, contexts := d.contexts ++ [context] }

/-- A FIRST segment (R149). -/
def takeFirst (k : Branch) (s : Nat) (f : BranchFrame) (d : Device) : SegmentResult :=
  let d1 := match d.context? k s with
    | some c => abandonContext .restartedByFirst d c
    | none => d
  if (d1.station k s).state = .absent then .ack (d1.bumpLine k.line .unconfigured)
  else if f.payload.length < Config.blockBytes then .ack (d1.bumpLine k.line .malformed)
  else if Config.maxContexts ≤ d1.contexts.length then .busy d1
  else match d1.receiptRefusal k with
    | some _ => .busy d1
    | none => .ack (openContext k s f d1)

/-- A context with one more block, in its place among the contexts (R150, step 6). -/
def Device.appendBlock (d : Device) (c : Context) (b : Block) : List Context :=
  d.contexts.map fun x =>
    if x.branch = c.branch ∧ x.station = c.station then { x with blocks := x.blocks ++ [b] } else x

/-- A MIDDLE whose claim is met is appended (R150, step 6). -/
def appendMiddle (c : Context) (f : BranchFrame) (d : Device) : Device :=
  considerPoolEmpty c.branch.line (some c.station) 1
    { d with
      pool := d.pool.charge 1 c.branch.line,
      contexts := d.appendBlock c (d.blockFor f.payload) }

/-- The frame a completed context makes (R62, R151). -/
def Context.completedFrame (c : Context) (b : Block) : Frame :=
  { chain := c.blocks ++ [b], length := Config.blockBytes * c.blocks.length + b.data.length,
    cid := c.cid, priority := c.priority, ingress := c.branch.line, refs := 1, shared := false,
    fillCycle := none }

/-- A LAST whose claim is met completes its context, which becomes a held frame (R62, R151). -/
def completeContext (c : Context) (f : BranchFrame) (d : Device) : Device :=
  let frame := c.completedFrame (d.blockFor f.payload)
  let d' := { d with
    pool := (d.pool.charge 1 c.branch.line).hold frame,
    contexts := d.contexts.filter fun x => !(x.branch == c.branch && x.station == c.station) }
  considerPoolEmpty c.branch.line (some c.station) 1 (d'.bumpLine c.branch.line .reassembled)

/-- The name of the frame a completed context makes: its first block's number (log 17). -/
def Context.frameRef (c : Context) (b : Block) : Nat := ((c.blocks ++ [b]).headD b).number

/-- Steps 2 to 4 of R150: whether a MIDDLE or LAST makes its context MALFORMED. -/
def Context.malformedBy (c : Context) (f : BranchFrame) : Bool :=
  f.cid != c.cid || 8 ≤ c.blocks.length ||
    (f.position == .middle && decide (f.payload.length < Config.blockBytes)) ||
    (f.position == .last && f.payload.length == 0)

/-- A MIDDLE or LAST segment (R150). -/
def takeNext (k : Branch) (s : Nat) (f : BranchFrame) (d : Device) : SegmentResult :=
  match d.context? k s with
  | none => .ack (d.bumpLine k.line .orphan)
  | some c =>
    if c.malformedBy f then .ack (abandonContext .malformed d c)
    else match d.receiptRefusal k with
      | some _ => .busy d
      | none =>
        if f.position = .last then
          { acknowledged := true, completed := some (c.frameRef (d.blockFor f.payload)),
            dev := completeContext c f d }
        else .ack (appendMiddle c f d)

/-- A segment of position FIRST, MIDDLE or LAST (R148). -/
def takeSegment (k : Branch) (s : Nat) (f : BranchFrame) (d : Device) : SegmentResult :=
  if f.position = .first then takeFirst k s f d else takeNext k s f d

/-- Whether a context has timed out at the start of a cycle (R152). -/
def Device.aged (d : Device) (c : Context) : Bool :=
  Cycle.atOrBehind c.startCycle
    (d.timer.cycle - BitVec.ofNat 16 d.tables.device.reassemblyTimeout)

/-- At a cycle start every context that has timed out is abandoned (R152). -/
def ageContexts (d : Device) : Device :=
  (d.contexts.filter d.aged).foldl (abandonContext .timeout) d

end Sys2Proof.Machine
end

