-- ==== Sys2Proof/Machine/Transactions.lean ====
section
/-! DEFINITION. What happens to a branch transaction: the reply wait, failed attempts and retries,
the replies of each kind, its end, and the sequencer's next step (R112 to R114, R121, R128 to
R137). -/

namespace Sys2Proof.Machine

/-! ### The end of a transaction (R114) -/

/-- A held SET_LINE's response is built when its branch reaches SHUT (R171, R172). -/
def readyResponse (k : Branch) (d : Device) : Device :=
  match d.endpoint.inProgress with
  | some (.setLine b op tag) =>
    if b = k then
      { d with endpoint := { d.endpoint with
        inProgress := some (.ready (responseRecord d op tag { status := .ok })) } }
    else d
  | _ => d

/-- A SHUTTING branch becomes SHUT: it is flushed, LINE_SHUT is raised, and the held response is
ready, to come before any ATTENTION of the same event (R17, R171). -/
def becomeShut (k : Branch) (d : Device) : Device :=
  readyResponse k (raiseEvent .lineShut (some k.line) none 0 (shutBranch k d))

/-- The sequencer's next step after a transaction's end (R114). -/
def nextStep (k : Branch) (d : Device) : Device :=
  match d.admission k with
  | .shutting => becomeShut k d
  | .shut => d
  | .opened =>
    match (d.seq k).pendingStart, (d.seq k).state with
    | some (cycle, deadline), _ => beginCycle k cycle deadline d
    | none, .periodic => periodicStep k (d.pendingElements k) d
    | none, .aperiodic => aperiodicStep k d
    | none, .waiting => d
    | none, .done => d

/-- The in-flight record of a branch is written or ceases. -/
def setInFlight (k : Branch) (r : Option InFlight) (d : Device) : Device :=
  d.setSeq k { d.seq k with inFlight := r }

/-- A transaction's received frame is handed to the Classifier (R31). -/
def handOverReceived (k : Branch) (r : InFlight) (d : Device) : Device :=
  match r.received, r.txn with
  | none, _ => d
  | some ref, .exchange _ _ input _ _ _ => handOver ref (.exchange k r.station input ref) d
  | some ref, _ => handOver ref (.service k r.station ref) d

/-- The output value counts as delivered: the slot is emptied if it still holds the very frame the
transaction recorded (R133). -/
def emptyDeliveredSlot (output : Option Nat) (ref : Nat) (d : Device) : Device :=
  match output with
  | none => d
  | some cid =>
    if d.slots.find? cid = some ref then
      { d with slots := d.slots.erase cid }.releaseFrame ref
    else d

/-- The slot and the transaction's own reference at the end of an EXCHANGE (R133). -/
def finishExchange (output outputFrame : Option Nat) (delivered : Bool) (d : Device) : Device :=
  match outputFrame with
  | none => d
  | some ref => (if delivered then emptyDeliveredSlot output ref d else d).releaseFrame ref

/-- A class joins the class holds for the rest of the branch's cycle (R121). -/
def holdClass (k : Branch) (c : Class) (d : Device) : Device :=
  d.setSeq k { d.seq k with holds := (d.seq k).holds.set c true }

/-- The list element, the slot, or the class of a transaction at its end (R114, R121, R133). -/
def settleTransaction (k : Branch) (r : InFlight) (o : Outcome) (d : Device) : Device :=
  match r.txn with
  | .exchange element output _ outputFrame _ _ =>
    let status := if o = .failed then ElementStatus.failed else .completed
    finishExchange output outputFrame (o = .success) (setElement k element status d)
  | .deliver c _ => if o = .failed then holdClass k c d else d
  | .service => d
  | .probe => d

/-- A transaction ends (R114): station logic, Classifier, list element or delivery; then the
record ceases and the sequencer takes its next step. -/
def endTransaction (k : Branch) (r : InFlight) (o : Outcome) (d : Device) : Device :=
  let d1 := reportOutcome k r.station (r.txn == .probe) o d
  let d2 := settleTransaction k r o (handOverReceived k r d1)
  nextStep k (setInFlight k none d2)

/-! ### Failed attempts (R113) -/

/-- Whether a failed attempt is followed by a retry (R113). -/
def Device.retries (d : Device) (k : Branch) (r : InFlight) : Bool :=
  decide (r.attempt < 1 + (d.settings k.line).retryLimit) && d.admission k == .opened &&
    (d.seq k).pendingStart.isNone && d.fits k r.worst

/-- The waiting attempt fails: a retry starts at once, or the transaction ends as failed (R113). -/
def failAttempt (k : Branch) (r : InFlight) (d : Device) : Device :=
  if d.retries k r then
    startAttempt k { r with attempt := r.attempt + 1 } (d.bumpLine k.line .retries)
  else endTransaction k { r with replyWait := none } .failed d

/-- The record of an attempt whose reply wait is pending (R128). -/
def Device.waiting (d : Device) (k : Branch) : Option InFlight :=
  (d.seq k).inFlight.filter fun r => r.replyWait.isSome

/-- An errored arrival fails the attempt that waits, if one does (R9, R12, R113). -/
def erroredArrival (k : Branch) (d : Device) : Device :=
  match d.waiting k with
  | some r => failAttempt k r d
  | none => d

/-! ### Replies (R129 to R137) -/

/-- The replies allowed for a transaction (R129). -/
def Txn.allows (t : Txn) (f : BranchFrame) : Bool :=
  match t with
  | .exchange .. => (f.kind == .data && f.position == .only) || f.kind == .empty || f.kind == .fault
  | .deliver .. => f.kind == .ack || f.kind == .busy || f.kind == .fault
  | .service => f.kind == .data || f.kind == .empty || f.kind == .fault
  | .probe => f.kind == .data || f.kind == .empty || f.kind == .fault

/-- What an accepted reply is for the station's health (R129). -/
def replyOutcome (f : BranchFrame) : Outcome :=
  if f.kind = .fault then .faultReply (rd1 f.payload 0) else .success

/-- A DATA reply to an EXCHANGE (R18, R133): FLUSHED on a SHUTTING branch, else kept or refused.
The answer is the frame held by the transaction, if one is. -/
def exchangeData (k : Branch) (f : BranchFrame) (d : Device) : Option Nat × Device :=
  if d.admission k = .shutting then (none, d.countReason k.line f.cid .flushed)
  else match d.receiptRefusal k with
    | some r => (none, d.countReason k.line f.cid r)
    | none => (d.pool.free.head?, storeReceipt k f d)

/-- The reply to an EXCHANGE, which ends it (R133). -/
def exchangeReply (k : Branch) (r : InFlight) (f : BranchFrame) (d : Device) : Device :=
  if f.kind = .data then
    let (received, d') := exchangeData k f d
    endTransaction k { r with received := received } .success d'
  else endTransaction k r (replyOutcome f) d

/-- An ACK to a DELIVER (R135): the toggle flips, the segment index advances, and the entry leaves
with the frame's last segment. Where R131 has returned the entry to segment 1 while the DELIVER was
in flight, its partial delivery has ended and its frame is sent again from segment 1 (R131, R145):
the ACK flips the toggle and leaves the entry as it stands, the model's reading (log 30). -/
def deliverAck (k : Branch) (s : Nat) (c : Class) (segment : Nat) (d : Device) : Device :=
  let d' := flipDown k s d
  match d'.queue k.line c with
  | [] => d'
  | e :: es =>
    if e.nextSegment ≠ segment then d'
    else if (d'.segmentOf e segment).2 ≤ segment then
      (removeHead k c es d').releaseFrame e.frame
    else
      let d'' := d'.setQueue k.line c ({ e with nextSegment := e.nextSegment + 1 } :: es)
      d''.setSeq k { d''.seq k with delivering := some c }

/-- A BUSY to a DELIVER (R121, R135): counted, the class held, the busy count raised, and the
entry removed at the busy limit. -/
def deliverBusy (k : Branch) (s : Nat) (c : Class) (d : Device) : Device :=
  let d' := holdClass k c (d.bumpBoth k s .busyReceived .busyReceived)
  match d'.queue k.line c with
  | [] => d'
  | e :: es =>
    if e.busy + 1 = (d'.settings k.line).busyLimit then
      (removeHead k c es d').dropFrame k.line e.frame .busyLimit
    else d'.setQueue k.line c ({ e with busy := e.busy + 1 } :: es)

/-- The reply to a DELIVER, which ends it (R135). -/
def deliverReply (k : Branch) (r : InFlight) (c : Class) (segment : Nat) (f : BranchFrame)
    (d : Device) : Device :=
  let d' :=
    if f.kind = .ack then deliverAck k r.station c segment d
    else if f.kind = .busy then deliverBusy k r.station c d
    else d
  endTransaction k r (replyOutcome f) d'

/-- The part's own answer to a SERVICE DATA reply starts; the transaction ends at its completion
(R137). -/
def sendAnswer (k : Branch) (r : InFlight) (kind : BranchKind) (d : Device) : Device :=
  sendBranch k .answer (BranchFrame.bare kind r.station false 0)
    (setInFlight k (some { r with replyWait := none }) d)

/-- The answer ACK with the up toggle expected flipped, and the frame the transaction then holds
(R137). -/
def answerAck (k : Branch) (r : InFlight) (received : Option Nat) (d : Device) : Device :=
  sendAnswer k { r with received := received } .ack (flipUp k r.station d)

/-- The answer BUSY, counted on the branch and against the station (R137). -/
def answerBusy (k : Branch) (r : InFlight) (d : Device) : Device :=
  sendAnswer k r .busy (d.bumpBoth k r.station .busySent .busySent)

/-- A DATA reply to a SERVICE or probe (R137). -/
def serviceData (k : Branch) (r : InFlight) (f : BranchFrame) (d : Device) : Device :=
  if d.admission k = .shutting then answerBusy k r d
  else if f.toggle ≠ (d.station k r.station).upExpected then
    sendAnswer k r .ack (d.bumpBoth k r.station .duplicate .duplicate)
  else if f.position = .only then
    match d.receiptRefusal k with
    | some _ => answerBusy k r d
    | none => answerAck k r d.pool.free.head? (storeReceipt k f d)
  else
    let result := takeSegment k r.station f d
    if result.acknowledged then answerAck k r result.completed result.dev
    else answerBusy k r result.dev

/-- The reply to a SERVICE or probe (R136, R137). -/
def serviceReply (k : Branch) (r : InFlight) (f : BranchFrame) (d : Device) : Device :=
  if f.kind = .data then serviceData k r f d else endTransaction k r (replyOutcome f) d

/-- An accepted reply: the timeout is cancelled, resync acts first, then the rule of the
transaction's kind (R128, R129, R131). -/
def acceptReply (k : Branch) (r : InFlight) (f : BranchFrame) (d : Device) : Device :=
  let r' := { r with replyWait := none }
  let d' := resyncOnReply k r.station (setInFlight k (some r') d)
  match r.txn with
  | .exchange .. => exchangeReply k r' f d'
  | .deliver c segment => deliverReply k r' c segment f d'
  | .service => serviceReply k r' f d'
  | .probe => serviceReply k r' f d'

/-- A valid frame that no attempt waits for (R130). -/
def unexpectedFrame (k : Branch) (f : BranchFrame) (d : Device) : Device :=
  if f.station = 0 then d.bumpLine k.line .unexpected
  else d.bumpBoth k f.station .unexpected .unexpected

/-- A valid frame reaches the Branch Sequencer (R113, R128 to R130). -/
def validArrival (k : Branch) (f : BranchFrame) (d : Device) : Device :=
  match d.waiting k with
  | none => unexpectedFrame k f d
  | some r =>
    if f.station = r.station ∧ r.txn.allows f then acceptReply k r f d
    else failAttempt k r (d.bumpBoth k r.station .protocolError .protocolError)

/-! ### Completions (R13) -/

/-- At the completion of a request the reply wait begins (R128). -/
def startWait (k : Branch) (r : InFlight) (d : Device) : Device :=
  setInFlight k (some { r with replyWait := some (d.now + (d.settings k.line).replyTimeout * 1000) })
    d

/-- What the completion of a branch frame leads to (R105, R108, R114, R115, R128). A frame whose
transaction or cycle is gone leads to nothing but a deferred cycle. -/
def afterBranchFrame (k : Branch) (role : TxRole) (d : Device) : Device :=
  match (d.seq k).inFlight with
  | some r =>
    match role with
    | .request => startWait k r d
    | .answer => endTransaction k r .success d
    | .cycle => d
  | none =>
    if d.admission k = .opened then
      match (d.seq k).pendingStart, (d.seq k).state with
      | some (cycle, deadline), _ => beginCycle k cycle deadline d
      | none, .periodic => periodicStep k (d.pendingElements k) d
      | none, _ => d
    else d

end Sys2Proof.Machine
end

