-- ==== Sys2Proof/Machine/ChangeUnit.lean ====
section
/-! DEFINITION. The Change Unit: staging, discarding, validation, commit, application and
abandonment (Chapter 10). -/

namespace Sys2Proof.Machine

/-! ### The resulting tables (Section 10.6) -/

/-- Tables with one list entry applied; a REMOVE makes its circuit absent or its schedule entry
inactive (R166). -/
def Tables.withEntry (t : Tables) (e : Staged) : Tables :=
  match e.action, e.unit with
  | .remove, 1 => { t with circuits := t.circuits.erase e.index }
  | .remove, 3 => { t with schedule := t.schedule.erase e.index }
  | .remove, _ => t
  | .content bs, 1 => { t with circuits := t.circuits.insert e.index (decodeCircuit bs) }
  | .content bs, 2 => { t with meters := t.meters.put MeterSettings.powerOn e.index (decodeMeter bs) }
  | .content bs, 3 => { t with schedule := t.schedule.insert e.index (decodeSched bs) }
  | .content bs, 4 =>
    { t with stations :=
        t.stations.put StationConfig.powerOn e.index (decodeStationConfig bs) }
  | .content bs, 5 =>
    { t with lines := t.lines.set (Line.ofIndex e.index) (decodeLineSettings bs) }
  | .content bs, 6 => { t with priorities := t.priorities.set e.index (Class.ofIndex (rd1 bs 0)) }
  | .content bs, 7 => { t with thinning := t.thinning.set e.index (rd2 bs 0) }
  | .content bs, 8 => { t with device := decodeDeviceSettings bs }
  | .content _, _ => t

/-- The tables a commit of a list would leave in force (Section 10.6). -/
def Tables.withList (t : Tables) (list : List Staged) : Tables := list.foldl Tables.withEntry t

/-! ### Validation (R163 to R165) -/

/-- Whether a station of a branch is configured in some tables. -/
def Tables.configured (t : Tables) (k : Branch) (s : Nat) : Bool :=
  (t.stations.get StationConfig.powerOn (stationIndex k s)).configured

/-- A station field that must be present on a branch line, configured there, and absent on T
(R24). -/
def Tables.stationFits (t : Tables) (l : Line) (s : Option Nat) : Bool :=
  match l.branch?, s with
  | none, none => true
  | some k, some s => t.configured k s
  | _, _ => false

/-- The branches of an egress set. -/
def egressBranches (e : PerLine Bool) : List Branch := (egressLines e).filterMap Line.branch?

/-- The egress station of a circuit fits its egress set (R24). -/
def Tables.egressFits (t : Tables) (c : Circuit) : Bool :=
  match c.egressStation with
  | none => (egressBranches c.egress).isEmpty
  | some s =>
    !(egressBranches c.egress).isEmpty && (egressBranches c.egress).all fun k => t.configured k s

/-- The shape every present circuit has (R24). -/
def Tables.shapeOk (t : Tables) (c : Circuit) : Bool :=
  t.stationFits c.ingressLine c.ingressStation &&
  !(egressLines c.egress).isEmpty && !c.egress.get c.ingressLine &&
  (c.kind == .aperiodic || ((egressLines c.egress).length == 1 && decide (c.maxLength ≤ 128))) &&
  t.egressFits c

/-- Check 1: the first circuit of another shape (R163). -/
def Tables.badCircuit (t : Tables) : Option Nat :=
  (t.circuits.cells.find? fun c => !t.shapeOk c.2).map Prod.fst

/-- The branch of a Poll Schedule index (R155). -/
def scheduleBranch (index : Nat) : Branch := Branch.ofIndex (index / 48)

/-- What an output circuit of an entry on branch k with station s must be (R163). -/
def Tables.outputOk (t : Tables) (k : Branch) (s : Nat) (cid : Option Nat) : Bool :=
  match cid with
  | none => true
  | some cid =>
    match t.circuits.find? cid with
    | none => false
    | some c =>
      c.kind == .periodic && egressLines c.egress == [k.line] && c.egressStation == some s

/-- What an input circuit of an entry on branch k with station s must be (R163). -/
def Tables.inputOk (t : Tables) (k : Branch) (s : Nat) (cid : Option Nat) : Bool :=
  match cid with
  | none => true
  | some cid =>
    match t.circuits.find? cid with
    | none => false
    | some c =>
      c.kind == .periodic && c.ingressLine == k.line && c.ingressStation == some s

/-- No entry of lower index names the same circuit as its output, or as its input (R163). -/
def Tables.namedOnce (t : Tables) (index : Nat) (e : SchedEntry) : Bool :=
  t.schedule.cells.all fun c =>
    index ≤ c.1 ||
      ((e.output.isNone || c.2.output != e.output) && (e.input.isNone || c.2.input != e.input))

/-- What every active schedule entry must meet (R163). -/
def Tables.entryRefsOk (t : Tables) (index : Nat) (e : SchedEntry) : Bool :=
  let k := scheduleBranch index
  t.configured k e.station && t.outputOk k e.station e.output && t.inputOk k e.station e.input &&
    t.namedOnce index e

/-- Check 2: the first schedule entry whose references fail (R163). -/
def Tables.badReference (t : Tables) : Option Nat :=
  (t.schedule.cells.find? fun c => !t.entryRefsOk c.1 c.2).map Prod.fst

/-- The overbooking limit of a branch in ns (R164). -/
def Tables.overbookingLimit (t : Tables) (k : Branch) : Int :=
  let ls := t.lines.get k.line
  (ls.reserve : Int) * ((t.device.d : Int) - t.device.g) * 10 - 7 * ls.byteTime

/-- The worst case of a schedule entry with the max lengths of the resulting circuits (R164). -/
def Tables.entryWorst (t : Tables) (k : Branch) (e : SchedEntry) : Nat :=
  exchangeWorst (t.lines.get k.line) (maxLengthIn t.circuits e.output)
    (maxLengthIn t.circuits e.input)

/-- The first entry whose addition brings the sum above a limit (R164). -/
def firstOver (limit : Int) (worst : SchedEntry → Nat) :
    Int → List (Nat × SchedEntry) → Option Nat
  | _, [] => none
  | sum, (i, e) :: es =>
    if limit < sum + worst e then some i else firstOver limit worst (sum + worst e) es

/-- The entries of residue r (R164). -/
def entriesOfResidue (entries : List (Nat × SchedEntry)) (r : Nat) : List (Nat × SchedEntry) :=
  entries.filter fun c => r % c.2.period == c.2.phase

/-- Check 3 for one branch (R164). -/
def Tables.overbooked (t : Tables) (k : Branch) : Option Nat :=
  let entries := branchEntries t.schedule k
  if entries.isEmpty then none
  else (List.range 128).findSome? fun r =>
    firstOver (t.overbookingLimit k) (t.entryWorst k) 0 (entriesOfResidue entries r)

/-- Check 4: a Line Settings entry for a branch that is not SHUT (R165). -/
def Device.badLineEntry (d : Device) (list : List Staged) : Option Nat :=
  (Line.all.find? fun l =>
    list.any (fun e => e.unit == 5 && e.index == l.toNat) &&
      match l.branch? with
      | none => false
      | some k => d.admission k != .shut).map Line.toNat

/-- Check 5: W is above D ÷ 4, or G is at or above D (R165). -/
def DeviceSettings.crossOk (s : DeviceSettings) : Bool := s.w ≤ s.d / 4 && s.g < s.d

/-- The validation of a commit: the unit and index of the first failure, in the order of R163. -/
def Device.conflict (d : Device) : Option (Nat × Nat) :=
  let t := d.tables.withList d.change.list
  match t.badCircuit, t.badReference, Branch.all.findSome? t.overbooked,
      d.badLineEntry d.change.list with
  | some cid, _, _, _ => some (1, cid)
  | none, some i, _, _ => some (3, i)
  | none, none, some i, _ => some (3, i)
  | none, none, none, some l => some (5, l)
  | none, none, none, none => if t.device.crossOk then none else some (8, 0)

/-! ### Application (R166, R167) -/

/-- Whether a change of a circuit reconfigures its slot: removed, or its kind, ingress line or
egress set changed (R102). -/
def reconfigures (old new : Option Circuit) : Bool :=
  match old, new with
  | none, _ => false
  | some _, none => true
  | some o, some n => o.kind != n.kind || o.ingressLine != n.ingressLine || o.egress != n.egress

/-- The slot of a circuit is emptied RECONFIGURED if the entry reconfigures it (R102). `old` is
the Circuit Table before the application. -/
def applyToSlot (old : Table Circuit) (d : Device) (e : Staged) : Device :=
  if e.unit = 1 ∧ reconfigures (old.find? e.index) (d.circuit? e.index) then
    match old.find? e.index, d.slots.find? e.index with
    | some c, some ref => dropSlot c.slotLine .reconfigured d (e.index, ref)
    | _, _ => d
  else d

/-- A written meter has both buckets full (R50). -/
def applyToMeter (d : Device) (e : Staged) : Device :=
  if e.unit = 2 then fillMeter e.index d else d

/-- The branch and the station of a station index (R125). -/
def stationOfIndex (index : Nat) : Branch × Nat := (Branch.ofIndex (index / 30), index % 30 + 1)

/-- A station's context is abandoned UNCONFIGURED (R141, R153). -/
def unconfigureContext (k : Branch) (s : Nat) (d : Device) : Device :=
  match d.context? k s with
  | some c => abandonContext .unconfigured d c
  | none => d

/-- A station that the entry configures or unconfigures (R131, R141). `old` is the Station
Configuration before the application. -/
def applyToStation (old : Table StationConfig) (d : Device) (e : Staged) : Device :=
  if e.unit = 4 then
    let (k, s) := stationOfIndex e.index
    let x := d.station k s
    match (old.get StationConfig.powerOn e.index).configured, (d.stationConfig k s).configured with
    | false, true => rewindDelivery k s (d.setStation k s (x.reconfigured true))
    | true, false => unconfigureContext k s (d.setStation k s (x.reconfigured false))
    | _, _ => d
  else d

/-- The credits of a line with a Line Settings entry go to the new weights (R92). -/
def applyToCredits (d : Device) (e : Staged) : Device :=
  if e.unit = 5 then resetCredits (Line.ofIndex e.index) d else d

/-- The Change Unit after an application (R166). -/
def Change.applied (c : Change) : Change :=
  { state := .empty, list := [], target := none, generation := c.generation + 1 }

/-- The list is applied: every entry takes effect together, with the effects of R167. The event is
raised by the caller. -/
def applyList (d : Device) : Device :=
  let list := d.change.list
  let d1 := { d with tables := d.tables.withList list, change := d.change.applied }
  let d2 := list.foldl (applyToSlot d.tables.circuits) d1
  let d3 := list.foldl applyToMeter d2
  let d4 := list.foldl (applyToStation d.tables.stations) d3
  list.foldl applyToCredits d4

/-- A slip abandons the armed commit: the list is kept (R168). -/
def Change.abandoned (c : Change) : Change := { c with state := .staging, target := none }

/-! ### STAGE, DISCARD and COMMIT (R159 to R162) -/

/-- An entry replaces the one staged for the same unit and index in place, or joins the end
(R159). -/
def stageEntry (list : List Staged) (e : Staged) : List Staged :=
  if list.any fun x => x.unit == e.unit && x.index == e.index then
    list.map fun x => if x.unit = e.unit ∧ x.index = e.index then e else x
  else list ++ [e]

/-- What a staged entry asks for: a first byte of 00h in unit 1 or 3 asks for removal (R21). -/
def actionOf (unit : Nat) (bs : List Byte) : Action :=
  if (unit = 1 ∨ unit = 3) ∧ rd1 bs 0 = 0 then .remove else .content bs

/-- The entries of a STAGE request: `count` of them, of `size` bytes, from `index` on. -/
def stagedEntries (unit size : Nat) : Nat → Nat → List Byte → List Staged
  | _, 0, _ => []
  | index, n + 1, bs =>
    { unit := unit, index := index, action := actionOf unit (bs.take size) } ::
      stagedEntries unit size (index + 1) n (bs.drop size)

/-- Whether every entry of a STAGE request passes its field checks (R159, check 5). -/
def entriesOk (unit size : Nat) : Nat → List Byte → Bool
  | 0, _ => true
  | n + 1, bs => entryOk unit (bs.take size) && entriesOk unit size n (bs.drop size)

/-- How many entries of a request are not already on the list (R159, check 6). -/
def newEntries (list new : List Staged) : Nat :=
  (new.filter fun e => !(list.any fun x => x.unit == e.unit && x.index == e.index)).length

/-- STAGE (R159). -/
def performStage (unit index count : Nat) (entries : List Byte) (d : Device) : Device × Reply :=
  match unitShape unit with
  | none => (d, { status := .badUnit })
  | some (indices, size) =>
    let new := stagedEntries unit size index count entries
    if isReadOnly unit then (d, { status := .readOnly })
    else if indices < index + count then (d, { status := .badIndex })
    else if d.change.state = .armed then (d, { status := .armed })
    else if !entriesOk unit size count entries then (d, { status := .badValue })
    else if Config.maxStaged < d.change.list.length + newEntries d.change.list new then
      (d, { status := .listFull })
    else
      ({ d with change := { d.change with
          state := .staging, list := new.foldl stageEntry d.change.list } },
        { status := .ok })

/-- DISCARD (R161). -/
def performDiscard (d : Device) : Device × Reply :=
  ({ d with change := { d.change with state := .empty, list := [], target := none } },
    { status := .ok })

/-- The list is armed for a target (R162). -/
def armList (target : Cycle) (d : Device) : Device × Reply :=
  ({ d with change := { d.change with state := .armed, target := some target } },
    { status := .ok })

/-- An accepted COMMIT IMMEDIATE: the list is applied and COMMIT_APPLIED is raised in the performing
of the request, whose response takes the slot before an ATTENTION (R162, R166, log 14). -/
def commitNow (d : Device) : Device × Reply :=
  let d' := applyList d
  (raiseEvent .commitApplied none none d'.change.generation.toNat d', { status := .ok })

/-- Whether a target cycle number lies 1..4096 ahead of the present one (R162, check 6). -/
def targetOk (target now : Cycle) : Bool :=
  1 ≤ (target - now).toNat && (target - now).toNat ≤ Config.maxTargetDistance

/-- The target of a COMMIT: NEXT is the cycle number plus one (R162). -/
def commitTarget (kind : Nat) (number now : Cycle) : Cycle := if kind = 1 then now + 1 else number

/-- COMMIT (R162): the target kind is argument A, the target cycle number argument B. -/
def performCommit (kind : Nat) (number : Cycle) (d : Device) : Device × Reply :=
  let target := commitTarget kind number d.timer.cycle
  if d.change.state = .empty then (d, { status := .emptyList })
  else if d.change.state = .armed then (d, { status := .armed })
  else if 2 < kind then (d, { status := .badValue })
  else if kind = 0 ∧ d.timer.state ≠ .unlocked then (d, { status := .notUnlocked })
  else if kind ≠ 0 ∧ d.timer.state = .unlocked then (d, { status := .badTarget })
  else if kind ≠ 0 ∧ !targetOk target d.timer.cycle then (d, { status := .badTarget })
  else match d.conflict with
    | some (unit, index) => (d, { status := .conflict, detailUnit := unit, detailIndex := index })
    | none => if kind = 0 then commitNow d else armList target d

end Sys2Proof.Machine
end

