-- ==== Sys2Proof/Machine/CycleTimer.lean ====
section
/-! DEFINITION. The Cycle Timer: cycle starts from CYCLE frames and from its own expiries, slips,
and the hand-out of a cycle start to every owner of per-cycle work (Chapter 5). -/

namespace Sys2Proof.Machine

/-- Microseconds in nanoseconds. -/
def us (n : Nat) : Nat := n * 1000

/-- The deadline of the cycle that started last: t + D − G with the settings in force for it
(R85). -/
def Device.cycleDeadline (d : Device) : Nat :=
  d.now + us d.tables.device.d - us d.tables.device.g

/-- The pending expiry of a cycle that starts now: the lock window with the early threshold while
LOCKED, else the local cycle (R74, R76). -/
def Device.newExpiry (d : Device) : Expiry :=
  let s := d.tables.device
  match d.timer.state with
  | .locked => .lockWindow (d.now + us s.d - us s.w) (d.now + us s.d + us s.w)
  | _ => .localCycle (d.now + us s.d)

/-- The cycle number, the last start instant, the state and the miss count at a start (R76). -/
def startTimer (number : Cycle) (st : TimerState) (miss : Nat) (d : Device) : Device :=
  { d with timer := { d.timer with
    state := st, cycle := number, miss := miss, lastStart := some d.now } }

/-- The pending expiry is set under the settings in force for the new cycle (R74, R76). -/
def setExpiry (d : Device) : Device :=
  { d with timer := { d.timer with expiry := some d.newExpiry } }

/-! ### The Change Unit at a cycle start (R76, R166, R168) -/

/-- What a cycle start does to the armed commit. -/
inductive ChangeAct where
  | nothing
  | applies
  | abandons (target : Cycle)
deriving DecidableEq, Repr

/-- A slip abandons an armed commit; another start applies it when its number is the target
(R166, R168). The cycle number is already the new one. -/
def Device.changeAct (d : Device) (slip : Bool) : ChangeAct :=
  match d.change.state, d.change.target with
  | .armed, some target =>
    if slip then .abandons target else if target = d.timer.cycle then .applies else .nothing
  | _, _ => .nothing

/-- Whether some T slot is both late at this start and reconfigured by the list: then R102 lets
either be taken first. -/
def Device.lateMeetsCommit (d : Device) : Bool :=
  let new := (d.tables.withList d.change.list).circuits
  ((d.slotsAt .t).filter fun s => d.isLate s.2).any fun s =>
    reconfigures (d.circuit? s.1) (new.find? s.1)

/-- An armed commit is applied at a cycle start; where lateness meets it, a free choice says which
is taken first (R102, log 12). A context that is due for ageing at the very start whose commit
unconfigures its station is given up here, UNCONFIGURED and not TIMEOUT: no rule says which is
counted, and this is the model's choice (log 10). -/
def applyAtStart (d : Device) : Device :=
  if d.lateMeetsCommit then
    let d' := { d with choices := d.choices + 1 }
    if Config.latenessFirst d.choices then applyList (discardLate d') else applyList d'
  else applyList d

/-- The armed commit at a cycle start (R166, R168). -/
def actOnCommit (act : ChangeAct) (d : Device) : Device :=
  match act with
  | .nothing => d
  | .applies => applyAtStart d
  | .abandons _ => { d with change := d.change.abandoned }

/-- COMMIT_APPLIED or COMMIT_ABANDONED (R166, R168, R175). -/
def raiseCommit (act : ChangeAct) (d : Device) : Device :=
  match act with
  | .nothing => d
  | .applies => raiseEvent .commitApplied none none d.change.generation.toNat d
  | .abandons target => raiseEvent .commitAbandoned none none target.toNat d

/-! ### The other owners (R76) -/

/-- The cycle start reaches the owners of per-cycle work, with the tables in force for the cycle:
meters, trunk slots, contexts, probe countdowns and sequencers. The commit has been applied
before, which is the model's order; contexts that it abandoned are not there to age (R76,
log 10). -/
def handOut (d : Device) : Device :=
  let d' := countDownProbes (ageContexts (discardLate (refillMeters d)))
  Branch.all.foldl (branchCycleStart d'.timer.cycle d'.cycleDeadline) d'

/-! ### Starts from CYCLE frames (R78, R79, R82, R83) -/

/-- Whether a CYCLE frame's start is a slip (R83). -/
def Timer.slips (t : Timer) (number : Cycle) : Bool :=
  t.state != .unlocked && number != t.cycle + 1

/-- CYCLE_LOCKED, and CYCLE_SLIP after it, for a start from a CYCLE frame; `old` is the timer
before the arrival (R84). -/
def raiseFrameEvents (old : Timer) (slip : Bool) (d : Device) : Device :=
  let d' := if old.state ≠ .locked then raiseEvent .cycleLocked (some .t) none old.miss d else d
  if slip then raiseEvent .cycleSlip (some .t) none (old.cycle + 1).toNat d' else d'

/-- A CYCLE frame starts a cycle with its own number; the timer is LOCKED (R78, R79, R82). The
commit acts before the cycle events are raised, so whether one calls attention is judged after the
commit: the model's order (log 10). -/
def frameStart (number : Cycle) (d : Device) : Device :=
  let old := d.timer
  let slip := old.slips number
  let d1 := startTimer number .locked 0 d
  let act := d1.changeAct slip
  let d2 := setExpiry (actOnCommit act d1)
  handOut (raiseCommit act (raiseFrameEvents old slip d2))

/-- A CYCLE arrival at the timer: early in LOCKED before the early threshold, else a start (R78,
R79, R82). -/
def timerArrival (number : Cycle) (d : Device) : Device :=
  match d.timer.state, d.timer.expiry with
  | .locked, some (.lockWindow early _) =>
    if d.now < early then d.bumpLine .t .earlyCycle else frameStart number d
  | _, _ => frameStart number d

/-! ### Local starts (R80, R81) -/

/-- Whether a local start takes the timer to FREE: the miss count has reached N in force or passed
it (R80, R81). `before` is the N in force before the start: a count that is at or above a new,
lower N only is judged at the next local start (R74, log 11). -/
def Device.becomesFree (before : Nat) (d : Device) : Bool :=
  d.timer.state == .coasting && max before d.tables.device.n ≤ d.timer.miss

/-- The timer goes on to FREE and CYCLE_FREE is raised (R80, R81, R84). -/
def goFree (d : Device) : Device :=
  raiseEvent .cycleFree (some .t) none d.tables.device.n
    { d with timer := { d.timer with state := .free } }

/-- CYCLE_COASTING when the lock window ended, and the judgement of N (R80, R81, R84). -/
def raiseLocalEvents (fromLocked : Bool) (before : Nat) (d : Device) : Device :=
  let d' := if fromLocked then raiseEvent .cycleCoasting (some .t) none 0 d else d
  if d'.becomesFree before then goFree d' else d'

/-- A local cycle starts, numbered one more than the last; never a slip (R80, R81). As at a CYCLE
frame, the commit acts before the cycle events (log 10). -/
def localStart (d : Device) : Device :=
  let old := d.timer
  let st := if old.state = .free then TimerState.free else .coasting
  let d1 := startTimer (old.cycle + 1) st (min (old.miss + 1) 65535) d
  let act := d1.changeAct false
  let d2 := setExpiry (actOnCommit act d1)
  handOut (raiseCommit act (raiseLocalEvents (old.state = .locked) d.tables.device.n d2))

/-- The lock-window expiry is reached with no CYCLE frame taken (R80). -/
def lockWindowDue (d : Device) : Device :=
  match d.timer.expiry with
  | some (.lockWindow _ due) => localStart { d with now := due }
  | _ => d

/-- The local-cycle expiry is reached (R81). -/
def localCycleDue (d : Device) : Device :=
  match d.timer.expiry with
  | some (.localCycle due) => localStart { d with now := due }
  | _ => d

end Sys2Proof.Machine
end

