-- ==== Sys2Proof/Machine/Endpoint.lean ====
section
/-! DEFINITION. The Management Endpoint: the entries a READ returns, every request's performing,
the slot rule, and the restart (Chapter 11). -/

namespace Sys2Proof.Machine

/-! ### Entries of the read-only units (R44, R48, R127, R158, R173) -/

/-- The counters of a table in order, four bytes each. -/
def encodeCounters (t : Table Nat) (n : Nat) : List Byte :=
  (List.range n).flatMap fun i => be4 (t.get 0 i)

/-- A Station Status entry (R127). -/
def encodeStation (x : Station) : List Byte :=
  [byteOf x.state.ctorIdx, byteOf x.failureCount] ++ boolByte x.resyncPending ++
    boolByte x.downToggle ++ boolByte x.upExpected ++ be2 x.probeCountdown ++
    [byteOf x.lastFaultCode] ++ boolByte x.serviced ++ encodeCounters x.counters 9

/-- The admission state of a line as Line Status carries it (R173). -/
def Device.admissionCode (d : Device) (l : Line) : Nat :=
  match l.branch? with
  | none => if d.trunkAdm = .opened then 1 else 0
  | some k =>
    match d.admission k with
    | .shut => 0
    | .opened => 1
    | .shutting => 2

/-- The captured bytes and cycle number; zeros when the record is empty (R173). -/
def encodeCapture (c : Capture) : List Byte :=
  match c.filled with
  | some x => boolByte true ++ x.bytes ++ be2 x.cycle.toNat ++ be4 c.errorCount
  | none => boolByte false ++ List.replicate 7 (byteOf 0) ++ be2 0 ++ be4 c.errorCount

/-- The sequencer fields of Line Status; T carries 0, 0 and FFh (R105). -/
def Device.sequencerFields (d : Device) (l : Line) : List Byte :=
  match l.branch? with
  | none => [byteOf 0, byteOf 0, byteOf 255]
  | some k =>
    [byteOf (d.seq k).state.ctorIdx] ++ boolByte (d.seq k).pendingStart.isSome ++
      optByte ((d.seq k).delivering.map Class.toNat)

/-- A Line Status entry (R173). -/
def Device.encodeLineStatus (d : Device) (l : Line) : List Byte :=
  [byteOf (d.admissionCode l)] ++ boolByte (d.lineIf l).headerError ++
    boolByte (d.lineIf l).payloadError ++ encodeCapture (d.lineIf l).capture ++
    be2 (d.pool.usage.get l) ++ (Class.all.flatMap fun c => be2 (d.queue l c).length) ++
    be2 (d.slotsAt l).length ++ d.sequencerFields l

/-- A Meter Counters entry (R48). -/
def encodeMeterState (m : MeterState) : List Byte :=
  be4 m.green ++ be4 m.yellow ++ be4 m.red ++ be2 m.committed ++ be2 m.excess

/-- The Device Status entry (R173). -/
def Device.encodeDeviceStatus (d : Device) : List Byte :=
  [byteOf d.timer.state.ctorIdx] ++ be2 d.timer.cycle.toNat ++ be2 d.timer.miss ++
    [byteOf d.change.state.code] ++ be2 d.change.generation.toNat ++
    [byteOf d.change.list.length] ++ be2 ((d.change.target.map BitVec.toNat).getD 0) ++
    be2 d.pool.free.length ++ be2 d.pool.sharedCount ++ [byteOf d.contexts.length] ++
    [byteOf d.endpoint.events.length] ++ boolByte d.endpoint.eventsLost ++
    boolByte d.endpoint.mgmtOverrun ++ boolByte d.endpoint.attnOutstanding ++
    be4 d.endpoint.overrunCount ++ be4 d.endpoint.notMineCount

/-- Bytes followed by 00h to a size. -/
def padTo (n : Nat) (bs : List Byte) : List Byte := bs ++ List.replicate (n - bs.length) (byteOf 0)

/-- A Pending Change List position (R158); one beyond the list is all 00h. -/
def encodeStaged : Option Staged → List Byte
  | none => padTo 32 []
  | some e =>
    boolByte true ++ [byteOf e.unit] ++ be2 e.index ++
      match e.action with
      | .content bs => [byteOf 0] ++ padTo 27 bs
      | .remove => [byteOf 1] ++ padTo 27 []

/-- The entry of a unit at an index as a READ returns it: loadable units in force, read-only units
as they stand (R173). -/
def Device.readEntry (d : Device) (unit i : Nat) : List Byte :=
  match unit with
  | 1 => encodeCircuit (d.circuit? i)
  | 2 => encodeMeter (d.meterSettings i)
  | 3 => encodeSched (d.tables.schedule.find? i)
  | 4 => encodeStationConfig (d.tables.stations.get StationConfig.powerOn i)
  | 5 => encodeLineSettings (d.settings (Line.ofIndex i))
  | 6 => [byteOf (d.tables.priorities.getD i .c0).toNat]
  | 7 => be2 (d.tables.thinning.getD i 0)
  | 8 => encodeDeviceSettings d.tables.device
  | 16 => encodeStation (d.stations.get Station.powerOn i)
  | 17 => d.encodeLineStatus (Line.ofIndex i)
  | 18 => encodeCounters (d.lineIf (Line.ofIndex i)).counters 41
  | 19 => encodeCounters (d.circuitCounters.get Table.empty i) 19
  | 20 => encodeMeterState (d.meterState i)
  | 21 => d.encodeDeviceStatus
  | 22 => encodeStaged d.change.list[i]?
  | _ => []

/-! ### The requests (R172 to R177) -/

/-- READ (R173). -/
def performRead (unit index count : Nat) (d : Device) : Reply :=
  match unitShape unit with
  | none => { status := .badUnit }
  | some (indices, size) =>
    if indices < index + count then { status := .badIndex }
    else if Config.maxPayload < 14 + count * size then { status := .badFormat }
    else { status := .ok, count := count,
           entries := (List.range' index count).flatMap (d.readEntry unit) }

/-- The station record at an index with its counters at 0 (R127). -/
def clearStation (d : Device) (i : Nat) : Device :=
  let x := d.stations.get Station.powerOn i
  { d with stations := d.stations.put Station.powerOn i { x with counters := Table.empty } }

/-- A line's two flags cleared and its capture record emptied (R11). -/
def clearLineFlags (d : Device) (l : Line) : Device :=
  d.setLineIf l { d.lineIf l with
    headerError := false, payloadError := false, capture := { filled := none, errorCount := 0 } }

/-- A line's counters at 0 (R11). -/
def clearLineCounters (d : Device) (l : Line) : Device :=
  d.setLineIf l { d.lineIf l with counters := Table.empty }

/-- A meter's colour counters at 0, its levels as they are (R48). -/
def clearMeter (d : Device) (m : Nat) : Device :=
  d.setMeterState m { d.meterState m with green := 0, yellow := 0, red := 0 }

/-- What a CLEAR of a unit does at one index (R174). -/
def clearEntry (unit : Nat) (d : Device) (i : Nat) : Device :=
  match unit with
  | 16 => clearStation d i
  | 17 => clearLineFlags d (Line.ofIndex i)
  | 18 => clearLineCounters d (Line.ofIndex i)
  | 19 => { d with circuitCounters := d.circuitCounters.put Table.empty i Table.empty }
  | 20 => clearMeter d i
  | 21 => { d with endpoint := { d.endpoint with
      mgmtOverrun := false, eventsLost := false, overrunCount := 0, notMineCount := 0 } }
  | _ => d

/-- CLEAR (R174). -/
def performClear (unit index count : Nat) (d : Device) : Device × Reply :=
  if !(16 ≤ unit && unit ≤ 21) then (d, { status := .badUnit })
  else match unitShape unit with
    | none => (d, { status := .badUnit })
    | some (indices, _) =>
      if indices < index + count then (d, { status := .badIndex })
      else ((List.range' index count).foldl (clearEntry unit) d, { status := .ok })

/-- TAKE_EVENTS (R175). -/
def performTakeEvents (count : Nat) (d : Device) : Device × Reply :=
  let p := d.endpoint
  let taken := p.events.take count
  let left := p.events.drop count
  ({ d with endpoint := { p with events := left, eventsLost := false, attnOutstanding := false } },
    { status := .ok, detailUnit := if p.eventsLost then 1 else 0, detailIndex := left.length,
      count := taken.length, entries := taken.flatMap encodeEvent })

/-- SET_LINE of the trunk (R15). -/
def setTrunk (state : Nat) (d : Device) : Device × Reply :=
  match state, d.trunkAdm with
  | 0, .mgmtOnly => (d, { status := .ok })
  | 0, .opened => (flushTrunk { d with trunkAdm := .mgmtOnly }, { status := .ok })
  | 1, _ => ({ d with trunkAdm := .opened }, { status := .ok })
  | _, _ => (d, { status := .lineState })

/-- Whether the armed list holds a Line Settings entry for a line (R16). -/
def Change.armedFor (c : Change) (l : Line) : Bool :=
  c.state == .armed && c.list.any fun e => e.unit == 5 && e.index == l.toNat

/-- A SHUT branch opens; its sequencer stays WAITING until a cycle start (R16). -/
def openBranch (k : Branch) (d : Device) : Device :=
  markResyncAll k { d.setAdmission k .opened with openedAt := d.openedAt.set k d.now }

/-- SET_LINE of a branch (R16, R17). No reply means that the request is held. -/
def setBranch (k : Branch) (state : Nat) (op : Byte) (tag : List Byte) (d : Device) :
    Device × Option Reply :=
  match state, d.admission k with
  | 0, .shut => (d, some { status := .ok })
  | 0, .opened =>
    if (d.seq k).inFlight.isNone then (shutBranch k d, some { status := .ok })
    else
      ({ d.setAdmission k .shutting with endpoint := { d.endpoint with
          inProgress := some (.setLine k op tag) } }, none)
  | 1, .opened => (d, some { status := .ok })
  | 1, .shut =>
    if d.change.armedFor k.line then (d, some { status := .lineState })
    else (openBranch k d, some { status := .ok })
  | _, _ => (d, some { status := .lineState })

/-- SET_LINE (R174): the line is argument A, the state argument B. -/
def performSetLine (line state : Nat) (op : Byte) (tag : List Byte) (d : Device) :
    Device × Option Reply :=
  if 4 < line then (d, some { status := .badValue })
  else match (Line.ofIndex line).branch? with
    | none =>
      let (d', reply) := setTrunk state d
      (d', some reply)
    | some k => setBranch k state op tag d

/-- RESTART: answered OK, and in progress until its response has been sent (R177). -/
def performRestart (d : Device) : Device × Reply :=
  ({ d with endpoint := { d.endpoint with inProgress := some .restart } }, { status := .ok })

/-- The size a request record must have (R21, R172); none where the size test is skipped. -/
def requestSize (op : Op) (unit count : Nat) : Option Nat :=
  match op with
  | .stage =>
    if isLoadable unit then (unitShape unit).map fun x => 11 + count * x.2 else none
  | _ => some 11

/-- The count of a request lies in 1..16 where its op uses it (R172). -/
def countOk (op : Op) (count : Nat) : Bool :=
  match op with
  | .read => 1 ≤ count && count ≤ 16
  | .stage => 1 ≤ count && count ≤ 16
  | .clear => 1 ≤ count && count ≤ 16
  | .takeEvents => 1 ≤ count && count ≤ 16
  | _ => true

/-- A request whose format is right is performed by its own rule. No reply means that it is
held. -/
def performOp (op : Op) (bs : List Byte) (d : Device) : Device × Option Reply :=
  let unit := rd1 bs 4
  let index := rd2 bs 5
  let count := rd1 bs 7
  match op with
  | .read => (d, some (performRead unit index count d))
  | .stage =>
    let (d', r) := performStage unit index count (bs.drop 11) d
    (d', some r)
  | .discard =>
    let (d', r) := performDiscard d
    (d', some r)
  | .commit =>
    let (d', r) := performCommit (rd1 bs 8) (BitVec.ofNat 16 (rd2 bs 9)) d
    (d', some r)
  | .setLine => performSetLine (rd1 bs 8) (rd2 bs 9) (byteOf (rd1 bs 1)) (rdN bs 2 2) d
  | .clear =>
    let (d', r) := performClear unit index count d
    (d', some r)
  | .takeEvents =>
    let (d', r) := performTakeEvents count d
    (d', some r)
  | .restart =>
    let (d', r) := performRestart d
    (d', some r)

/-- The format checks of R172, steps 1 to 3: the op of a record that passes, or the status that
refuses it. -/
def requestCheck (bs : List Byte) : Except Status Op :=
  if bs.length < 11 then .error .badFormat
  else match Op.ofCode (rd1 bs 1) with
    | none => .error .badOp
    | some op =>
      if !countOk op (rd1 bs 7) then .error .badFormat
      else match requestSize op (rd1 bs 4) (rd1 bs 7) with
        | none => .ok op
        | some n => if bs.length = n then .ok op else .error .badFormat

/-- A request is performed (R172). -/
def performRequest (bs : List Byte) (d : Device) : Device × Option Reply :=
  match requestCheck bs with
  | .error status => (d, some { status := status })
  | .ok op => performOp op bs d

/-! ### The slot rule (R171) -/

/-- A response with the op and tag of its request (R172). -/
def Device.response (d : Device) (bs : List Byte) (r : Reply) : List Byte :=
  responseRecord d (byteOf (rd1 bs 1)) (rdN bs 2 2) r

/-- Whether a response is the one whose completion restarts the part (R177). -/
def Device.restarting (d : Device) : Bool := d.endpoint.inProgress == some .restart

/-- The queue's head is performed and its response goes into the slot; a held SET_LINE leaves the
slot empty (R171, step 3). -/
def performHead (bs : List Byte) (d : Device) : Device :=
  match performRequest bs d with
  | (d', none) => d'
  | (d', some r) =>
    { d' with endpoint := { d'.endpoint with
      slot := some { bytes := d'.response bs r, isRestart := d'.restarting } } }

/-- Whether a record's node address is the part's or 63 (R170, step 1). -/
def Device.addressed (d : Device) (bs : List Byte) : Bool :=
  !bs.isEmpty && (rd1 bs 0 == 63 || rd1 bs 0 == d.tables.device.nodeAddress)

/-- A record that is not for the part is discarded (R170, R171). -/
def countNotMine (d : Device) : Device :=
  { d with endpoint := { d.endpoint with notMineCount := raiseCount d.endpoint.notMineCount 1 } }

/-- Heads are taken from the queue until one is the part's, which is performed (R171, step 3). -/
def takeHead : List (List Byte) → Device → Device
  | [], d => { d with endpoint := { d.endpoint with queue := [] } }
  | bs :: rest, d =>
    let d' := { d with endpoint := { d.endpoint with queue := rest } }
    if d.addressed bs then performHead bs d' else takeHead rest (countNotMine d')

/-- The slot rule at an event that finds the slot empty (R171): a ready response, then a pending
ATTENTION, then the queue's head. -/
def fillSlot (d : Device) : Device :=
  match d.endpoint.slot, d.endpoint.inProgress with
  | some _, _ => d
  | none, some (.ready response) =>
    { d with endpoint := { d.endpoint with
      slot := some { bytes := response, isRestart := false }, inProgress := none } }
  | none, some .restart => d
  | none, some (.setLine _ _ _) => placeAttention d
  | none, none =>
    if d.endpoint.attnPending then placeAttention d else takeHead d.endpoint.queue d

/-- The end of every event: the slot is filled by the first that applies of all that the event has
made ready (R171), and an idle transmitter makes its choice among all that the event has placed
(R98); a transmission start of a record empties the slot, so both are applied once more (log 15).
Nothing else fills the slot or starts a trunk transmission. -/
def settle (d : Device) : Device := trunkChoose (fillSlot (trunkChoose (fillSlot d)))

/-! ### Requests that arrive (R170) -/

/-- A management request record reaches the Endpoint (R170). -/
def requestArrival (bs : List Byte) (d : Device) : Device :=
  if !d.addressed bs then countNotMine d
  else if Config.maxRequests ≤ d.endpoint.queue.length then
    { d with endpoint := { d.endpoint with
      mgmtOverrun := true, overrunCount := raiseCount d.endpoint.overrunCount 1 } }
  else { d with endpoint := { d.endpoint with queue := d.endpoint.queue ++ [bs] } }

/-! ### The restart (R177) -/

/-- The stations after a restart, by the configuration in force (R126). -/
def restartStation (d : Device) (i : Nat) : Device :=
  let x := d.stations.get Station.powerOn i
  let configured := (d.tables.stations.get StationConfig.powerOn i).configured
  { d with stations := d.stations.put Station.powerOn i (x.restarted configured) }

/-- A line's queues after a restart: empty, credits at the weights in force, no hold (R103). -/
def Device.restartedEgress (d : Device) : PerLine Egress :=
  { t := Egress.fresh (d.settings .t), b0 := Egress.fresh (d.settings .b0),
    b1 := Egress.fresh (d.settings .b1), b2 := Egress.fresh (d.settings .b2),
    b3 := Egress.fresh (d.settings .b3) }

/-- A sequencer after a restart: power-on values, but a frame in transmission is kept (R105). -/
def Sequencer.restarted (q : Sequencer) : Sequencer :=
  { Sequencer.powerOn with sending := q.sending }

/-- The sequencers after a restart. -/
def Device.restartedSeqs (d : Device) : PerBranch Sequencer :=
  { b0 := (d.seq .b0).restarted, b1 := (d.seq .b1).restarted, b2 := (d.seq .b2).restarted,
    b3 := (d.seq .b3).restarted }

/-- The Endpoint after a restart; the event list, flags and counts are kept (R177). -/
def Endpoint.restarted (p : Endpoint) : Endpoint :=
  { p with queue := [], inProgress := none, attnPending := false, attnOutstanding := false }

/-- The Change Unit after a restart: the generation is kept (R158). -/
def Change.restarted (c : Change) : Change :=
  { state := .empty, list := [], target := none, generation := c.generation }

/-- The restart takes place, in one event (R177): the state each owner is left in, and RESTARTED
last. -/
def restartNow (d : Device) : Device :=
  let discarded := d.endpoint.queue.length
  let d1 := { d with
    trunkAdm := .mgmtOnly, branchAdm := PerBranch.all .shut, accumulators := PerLine.all 0,
    pool := Pool.allFree, timer := Timer.unlockedAt d.timer.cycle, egress := d.restartedEgress,
    slots := Table.empty, trunkTx := none, seqs := d.restartedSeqs, contexts := [],
    change := d.change.restarted, endpoint := d.endpoint.restarted }
  raiseEvent .restarted none none discarded ((List.range 120).foldl restartStation d1)

/-! ### The end of a trunk transmission (R100) -/

/-- The Trunk Transmitter becomes idle and releases its reference, or reports the record sent
(R100, R177). -/
def trunkSent (tx : TrunkSending) (d : Device) : Device :=
  let idle := { d with trunkTx := none }
  match tx.holds with
  | .frame ref => idle.releaseFrame ref
  | .record isRestart => if isRestart then restartNow idle else idle

end Sys2Proof.Machine
end

