-- ==== Sys2Proof/Machine/Arrivals.lean ====
section
/-! DEFINITION. Frames arriving at the line interfaces: collection, checks, and hand-over (Sections
1.5 to 1.10). -/

namespace Sys2Proof.Machine

/-- The receive buffer of a line takes the bytes of a frame up to its size and counts them all
(R2). -/
def collect (l : Line) (size : Nat) (bytes : List Byte) (d : Device) : Device :=
  d.setLineIf l { d.lineIf l with rx := { stored := bytes.take size, count := bytes.length } }

/-- A trunk DATA frame goes to the Classifier, which passes CID 4095 on (R8, R33). -/
def trunkDataFrame (cid priority : Nat) (payload : List Byte) (d : Device) : Device :=
  if cid = Config.managementCid then requestArrival payload d
  else classifyTrunk cid priority payload d

/-- What a trunk arrival comes to after the checks of R8. -/
def trunkChecked (c : Checked TrunkFrame) (d : Device) : Device :=
  match c with
  | .headerError => headerErrorOn .t d
  | .payloadError => payloadErrorOn .t d
  | .passed (.cycle number) => timerArrival number (d.bumpLine .t .framesReceived)
  | .passed (.data cid priority payload) =>
    trunkDataFrame cid priority payload (d.bumpLine .t .framesReceived)

/-- A frame's end is marked on the trunk, in either admission state, whether or not T is sending
(R2, R8). -/
def trunkArrival (bytes : List Byte) (d : Device) : Device :=
  let d' := collect .t Config.trunkBuffer bytes d
  trunkChecked (checkTrunk (d'.lineIf .t).rx) d'

/-- What a branch arrival comes to after the checks of R8; an errored one is reported to the
sequencer (R9, R12). -/
def branchChecked (k : Branch) (c : Checked BranchFrame) (d : Device) : Device :=
  match c with
  | .headerError => erroredArrival k (headerErrorOn k.line d)
  | .payloadError => erroredArrival k (payloadErrorOn k.line d)
  | .passed f => validArrival k f (d.bumpLine k.line .framesReceived)

/-- Whether a frame that started at an instant was marked, or lay, in a time at which the branch
was SHUT (R20, log 8). -/
def Device.ignores (d : Device) (k : Branch) (start : Nat) : Bool :=
  d.admission k == .shut || decide (start < d.openedAt.get k)

/-- Whether the receiver of a branch is off at an end mark: the interface sends, and has not begun
at this very instant. A frame that ends as a transmission starts was received whole before it
(R2, R13, R128, log 9). -/
def Device.receiverOff (d : Device) (k : Branch) : Bool :=
  match (d.seq k).sending with
  | none => false
  | some tx => tx.starts != d.now

/-- A frame's end is marked on a branch; `bytes` is the run the line delivered, without what was
on the line while the receiver was off (R2, log 9). A frame that R20 ignores is dropped whatever
the interface sends, and all its bytes are counted here, at its end: R20 names no instant, and
this is the model's choice (log 29). Any other is received unless the receiver is off. -/
def branchArrival (k : Branch) (start : Nat) (bytes : List Byte) (d : Device) : Device :=
  if d.ignores k start then d.bumpLineBy k.line .ignoredBytes bytes.length
  else if d.receiverOff k then d
  else
    let d' := collect k.line Config.branchBuffer bytes d
    branchChecked k (checkBranch (d'.lineIf k.line).rx) d'

end Sys2Proof.Machine
end

