-- ==== Sys2Proof/Machine/ResetCommands.lean ====
section
/-! DEFINITION. The meanings of POWER_ON_RESET and RESET_RELEASE, and the two wrappers every other
meaning uses. -/

namespace Sys2Proof.Machine

/-- An event at an instant; while the reset input is asserted the part is held at its power-on
state and no event acts on it (00_scope.md, Section 9; log 4). -/
def Device.event (d : Device) (now : Nat) (act : Device → Device) : Device :=
  if d.inReset then d else settle (act { d with now := now })

/-- An expiry or completion, which sets the instant itself; nothing while the reset input is
asserted. -/
def Device.expiry (d : Device) (act : Device → Device) : Device :=
  if d.inReset then d else settle (act d)

/-- The node address the straps give; 63 is read as 0 (00_scope.md, Section 9). -/
def strapNode (straps : BitVec 6) : Nat := if straps = 63 then 0 else straps.toNat

/-- POWER_ON_RESET: every block is held at its power-on state, and a transmission in progress is
ended at once (R13, R71; 00_scope.md, Section 9). The node address is read at the release. -/
def execPowerOnReset (now : Nat) (s : State) : Host.Outcome State Fault Refusal :=
  .next { s with dev := { Device.powerOn now true 0 with choices := s.dev.choices } }

/-- RESET_RELEASE: operation begins from the power-on state with the node address the straps give
(R157; 00_scope.md, Section 9). A release of an input that is not asserted is no event (log 4). -/
def execResetRelease (now : Nat) (straps : BitVec 6) (s : State) :
    Host.Outcome State Fault Refusal :=
  if s.dev.inReset then
    .next { s with
      dev := { Device.powerOn now false (strapNode straps) with choices := s.dev.choices } }
  else .next s

end Sys2Proof.Machine
end

