-- ==== Sys2Proof/Machine/BranchCommands.lean ====
section
/-! DEFINITION. The meanings of BRANCH_FRAME_ARRIVAL, REPLY_TIMEOUT and
BRANCH_TRANSMISSION_COMPLETE. -/

namespace Sys2Proof.Machine

/-- BRANCH_FRAME_ARRIVAL: the frame is ignored, errored, the reply of the waiting attempt, a
failure of it, or unexpected (R2, R8, R20, R128 to R130). -/
def execBranchFrameArrival (k : Branch) (start now : Nat) (frame : List Byte) (s : State) :
    Host.Outcome State Fault Refusal :=
  .next { s with dev := s.dev.event now (branchArrival k start frame) }

/-- The reply timeout expiry fails the waiting attempt, at its own instant (R113, R128). -/
def replyTimeoutDue (k : Branch) (d : Device) : Device :=
  match (d.seq k).inFlight with
  | none => d
  | some r =>
    match r.replyWait with
    | none => d
    | some due => failAttempt k r { d with now := due }

/-- REPLY_TIMEOUT (R128); nothing when no reply wait is pending (log 7). -/
def execReplyTimeout (k : Branch) (s : State) : Host.Outcome State Fault Refusal :=
  .next { s with dev := s.dev.expiry (replyTimeoutDue k) }

/-- A branch frame's last byte has been sent, at the instant its size gives (R13). -/
def branchComplete (k : Branch) (d : Device) : Device :=
  match (d.seq k).sending with
  | none => d
  | some tx =>
    let d' := { d with now := tx.ends }.setSeq k { d.seq k with sending := none }
    afterBranchFrame k tx.role (d'.bumpLine k.line .framesSent)

/-- BRANCH_TRANSMISSION_COMPLETE (R13); nothing when the branch sends nothing (log 7). -/
def execBranchTransmissionComplete (k : Branch) (s : State) :
    Host.Outcome State Fault Refusal :=
  .next { s with dev := s.dev.expiry (branchComplete k) }

end Sys2Proof.Machine
end

