-- ==== Sys2Proof/Machine/ManagementCommands.lean ====
section
/-! DEFINITION. The meanings of the eight management requests: the controller sends the request as
a valid trunk DATA frame on CID 4095 (log 5). It joins the request queue (R170) and is performed,
in this event or a later one, when the slot rule takes it (R171). -/

namespace Sys2Proof.Machine

/-- A request frame arrives. -/
def requestEvent (now : Nat) (op : Op) (req : Request) (d : Device) : Device :=
  d.event now (trunkArrival (requestFrame op req))

/-- READ (R173). -/
def execRead (now : Nat) (req : Request) (s : State) : Host.Outcome State Fault Refusal :=
  .next { s with dev := requestEvent now .read req s.dev }

/-- STAGE (R159). -/
def execStage (now : Nat) (req : Request) (s : State) : Host.Outcome State Fault Refusal :=
  .next { s with dev := requestEvent now .stage req s.dev }

/-- DISCARD (R161). -/
def execDiscard (now : Nat) (req : Request) (s : State) : Host.Outcome State Fault Refusal :=
  .next { s with dev := requestEvent now .discard req s.dev }

/-- COMMIT (R162). -/
def execCommit (now : Nat) (req : Request) (s : State) : Host.Outcome State Fault Refusal :=
  .next { s with dev := requestEvent now .commit req s.dev }

/-- SET_LINE (R174). -/
def execSetLine (now : Nat) (req : Request) (s : State) : Host.Outcome State Fault Refusal :=
  .next { s with dev := requestEvent now .setLine req s.dev }

/-- CLEAR (R174). -/
def execClear (now : Nat) (req : Request) (s : State) : Host.Outcome State Fault Refusal :=
  .next { s with dev := requestEvent now .clear req s.dev }

/-- TAKE_EVENTS (R175). -/
def execTakeEvents (now : Nat) (req : Request) (s : State) : Host.Outcome State Fault Refusal :=
  .next { s with dev := requestEvent now .takeEvents req s.dev }

/-- RESTART (R177). -/
def execRestart (now : Nat) (req : Request) (s : State) : Host.Outcome State Fault Refusal :=
  .next { s with dev := requestEvent now .restart req s.dev }

end Sys2Proof.Machine
end

