-- ==== Sys2Proof/Machine/TimerCommands.lean ====
section
/-! DEFINITION. The meanings of TRUNK_CYCLE_ARRIVAL, LOCK_WINDOW_EXPIRY and LOCAL_CYCLE_EXPIRY. -/

namespace Sys2Proof.Machine

/-- TRUNK_CYCLE_ARRIVAL: the frame is checked (R8), and a CYCLE frame goes to the Cycle Timer
(R78, R79, R82). -/
def execTrunkCycleArrival (now : Nat) (frame : List Byte) (s : State) :
    Host.Outcome State Fault Refusal :=
  .next { s with dev := s.dev.event now (trunkArrival frame) }

/-- LOCK_WINDOW_EXPIRY (R80); nothing when no lock-window expiry is pending (log 7). -/
def execLockWindowExpiry (s : State) : Host.Outcome State Fault Refusal :=
  .next { s with dev := s.dev.expiry lockWindowDue }

/-- LOCAL_CYCLE_EXPIRY (R81); nothing when no local-cycle expiry is pending (log 7). -/
def execLocalCycleExpiry (s : State) : Host.Outcome State Fault Refusal :=
  .next { s with dev := s.dev.expiry localCycleDue }

end Sys2Proof.Machine
end

