-- ==== Sys2Proof/Machine/TrunkCommands.lean ====
section
/-! DEFINITION. The meanings of TRUNK_DATA_ARRIVAL, TRUNK_TRANSMISSION_COMPLETE and
SHAPER_RELEASE_EXPIRY. -/

namespace Sys2Proof.Machine

/-- TRUNK_DATA_ARRIVAL: the frame is checked (R8); a DATA frame is classified (R33), or goes to the
Management Endpoint on CID 4095 (R170). -/
def execTrunkDataArrival (now : Nat) (frame : List Byte) (s : State) :
    Host.Outcome State Fault Refusal :=
  .next { s with dev := s.dev.event now (trunkArrival frame) }

/-- The trunk transmission in progress ends: it is counted (R13), its reference is released or its
record reported (R100). The next choice is made at the end of the event (log 15). -/
def trunkComplete (d : Device) : Device :=
  match d.trunkTx with
  | none => d
  | some tx => trunkSent tx (d.bumpLine .t .framesSent)

/-- TRUNK_TRANSMISSION_COMPLETE (R100); nothing when T sends nothing (log 7). -/
def execTrunkTransmissionComplete (now : Nat) (s : State) : Host.Outcome State Fault Refusal :=
  .next { s with dev := s.dev.event now trunkComplete }

/-- A class's shaper release expiry: it is no longer held, and a waiting branch considers it; T's
transmitter does at the end of the event (R97, log 15). -/
def shaperRelease (l : Line) (c : Class) (d : Device) : Device :=
  match d.release l c with
  | none => d
  | some due => notice ({ d with now := due }.setRelease l c none) l

/-- SHAPER_RELEASE_EXPIRY (R97); nothing when the class is not held by its shaper (log 7). -/
def execShaperReleaseExpiry (l : Line) (c : Class) (s : State) :
    Host.Outcome State Fault Refusal :=
  .next { s with dev := s.dev.expiry (shaperRelease l c) }

end Sys2Proof.Machine
end

