-- ==== Sys2Proof/Machine/Dispatch.lean ====
section
/-! DEFINITION. One arm for each command, each one call of its meaning. -/

namespace Sys2Proof.Machine

def exec (i : Instr) (s : State) : Host.Outcome State Fault Refusal :=
  match i with
  | .powerOnReset now => Sys2Proof.Machine.execPowerOnReset now s
  | .resetRelease now straps => Sys2Proof.Machine.execResetRelease now straps s
  | .trunkCycleArrival now frame => Sys2Proof.Machine.execTrunkCycleArrival now frame s
  | .lockWindowExpiry => Sys2Proof.Machine.execLockWindowExpiry s
  | .localCycleExpiry => Sys2Proof.Machine.execLocalCycleExpiry s
  | .trunkDataArrival now frame => Sys2Proof.Machine.execTrunkDataArrival now frame s
  | .read now req => Sys2Proof.Machine.execRead now req s
  | .stage now req => Sys2Proof.Machine.execStage now req s
  | .discard now req => Sys2Proof.Machine.execDiscard now req s
  | .commit now req => Sys2Proof.Machine.execCommit now req s
  | .setLine now req => Sys2Proof.Machine.execSetLine now req s
  | .clear now req => Sys2Proof.Machine.execClear now req s
  | .takeEvents now req => Sys2Proof.Machine.execTakeEvents now req s
  | .restart now req => Sys2Proof.Machine.execRestart now req s
  | .trunkTransmissionComplete now => Sys2Proof.Machine.execTrunkTransmissionComplete now s
  | .shaperReleaseExpiry line cls => Sys2Proof.Machine.execShaperReleaseExpiry line cls s
  | .branchFrameArrival branch start now frame => Sys2Proof.Machine.execBranchFrameArrival branch start now frame s
  | .replyTimeout branch => Sys2Proof.Machine.execReplyTimeout branch s
  | .branchTransmissionComplete branch => Sys2Proof.Machine.execBranchTransmissionComplete branch s

end Sys2Proof.Machine
end

