-- ==== Sys2Proof/WellFormed.lean ====
section
/-! DEFINITION. Which commands are well formed: the two trunk rows do not carry each other's frame
kind, a request's record fits a frame and carries entries only where its op has them, and a branch
frame does not end before it starts. -/

namespace Sys2Proof

/-- A run of bytes does not begin with a kind byte. -/
def notKind (kind : Byte) : List Byte → Bool
  | [] => true
  | b :: _ => b != kind

/-- A request without entries (Section 1.12). -/
def Request.bare (r : Request) : Bool := r.entries.isEmpty

/-- A STAGE's record fits the payload of a trunk frame (R3). -/
def Request.fits (r : Request) : Bool := r.entries.length + 11 ≤ Config.maxPayload

/-- The well-formedness of a command. -/
def Instr.wellFormed : Instr → Bool
  | .powerOnReset _ => true
  | .resetRelease _ _ => true
  | .trunkCycleArrival _ frame => notKind 0x02#8 frame
  | .lockWindowExpiry => true
  | .localCycleExpiry => true
  | .trunkDataArrival _ frame => notKind 0x01#8 frame
  | .read _ r => r.bare
  | .stage _ r => r.fits
  | .discard _ r => r.bare
  | .commit _ r => r.bare
  | .setLine _ r => r.bare
  | .clear _ r => r.bare
  | .takeEvents _ r => r.bare
  | .restart _ r => r.bare
  | .trunkTransmissionComplete _ => true
  | .shaperReleaseExpiry _ _ => true
  | .branchFrameArrival _ start now _ => start ≤ now
  | .replyTimeout _ => true
  | .branchTransmissionComplete _ => true

end Sys2Proof
end

