-- ==== Sys2Proof/Safety.lean ====
section
/-! DEFINITION. What claims rest on: the timely commands of a run, and the invariants of the part,
each a rule of the spec said of one state. -/

namespace Sys2Proof.Machine

/-! ### Timely commands (log 1) -/

/-- The instant of the timer's pending expiry. -/
def Expiry.due : Expiry → Nat
  | .lockWindow _ due => due
  | .localCycle due => due

/-- The instants a branch's sequencer waits for: a reply timeout and a completion. -/
def Sequencer.instants (q : Sequencer) : List Nat :=
  ((q.inFlight.bind InFlight.replyWait).toList) ++ (q.sending.map BranchSending.ends).toList

/-- The instants a line's shapers wait for. -/
def Egress.instants (e : Egress) : List Nat := Class.all.filterMap e.release.get

/-- Every instant the part waits for. -/
def Device.instants (d : Device) : List Nat :=
  (d.timer.expiry.map Expiry.due).toList ++ Branch.all.flatMap (fun k => (d.seq k).instants) ++
    Line.all.flatMap fun l => (d.egr l).instants

/-- The instant at which a command falls, if the part's state or the command gives one. -/
def Device.instantOf (d : Device) : Instr → Option Nat
  | .powerOnReset now => some now
  | .resetRelease now _ => some now
  | .trunkCycleArrival now _ => some now
  | .lockWindowExpiry =>
    match d.timer.expiry with
    | some (.lockWindow _ due) => some due
    | _ => none
  | .localCycleExpiry =>
    match d.timer.expiry with
    | some (.localCycle due) => some due
    | _ => none
  | .trunkDataArrival now _ => some now
  | .read now _ => some now
  | .stage now _ => some now
  | .discard now _ => some now
  | .commit now _ => some now
  | .setLine now _ => some now
  | .clear now _ => some now
  | .takeEvents now _ => some now
  | .restart now _ => some now
  | .trunkTransmissionComplete now => some now
  | .shaperReleaseExpiry l c => d.release l c
  | .branchFrameArrival _ _ now _ => some now
  | .replyTimeout k => (d.seq k).inFlight.bind InFlight.replyWait
  | .branchTransmissionComplete k => (d.seq k).sending.map BranchSending.ends

/-- A command that hardware can meet next: it falls at an instant that is not in the past, and no
instant the part waits for is passed over. -/
def Device.timely (d : Device) (c : Instr) : Bool :=
  match d.instantOf c with
  | none => false
  | some t => d.now ≤ t && d.instants.all fun due => t ≤ due

/-! ### Invariants -/

/-- The Endpoint's queue and event list, the Pending Change List and the contexts keep their bounds
(R147, R158, R169). -/
def Device.bounded (d : Device) : Prop :=
  d.endpoint.queue.length ≤ Config.maxRequests ∧ d.endpoint.events.length ≤ Config.maxEvents ∧
  d.change.list.length ≤ Config.maxStaged ∧ d.contexts.length ≤ Config.maxContexts

/-- What a list entry is about. -/
def Staged.place (e : Staged) : Nat × Nat := (e.unit, e.index)

/-- An entry that a STAGE may have placed: an index of a loadable unit, with content of the unit's
size that passes its field checks and asks for no removal, or the removal of a circuit or a schedule
entry (R21, R158, R159). -/
def Staged.inRange (e : Staged) : Prop :=
  ∃ indices size, isLoadable e.unit = true ∧ unitShape e.unit = some (indices, size) ∧
    e.index < indices ∧
    match e.action with
    | .content bytes => bytes.length = size ∧ entryOk e.unit bytes = true ∧
        actionOf e.unit bytes = .content bytes
    | .remove => e.unit = 1 ∨ e.unit = 3

/-- The change state is EMPTY exactly when the list is empty, a target is held exactly while ARMED,
no two entries are for one unit and index, and every entry is in range (R158, R159). -/
def Change.consistent (c : Change) : Prop :=
  (c.state = .empty ↔ c.list = []) ∧ (c.state = .armed ↔ c.target.isSome) ∧
  (c.list.map Staged.place).Nodup ∧ ∀ e ∈ c.list, e.inRange

/-- In UNLOCKED no expiry is pending, in LOCKED the lock window, in COASTING and FREE the local
cycle; the miss count is 0 in UNLOCKED and LOCKED and lies in 1..65535 otherwise (R75). -/
def Timer.consistent (t : Timer) : Prop :=
  match t.state, t.expiry with
  | .unlocked, none => t.miss = 0
  | .locked, some (.lockWindow _ _) => t.miss = 0
  | .coasting, some (.localCycle _) => 1 ≤ t.miss ∧ t.miss ≤ 65535
  | .free, some (.localCycle _) => 1 ≤ t.miss ∧ t.miss ≤ 65535
  | _, _ => False

/-- The numbers of the blocks held by frames and by contexts. -/
def Device.heldBlocks (d : Device) : List Nat :=
  (d.pool.frames.cells.flatMap fun c => c.2.chain.map Block.number) ++
    d.contexts.flatMap fun c => c.blocks.map Block.number

/-- The number of blocks held by frames and contexts charged to a line (R66). -/
def Device.chargedTo (d : Device) (l : Line) : Nat :=
  (d.pool.frames.cells.map fun c => if c.2.ingress = l then c.2.chain.length else 0).sum +
    (d.contexts.map fun c => if c.branch.line = l then c.blocks.length else 0).sum

/-- Every block is free, in one frame or in one context, and in only one of these (R57); every
usage count is the number of blocks charged to its line (R66); a frame is named by its first
block and listed once; frames and contexts hold at least one block (R58, R147); a station has at
most one context (R147). -/
def Device.poolOk (d : Device) : Prop :=
  (d.pool.free ++ d.heldBlocks).Perm (List.range Config.poolBlocks) ∧
  (∀ l, d.pool.usage.get l = d.chargedTo l) ∧
  d.pool.frames.sorted ∧
  (∀ c ∈ d.pool.frames.cells, c.2.chain.head?.map Block.number = some c.1) ∧
  (∀ c ∈ d.contexts, c.blocks ≠ []) ∧
  (d.contexts.map fun c => (c.branch, c.station)).Nodup

/-- Every meter in METER mode holds at most CBS and EBS in its buckets (R46). -/
def Device.metersOk (d : Device) : Prop :=
  ∀ m, (d.meterSettings m).mode = .meter →
    (d.meterState m).committed ≤ (d.meterSettings m).cbs ∧
    (d.meterState m).excess ≤ (d.meterSettings m).ebs

/-- The settings in force have W ≤ D ÷ 4 and G < D, and so have those an armed list leaves
(R73). -/
def Device.settingsOk (d : Device) : Prop :=
  d.tables.device.crossOk = true ∧
  (d.change.state = .armed → (d.tables.withList d.change.list).device.crossOk = true)

/-- No transaction is in flight on a SHUT branch, and a SHUTTING branch has one (R17, R112). -/
def Device.branchesOk (d : Device) : Prop :=
  ∀ k, (d.admission k = .shut → (d.seq k).inFlight = none) ∧
    (d.admission k = .shutting → (d.seq k).inFlight.isSome)

/-- The weight an entry of the Pending Change List would put in force lies in 0..1024 (R51). -/
def Staged.weightOk (e : Staged) : Prop :=
  match e.unit, e.action with
  | 7, .content bs => rd2 bs 0 ≤ 1024
  | _, _ => True

/-- Every thinning accumulator lies in 0..1023 (R52), and every thinning weight, in force or
staged, in 0..1024 (R51). -/
def Device.accumulatorsOk (d : Device) : Prop :=
  (∀ l, d.accumulators.get l ≤ 1023) ∧ (∀ w ∈ d.tables.thinning, w ≤ 1024) ∧
  ∀ e ∈ d.change.list, e.weightOk

/-- The Priority Maps have their 40 entries (R30) and the Thinning Table its 16 (R51). -/
def Tables.sized (t : Tables) : Prop := t.priorities.length = 40 ∧ t.thinning.length = 16

/-- The tables in force that are listed by index are listed in ascending order (R22, R109). -/
def Tables.ordered (t : Tables) : Prop :=
  t.circuits.sorted ∧ t.meters.sorted ∧ t.schedule.sorted ∧ t.stations.sorted

/-- Every present circuit has the shape of R24, and every schedule entry the references of R163. -/
def Tables.checked (t : Tables) : Prop :=
  (∀ c ∈ t.circuits.cells, t.shapeOk c.2 = true) ∧
  ∀ c ∈ t.schedule.cells, t.entryRefsOk c.1 c.2 = true

/-- The tables in force have passed the checks of R163, and so have those an armed list leaves. -/
def Device.tablesChecked (d : Device) : Prop :=
  d.tables.checked ∧ (d.change.state = .armed → (d.tables.withList d.change.list).checked)

/-- An idle transmitter leaves no record in the response slot (R98). -/
def Device.slotServed (d : Device) : Prop := d.trunkTx = none → d.endpoint.slot = none

/-- A sequencer in WAITING or DONE has no transaction in flight (R106); a transaction that has
received a frame waits for no reply, and the part's answer is being sent (R137); and while a
transaction waits for its reply no frame is in transmission (R128). -/
def Device.transactionsOk (d : Device) : Prop :=
  ∀ k, ((d.seq k).state = .waiting ∨ (d.seq k).state = .done → (d.seq k).inFlight = none) ∧
    ∀ r, (d.seq k).inFlight = some r →
      (r.received ≠ none → r.replyWait = none ∧
        (d.seq k).sending.map BranchSending.role = some .answer) ∧
      (r.replyWait ≠ none → (d.seq k).sending = none)

/-- The frames a transaction in flight holds a reference to: its output frame and its received
frame (R112). -/
def InFlight.references (r : InFlight) : List Nat :=
  (match r.txn with
    | .exchange _ _ _ outputFrame _ _ => outputFrame.toList
    | .deliver _ _ => []
    | .service => []
    | .probe => []) ++ r.received.toList

/-- The frame that the Trunk Transmitter holds (R99). -/
def Device.trunkHeld (d : Device) : List Nat :=
  match d.trunkTx.map TrunkSending.holds with
  | some (.frame ref) => [ref]
  | some (.record _) => []
  | none => []

/-- The frame of every reference the part holds: in queue entries, in slots, in the transactions in
flight and in the Trunk Transmitter (R64). -/
def Device.references (d : Device) : List Nat :=
  (Line.all.flatMap fun l => Class.all.flatMap fun c => (d.queue l c).map Entry.frame) ++
    d.slots.cells.map Prod.snd ++
    (Branch.all.flatMap fun k => (d.seq k).inFlight.toList.flatMap InFlight.references) ++
    d.trunkHeld

/-- Every reference is to a held frame, and a held frame's reference count is the number of its
holders, at least one (R64, R65); the shared count is the blocks of the shared frames (R68); and a
frame received and not yet handed over has the one reference and is not shared (R59). -/
def Device.refsOk (d : Device) : Prop :=
  (∀ ref ∈ d.references, (d.frame? ref).isSome) ∧
  (∀ c ∈ d.pool.frames.cells, c.2.refs = d.references.count c.1 ∧ 1 ≤ c.2.refs) ∧
  d.pool.sharedCount =
    (d.pool.frames.cells.map fun c => if c.2.shared then c.2.chain.length else 0).sum ∧
  ∀ (k : Branch) (r : InFlight) (ref : Nat) (f : Frame), (d.seq k).inFlight = some r →
    r.received = some ref → d.frame? ref = some f → f.refs = 1 ∧ f.shared = false

/-! ### Words of the statements -/

/-- The Endpoint has nothing in hand: no record waits in the slot or the queue, no request is in
progress, and no ATTENTION is pending (R169). -/
def Device.mgmtReady (d : Device) : Prop :=
  d.endpoint.slot = none ∧ d.endpoint.inProgress = none ∧ d.endpoint.queue = [] ∧
  d.endpoint.attnPending = false

/-- The Trunk Transmitter has nothing to start: it is sending, or T is in MGMT_ONLY, or no T slot
and no T class queue holds a frame (R98). -/
def Device.trunkQuiet (d : Device) : Prop :=
  d.trunkTx ≠ none ∨ d.trunkAdm = .mgmtOnly ∨ (d.slotsAt .t = [] ∧ ∀ c, d.queue .t c = [])

/-- A part that runs, whose Endpoint has nothing in hand and whose transmitter has nothing to
start: what a command then changes is the command's own. -/
def Device.quiet (d : Device) : Prop := d.inReset = false ∧ d.mgmtReady ∧ d.trunkQuiet

/-- The part after the line interface of T has collected a frame at an instant and counted it as
received (R2, R8). -/
def Device.arrived (d : Device) (now : Nat) (bytes : List Byte) : Device :=
  (collect .t Config.trunkBuffer bytes { d with now := now }).bumpLine .t .framesReceived

/-- The part after a record has been placed in its empty response slot: an idle transmitter has
taken it out and sends it, else it waits in the slot (R98, R99, R171). -/
def Device.answered (d : Device) (bytes : List Byte) (isRestart : Bool) : Device :=
  match d.trunkTx with
  | none =>
    { d with trunkTx := some { holds := .record isRestart,
                               wire := trunkData Config.managementCid 0 bytes } }
  | some _ =>
    { d with endpoint := { d.endpoint with
        slot := some { bytes := bytes, isRestart := isRestart } } }

/-- The part at the end of an event that leaves the Endpoint with at most a pending ATTENTION: the
ATTENTION is built, placed in the slot and sent by an idle transmitter (R98, R171, R176). -/
def Device.attended (d : Device) : Device :=
  if d.endpoint.attnPending = true then
    { d with endpoint := { d.endpoint with attnPending := false } }.answered (attentionRecord d)
      false
  else d

/-- The part after a performed request has been answered: its record carries the op and the tag of
the request (R172). -/
def Device.replied (d : Device) (op : Op) (req : Request) (r : Reply) : Device :=
  d.answered (responseRecord d (byteOf op.code) (be2 req.tag.toNat) r) (op == .restart && r.status == .ok)

/-- The command by which the controller sends a request of an op. -/
def requestCommand (now : Nat) (op : Op) (req : Request) : Instr :=
  match op with
  | .read => .read now req
  | .stage => .stage now req
  | .discard => .discard now req
  | .commit => .commit now req
  | .setLine => .setLine now req
  | .clear => .clear now req
  | .takeEvents => .takeEvents now req
  | .restart => .restart now req

/-- A request is addressed to the part (R170). -/
def Device.hears (d : Device) (req : Request) : Prop :=
  req.node.toNat = 63 ∨ req.node.toNat = d.tables.device.nodeAddress

/-- What every command of the controller's is sent under in the statements: the part runs, its
Endpoint has nothing in hand, the request is for it, and its record fits a frame. -/
def Device.takes (d : Device) (req : Request) : Prop :=
  d.inReset = false ∧ d.mgmtReady ∧ d.hears req ∧ req.fits = true

/-- An attempt waits for its reply on a branch, and a frame whose start was marked at an instant is
received there: it did not begin on a SHUT branch, and the interface is not sending (R20, R128; a
start at the opening's own instant counts as after it, log 8). -/
def Device.awaitsReply (d : Device) (k : Branch) (start : Nat) (r : InFlight) : Prop :=
  d.inReset = false ∧ d.admission k ≠ .shut ∧ d.openedAt.get k ≤ start ∧
  (d.seq k).sending = none ∧ (d.seq k).inFlight = some r ∧ r.replyWait ≠ none

/-- The part once a valid reply to the waiting attempt has been received: counted (R8), the wait
ended (R128), and a pending resync of a station that is not ABSENT cleared with both toggles
(R131, R141). -/
def Device.afterReply (d : Device) (k : Branch) (r : InFlight) (now : Nat) (bytes : List Byte) :
    Device :=
  let got := (collect k.line Config.branchBuffer bytes { d with now := now }).bumpLine k.line
    .framesReceived
  let waited := got.setSeq k { d.seq k with inFlight := some { r with replyWait := none } }
  let x := d.station k r.station
  if x.state ≠ .absent ∧ x.resyncPending = true then
    waited.setStation k r.station
      { x with resyncPending := false, downToggle := false, upExpected := false }
  else waited

/-- The receive buffer of a line of a given size after a run of bytes (R2). -/
def received (size : Nat) (bytes : List Byte) : RxBuffer :=
  { stored := bytes.take size, count := bytes.length }

/-- A branch frame with every field in its range (R4, R5). -/
def BranchFrame.inRange (f : BranchFrame) : Prop :=
  f.kind.lengthOk f.payload.length = true ∧ f.field < 65536 ∧
  (f.kind = .cycle → f.station = 0) ∧
  (f.kind ≠ .cycle → 1 ≤ f.station ∧ f.station ≤ 30 ∧ f.cid ≤ 4095) ∧
  (f.position = .only ∨ f.kind = .deliver ∨ f.kind = .data)

/-- A CYCLE frame that arrives at an instant starts a cycle: it is not before the early threshold
of a LOCKED timer (R78, R79, R82). -/
def Timer.accepts (t : Timer) (now : Nat) : Prop :=
  match t.state, t.expiry with
  | .locked, some (.lockWindow early _) => early ≤ now
  | _, _ => True

/-- No frame of a T slot and no entry of a T class queue waits, or T is in MGMT_ONLY, so that an
idle transmitter stays idle while its response slot is empty (R98). -/
def Device.trunkEmpty (d : Device) : Prop :=
  d.trunkAdm = .mgmtOnly ∨ (d.slotsAt .t = [] ∧ ∀ c, d.queue .t c = [])

/-- The trunk frame as it is held after its acceptance (R41, R58). -/
def heldFrame (free : List Nat) (cid priority : Nat) (payload : List Byte) (placements : Nat)
    (fill : Option Cycle) : Frame :=
  { chain := List.zipWith Block.mk free (pieces (max 1 ((payload.length + 127) / 128)) payload),
    length := payload.length, cid := cid, priority := priority, ingress := .t,
    refs := placements, shared := decide (1 < placements), fillCycle := fill }

/-- The pool after a trunk frame of n blocks has been accepted with a number of placements, before
POOL_EMPTY is considered (R41, R60). -/
def Pool.afterAccept (p : Pool) (f : Frame) (n placements : Nat) : Pool :=
  { free := p.free.drop n, frames := p.frames.insert (p.free.headD 0) f,
    usage := p.usage.set .t (p.usage.get .t + n),
    sharedCount := if 1 < placements then p.sharedCount + n else p.sharedCount,
    emptyArmed := p.emptyArmed }

/-- The part after a met claim of n blocks charged to a line, for a station or for none, that leaves
the pool as given: where no block is then free and POOL_EMPTY is armed, it is raised and disarmed
(R70). -/
def Device.afterClaim (d : Device) (l : Line) (station : Option Nat) (n : Nat) (after : Pool) :
    Device :=
  if after.free = [] ∧ after.emptyArmed = true then
    raiseEvent .poolEmpty (some l) station n { d with pool := { after with emptyArmed := false } }
  else { d with pool := after }

/-- n selections made one after another with the same sources eligible: the picks in order, and
the credits after them. -/
def picks (ls : LineSettings) (eligible : Source → Bool) : Nat → Credits → List Source × Credits
  | 0, credits => ([], credits)
  | n + 1, credits =>
    match selectSource ls credits eligible with
    | none => ([], credits)
    | some (s, after) => (s :: (picks ls eligible n after).1, (picks ls eligible n after).2)

/-- n thinning decisions made one after another on a line: how many discard their frame, and the
part after them. -/
def thinnings (l : Line) : Nat → Device → Nat × Device
  | 0, d => (0, d)
  | n + 1, d =>
    let rest := thinnings l n (thinLine l d)
    (rest.1 + (if d.thins l then 1 else 0), rest.2)

/-- The reason of the first of the checks of R34 to R37 that refuses a trunk frame, if one does:
absent circuit, wrong line, oversize, no open egress line, line limit, shared limit, no room. -/
def Device.trunkRefusal (d : Device) (cid length : Nat) : Option Reason :=
  match d.circuit? cid with
  | none => some .unknown
  | some c =>
    let n := max 1 ((length + 127) / 128)
    if c.ingressLine ≠ .t then some .wrongLine
    else if c.maxLength < length then some .oversize
    else if d.reducedSet c = [] then some .egressClosed
    else if (d.settings .t).dropLevel < d.pool.usage.get .t + n then some .lineLimit
    else if 1 < (d.reducedSet c).length ∧ d.tables.device.sharedLevel < d.pool.sharedCount + n then
      some .sharedLimit
    else if d.pool.free.length < n then some .poolEmpty
    else none

/-- The origin of a frame handed over by a branch: by an EXCHANGE, with its element's input circuit,
or by a SERVICE or probe (R31). -/
def branchOrigin (k : Branch) (station : Nat) (exchanged : Option (Option Nat)) (ref : Nat) :
    Origin :=
  match exchanged with
  | some input => .exchange k station input ref
  | none => .service k station ref

/-- The frame a branch hands over, with the values of its descriptor (R31). -/
def branchArriving (k : Branch) (station : Nat) (exchanged : Option (Option Nat)) (ref : Nat)
    (f : Frame) : Arriving :=
  { origin := branchOrigin k station exchanged ref, cid := f.cid, priority := f.priority,
    length := f.length }

/-- The reason of the first of the checks of R34 to R38 that refuses a frame handed over by a
branch, if one does: absent circuit, wrong line, wrong station, wrong kind, oversize, no open egress
line, shared limit. -/
def Device.branchRefusal (d : Device) (k : Branch) (station : Nat)
    (exchanged : Option (Option Nat)) (cid length : Nat) : Option Reason :=
  match d.circuit? cid with
  | none => some .unknown
  | some c =>
    let fitsKind : Bool :=
      match exchanged with
      | some input => decide (c.kind = .periodic ∧ input = some cid)
      | none => decide (c.kind = .aperiodic)
    if c.ingressLine ≠ k.line then some .wrongLine
    else if c.ingressStation ≠ some station then some .wrongStation
    else if fitsKind = false then some .wrongKind
    else if c.maxLength < length then some .oversize
    else if d.reducedSet c = [] then some .egressClosed
    else if 1 < (d.reducedSet c).length ∧
        d.tables.device.sharedLevel < d.pool.sharedCount + max 1 ((length + 127) / 128) then
      some .sharedLimit
    else none

end Sys2Proof.Machine
end

