-- ==== Sys2Proof/Certificates/Slice0/Obligations.lean ====
section
/-! DEFINITION. The statements for the provers. -/

open Sys2Proof Sys2Proof.Machine

/-! ### The step -/

/-- A step takes the command at the front of the queue and answers what `exec` answers on the
state with the queue's rest, whole and indivisible as 95_what_each_step_holds.md says; that
commands wait in a queue is the model's choice (log 1), and so is that the block idles on an empty
one (log 2). -/
def Obligations.StepTakesTheFrontOfTheQueue : Prop :=
  (∀ (c : Instr) (s : State), step { s with pending := c :: s.pending } = exec c s) ∧
  ∀ s : State, s.pending = [] → step s = .next s

/-- Every command completes in every state, and leaves the queue of commands alone; while the reset
input is asserted the part is held at its power-on state, and no other command than the two of the
input acts (00_scope.md, Section 9; the model's reading, log 4). -/
def Obligations.EveryCommandAnswersANextState : Prop :=
  (∀ (c : Instr) (s : State), ∃ t : State, exec c s = .next t ∧ t.pending = s.pending) ∧
  ∀ (c : Instr) (s : State), s.dev.inReset = true →
    (∀ now, c ≠ .powerOnReset now) → (∀ now straps, c ≠ .resetRelease now straps) →
    exec c s = .next s

/-! ### Reset and restart -/

/-- Power-on reset frees all 512 blocks: no frame and no context exists, every usage count and the
shared count are 0, POOL_EMPTY is armed, and the drop levels are 256 for T and 128 for each branch
and the shared level 128 (R71). -/
def Obligations.PowerOnResetFreesThePool : Prop :=
  ∀ (now : Nat) (s : State), ∃ t : State, exec (.powerOnReset now) s = .next t ∧
    t.dev.pool.free.Perm (List.range 512) ∧ t.dev.pool.frames.cells = [] ∧
    t.dev.contexts = [] ∧ (∀ l, t.dev.pool.usage.get l = 0) ∧ t.dev.pool.sharedCount = 0 ∧
    t.dev.pool.emptyArmed = true ∧ (t.dev.settings .t).dropLevel = 256 ∧
    (∀ k : Branch, (t.dev.settings k.line).dropLevel = 128) ∧
    t.dev.tables.device.sharedLevel = 128

/-- Power-on reset puts every other block in its power-on state, and the input is then asserted;
that T has a service credit too is the model's artifact (log 19) (R1, R14, R22, R30, R45, R46,
R51, R52, R73, R75, R91, R103, R105, R126, R155 to R158, R169). -/
def Obligations.PowerOnResetState : Prop :=
  ∀ (now : Nat) (s : State), ∃ t : State, exec (.powerOnReset now) s = .next t ∧
    t.pending = s.pending ∧ t.dev.inReset = true ∧ t.dev.now = now ∧
    t.dev.trunkAdm = .mgmtOnly ∧ (∀ k, t.dev.admission k = .shut) ∧
    (∀ l, (t.dev.lineIf l).headerError = false ∧ (t.dev.lineIf l).payloadError = false ∧
      (t.dev.lineIf l).capture = { filled := none, errorCount := 0 } ∧
      ∀ c, t.dev.lineCount l c = 0) ∧
    t.dev.tables.circuits.cells = [] ∧ t.dev.tables.schedule.cells = [] ∧
    (∀ cid c, t.dev.circuitCount cid c = 0) ∧
    (∀ m, t.dev.meterSettings m =
      { mode := .pass, cir := 0, cbs := 0, ebs := 0, yellow := .forward, red := .drop }) ∧
    (∀ m, t.dev.meterState m =
      { committed := 0, excess := 0, green := 0, yellow := 0, red := 0 }) ∧
    (∀ l, t.dev.accumulators.get l = 0) ∧ t.dev.tables.thinning = List.replicate 16 0 ∧
    (∀ l p, p < 8 → (t.dev.priorityClass l p).toNat = p / 2) ∧
    (∀ l, { t.dev.settings l with dropLevel := 0 } =
      { captureMode := .first, dropLevel := 0, egressMode := .weighted,
        weights := ⟨1, 2, 4, 8⟩, serviceWeight := 2, rates := ⟨0, 0, 0, 0⟩, byteTime := 100,
        replyTimeout := 50, retryLimit := 1, reserve := 50, busyLimit := 16,
        faultThreshold := 3, probeInterval := 64 }) ∧
    { t.dev.tables.device with nodeAddress := 0 } =
      { nodeAddress := 0, attentionEnable := true, sharedLevel := 128, reassemblyTimeout := 8,
        d := 1000, w := 50, n := 4, g := 20 } ∧
    t.dev.timer =
      { state := .unlocked, cycle := 0, miss := 0, lastStart := none, expiry := none } ∧
    (∀ l c, t.dev.queue l c = [] ∧ t.dev.release l c = none) ∧
    (∀ l, (t.dev.egr l).credits = { cls := ⟨1, 2, 4, 8⟩, service := 2 }) ∧
    t.dev.slots.cells = [] ∧ t.dev.trunkTx = none ∧
    (∀ k, t.dev.seq k =
      { state := .waiting, cycle := 0, deadline := none, list := [], inFlight := none,
        sending := none, pendingStart := none, holds := PerClass.all false, delivering := none,
        lastServiced := 30 }) ∧
    (∀ k st, (t.dev.stationConfig k st) = { configured := false, service := false } ∧
      t.dev.station k st =
        { state := .absent, failureCount := 0, resyncPending := false, downToggle := false,
          upExpected := false, probeCountdown := 0, lastFaultCode := 0, serviced := false,
          counters := Table.empty }) ∧
    t.dev.change = { state := .empty, list := [], target := none, generation := 0 } ∧
    t.dev.endpoint =
      { queue := [], slot := none, inProgress := none, events := [], eventsLost := false,
        mgmtOverrun := false, attnOutstanding := false, attnPending := false,
        overrunCount := 0, notMineCount := 0 }

/-- At its release the part begins operation from the power-on state with the node address of the
straps, where 63 is read as 0 (00_scope.md, Section 9). A release of an input that is not asserted
changes nothing, which is the model's reading (log 4). -/
def Obligations.ResetReleaseReadsTheStraps : Prop :=
  ∀ (now : Nat) (straps : BitVec 6) (s : State),
    (s.dev.inReset = true → ∃ t u : State, exec (.powerOnReset now) s = .next u ∧
      exec (.resetRelease now straps) s = .next t ∧
      t = { u with dev := { u.dev with
        inReset := false,
        tables := { u.dev.tables with device := { u.dev.tables.device with
          nodeAddress := if straps.toNat = 63 then 0 else straps.toNat } } } }) ∧
    (s.dev.inReset = false → exec (.resetRelease now straps) s = .next s)

/-- A RESTART is answered OK and becomes the request in progress; nothing else changes until its
response has been sent. At that transmission completion the restart takes place, owner by owner as
the table of R177 gives, and RESTARTED is raised last: no attention is pending or outstanding after
it but the one RESTARTED itself calls for (R72, R86, R103, R105, R126, R176, R177), which is placed
at the end of the event, the model's reading (log 15). -/
def Obligations.RestartIsAnsweredThenTakesPlace : Prop :=
  (∀ (now : Nat) (req : Request) (s : State), s.dev.takes req → req.entries = [] →
    let waits : Device :=
      { s.dev.arrived now (requestFrame .restart req) with
        endpoint := { s.dev.endpoint with inProgress := some .restart } }
    exec (.restart now req) s =
      .next { s with dev := waits.replied .restart req { status := .ok } }) ∧
  ∀ (now : Nat) (wire : List Byte) (s : State), s.dev.inReset = false →
    s.dev.trunkTx = some { holds := .record true, wire := wire } →
    ∃ t : State, exec (.trunkTransmissionComplete now) s = .next t ∧
      t.dev.endpoint.queue = [] ∧ t.dev.endpoint.inProgress = none ∧
      t.dev.trunkAdm = .mgmtOnly ∧ (∀ k, t.dev.admission k = .shut) ∧
      t.dev.pool.free.Perm (List.range 512) ∧ t.dev.pool.frames.cells = [] ∧
      (∀ l, t.dev.pool.usage.get l = 0) ∧ t.dev.pool.sharedCount = 0 ∧
      t.dev.pool.emptyArmed = true ∧ t.dev.contexts = [] ∧
      (∀ l c, t.dev.queue l c = [] ∧ t.dev.release l c = none) ∧
      (∀ l, (t.dev.egr l).credits.cls = (s.dev.settings l).weights ∧
        (t.dev.egr l).credits.service = (s.dev.settings l).serviceWeight) ∧
      t.dev.slots.cells = [] ∧
      (∀ k, t.dev.seq k =
        { state := .waiting, cycle := 0, deadline := none, list := [], inFlight := none,
          sending := (s.dev.seq k).sending, pendingStart := none, holds := PerClass.all false,
          delivering := none, lastServiced := 30 }) ∧
      (∀ k st, 1 ≤ st → st ≤ 30 → t.dev.station k st =
        { state := if (s.dev.stationConfig k st).configured then .active else .absent,
          failureCount := 0, resyncPending := (s.dev.stationConfig k st).configured,
          downToggle := false, upExpected := false, probeCountdown := 0,
          lastFaultCode := (s.dev.station k st).lastFaultCode, serviced := false,
          counters := (s.dev.station k st).counters }) ∧
      t.dev.timer = { state := .unlocked, cycle := s.dev.timer.cycle, miss := 0,
                      lastStart := none, expiry := none } ∧
      t.dev.change = { state := .empty, list := [], target := none,
                       generation := s.dev.change.generation } ∧
      (∀ l, t.dev.accumulators.get l = 0) ∧
      t.dev.tables = s.dev.tables ∧ t.dev.meters = s.dev.meters ∧
      t.dev.circuitCounters = s.dev.circuitCounters ∧
      t.dev.lines = (s.dev.bumpLine .t .framesSent).lines ∧
      (s.dev.endpoint.events.length < 32 → t.dev.endpoint.events = s.dev.endpoint.events ++
        [{ kind := .restarted, cycle := s.dev.timer.cycle, line := none, station := none,
           detail := s.dev.endpoint.queue.length }]) ∧
      (32 ≤ s.dev.endpoint.events.length → t.dev.endpoint.events = s.dev.endpoint.events ∧
        t.dev.endpoint.eventsLost = true) ∧
      (t.dev.endpoint.attnOutstanding = true ↔
        s.dev.endpoint.events = [] ∧ s.dev.tables.device.attentionEnable = true) ∧
      t.dev.endpoint.attnPending = false ∧
      (s.dev.endpoint.slot = none →
        s.dev.endpoint.events ≠ [] ∨ s.dev.tables.device.attentionEnable = false →
        t.dev.trunkTx = none ∧ t.dev.endpoint.slot = none) ∧
      (s.dev.endpoint.slot = none → s.dev.endpoint.events = [] →
        s.dev.tables.device.attentionEnable = true →
        t.dev.endpoint.slot = none ∧
        t.dev.trunkTx = some { holds := .record false,
                               wire := trunkData 4095 0 (attentionRecord t.dev) })

/-! ### Frames on the wire -/

/-- Every header sums to a multiple of 256 with its check, and a payload that is not empty is
followed by its CRC-16, most significant byte first (R6, R7). An arrival is judged by the header
(its size, kind, check and field ranges), then by the byte count, then by the payload check; the
first failure decides (R8, with the ranges of R3 to R5). A frame that passes is counted and handed
on: a CYCLE to the Cycle Timer, a DATA to the Classifier or, on CID 4095, to the Management
Endpoint, and a branch frame to its sequencer (R8). That the two trunk rows act alike, by the
frame's kind byte, is the model's choice (log 6), and that the slot rule and the transmitter's
choice end every event its reading (log 15). -/
def Obligations.TwoChecksProtectEveryFrame : Prop :=
  (∀ h : List Byte, ∃ check : Byte, sealHeader h = h ++ [check] ∧
    sumBytes (h ++ [check]) % 256 = 0) ∧
  sealHeader [0x02, 0x01, 0x05, 0x03, 0x00, 0x40] = [0x02, 0x01, 0x05, 0x03, 0x00, 0x40, 0xB5] ∧
  crc16 [] = 0xFFFF#16 ∧
  (∀ (p : List Byte) (b : Byte),
    let shift (r : BitVec 16) : BitVec 16 :=
      if r.getLsbD 15 then (r <<< 1) ^^^ 0x1021#16 else r <<< 1
    crc16 (p ++ [b]) = Nat.repeat shift 8 (crc16 p ^^^ (b.setWidth 16 <<< 8))) ∧
  crc16 [0x31, 0x32, 0x33, 0x34, 0x35, 0x36, 0x37, 0x38, 0x39] = 0x29B1#16 ∧
  withCheck [] = [] ∧
  (∀ p : List Byte, p ≠ [] → ∃ hi lo : Byte, withCheck p = p ++ [hi, lo] ∧
    256 * hi.toNat + lo.toNat = (crc16 p).toNat) ∧
  (∀ rx : RxBuffer,
    let byte (i : Nat) := rd1 rx.stored i
    let pair (i : Nat) := 256 * byte i + byte (i + 1)
    let sums (n : Nat) := n ≤ rx.count ∧ sumBytes (rx.stored.take n) % 256 = 0
    let payload := (rx.stored.drop 7).take (pair 4)
    checkTrunk rx =
      if byte 0 = 1 ∧ sums 4 then
        if rx.count = 4 then .passed (.cycle (BitVec.ofNat 16 (pair 1))) else .payloadError
      else if byte 0 = 2 ∧ sums 7 ∧ pair 1 ≤ 4095 ∧ byte 3 ≤ 7 ∧ pair 4 ≤ 1024 then
        if rx.count = (if pair 4 = 0 then 7 else 9 + pair 4) ∧
            (pair 4 = 0 ∨ pair (7 + pair 4) = (crc16 payload).toNat) then
          .passed (.data (pair 1) (byte 3) payload)
        else .payloadError
      else .headerError) ∧
  (∀ (kind : BranchKind) (rx : RxBuffer), rd1 rx.stored 0 = kind.code →
    let byte (i : Nat) := rd1 rx.stored i
    let pair (i : Nat) := 256 * byte i + byte (i + 1)
    let length := byte 5
    let payload := (rx.stored.drop 7).take length
    checkBranch rx =
      if 7 ≤ rx.count ∧ sumBytes (rx.stored.take 7) % 256 = 0 ∧
          (if kind = .cycle then byte 1 = 0 else 1 ≤ byte 1 ∧ byte 1 ≤ 30) ∧
          (kind = .deliver ∨ kind = .data ∨ byte 2 % 4 = 0) ∧
          (kind = .cycle ∨ pair 3 % 8192 ≤ 4095) ∧
          (if kind = .exchange ∨ kind = .deliver ∨ kind = .data then length ≤ 128
            else if kind = .fault then length = 1 else length = 0) then
        if rx.count = (if length = 0 then 7 else 9 + length) ∧
            (length = 0 ∨ pair (7 + length) = (crc16 payload).toNat) then
          .passed
            { kind := kind, station := byte 1, toggle := decide (128 ≤ byte 2),
              resync := decide (64 ≤ byte 2 % 128), fresh := decide (32 ≤ byte 2 % 64),
              position := [.only, .first, .middle, .last].getD (byte 2 % 4) .only,
              field := pair 3, payload := payload }
        else .payloadError
      else .headerError) ∧
  (∀ rx : RxBuffer, (∀ kind : BranchKind, rd1 rx.stored 0 ≠ kind.code) →
    checkBranch rx = .headerError) ∧
  (∀ (now : Nat) (bytes : List Byte) (s : State), s.dev.inReset = false →
    let got := collect .t 1033 bytes { s.dev with now := now }
    let counted := got.bumpLine .t .framesReceived
    let goes (d : Device) : Prop :=
      exec (.trunkDataArrival now bytes) s = .next { s with dev := settle d } ∧
      exec (.trunkCycleArrival now bytes) s = .next { s with dev := settle d }
    (checkTrunk (received 1033 bytes) = .headerError → goes (headerErrorOn .t got)) ∧
    (checkTrunk (received 1033 bytes) = .payloadError → goes (payloadErrorOn .t got)) ∧
    (∀ n, checkTrunk (received 1033 bytes) = .passed (.cycle n) →
      goes (timerArrival n counted)) ∧
    (∀ cid priority payload,
      checkTrunk (received 1033 bytes) = .passed (.data cid priority payload) →
      (cid = 4095 → goes (requestArrival payload counted)) ∧
      (cid ≠ 4095 → goes (classifyTrunk cid priority payload counted)))) ∧
  ∀ (k : Branch) (start now : Nat) (bytes : List Byte) (s : State), s.dev.inReset = false →
    s.dev.admission k ≠ .shut → s.dev.openedAt.get k < start →
    (s.dev.seq k).sending = none →
    let got := collect k.line 137 bytes { s.dev with now := now }
    let goes (d : Device) : Prop :=
      exec (.branchFrameArrival k start now bytes) s = .next { s with dev := settle d }
    (checkBranch (received 137 bytes) = .headerError →
      goes (erroredArrival k (headerErrorOn k.line got))) ∧
    (checkBranch (received 137 bytes) = .payloadError →
      goes (erroredArrival k (payloadErrorOn k.line got))) ∧
    (∀ f, checkBranch (received 137 bytes) = .passed f →
      goes (validArrival k f (got.bumpLine k.line .framesReceived)))

/-- Decode and encode agree on branch frames: a frame of any kind with any fields in their ranges,
laid out on the wire, passes the checks of a branch interface with those very fields (R4, R5, R8,
Section 1.12). -/
def Obligations.BranchFrameReadsBackAsItWasSent : Prop :=
  ∀ f : BranchFrame, f.inRange → checkBranch (received Config.branchBuffer f.wire) = .passed f

/-- Decode and encode agree on the entries of every loadable unit: an entry whose fields pass the
checks of STAGE, once in force, is read back byte for byte, and a removed one as 00h and FFh
(R21, R155, R160, R173). -/
def Obligations.EntryInForceReadsBackAsStaged : Prop :=
  ∀ (d : Device) (unit indices size i : Nat) (bs : List Byte),
    d.tables.sized → isLoadable unit = true → unitShape unit = some (indices, size) →
    i < indices → bs.length = size → entryOk unit bs = true →
    let entry : Staged := { unit := unit, index := i, action := actionOf unit bs }
    let after : Device := { d with tables := d.tables.withEntry entry }
    after.readEntry unit i =
      if (unit = 1 ∨ unit = 3) ∧ rd1 bs 0 = 0 then 0x00 :: List.replicate (size - 1) 0xFF else bs

/-! ### Arrivals that carry nothing on -/

/-- A trunk frame with a header error sets HEADER_ERROR, is counted and captured by the mode in
force, and HEADER_CAPTURE is raised when the record was empty; one with a payload error sets
PAYLOAD_ERROR and is counted. Nothing else changes. The same holds on a branch where no attempt
waits for a reply (R8 to R10, R12). That a branch frame whose start falls at the instant of the
opening is received is the model's choice (log 8), and that the capture's error count stays at its
largest value is its reading (log 24), and so is that the ATTENTION that HEADER_CAPTURE may call for
is placed at the end of the event (log 15). -/
def Obligations.ErroredFrameIsCountedAndCaptured : Prop :=
  ∀ (now : Nat) (bytes : List Byte) (s : State) (l : Line), s.dev.quiet →
    let size := if l = .t then 1033 else 137
    let rx := received size bytes
    let x := s.dev.lineIf l
    let cap : Capture :=
      { filled :=
          if x.capture.filled = none ∨ (s.dev.settings l).captureMode = .latest then
            some { bytes := rdN rx.stored 0 7, cycle := s.dev.timer.cycle }
          else x.capture.filled,
        errorCount := raiseCount x.capture.errorCount 1 }
    let headed : Device :=
      { s.dev with
        now := now,
        lines := s.dev.lines.set l { x with
          rx := rx, headerError := true, capture := cap, counters := bump x.counters 2 1 } }
    let afterHeader : Device :=
      if x.capture.filled = none then
        (raiseEvent .headerCapture (some l) none cap.errorCount headed).attended
      else headed
    let afterPayload : Device :=
      { s.dev with
        now := now,
        lines := s.dev.lines.set l { x with
          rx := rx, payloadError := true, counters := bump x.counters 3 1 } }
    (l = .t → checkTrunk rx = .headerError →
      exec (.trunkDataArrival now bytes) s = .next { s with dev := afterHeader } ∧
      exec (.trunkCycleArrival now bytes) s = .next { s with dev := afterHeader }) ∧
    (l = .t → checkTrunk rx = .payloadError →
      exec (.trunkDataArrival now bytes) s = .next { s with dev := afterPayload } ∧
      exec (.trunkCycleArrival now bytes) s = .next { s with dev := afterPayload }) ∧
    (∀ (k : Branch) (start : Nat), l = k.line → s.dev.admission k ≠ .shut →
      s.dev.openedAt.get k ≤ start → (s.dev.seq k).sending = none →
      (∀ r, (s.dev.seq k).inFlight = some r → r.replyWait = none) →
      (checkBranch rx = .headerError →
        exec (.branchFrameArrival k start now bytes) s = .next { s with dev := afterHeader }) ∧
      (checkBranch rx = .payloadError →
        exec (.branchFrameArrival k start now bytes) s = .next { s with dev := afterPayload }))

/-- A frame that began on a SHUT branch, or before the branch last opened, is dropped with its
bytes counted as ignored, whatever the interface sends (R20), where a start at the opening's own
instant counts as after it (log 8) and the bytes are counted at the frame's end (log 29), both the
model's choices. Another whose end falls while the branch interface sends is not received (R2,
R13; the model's reading, log 9), but one whose end falls at the very instant of the
transmission's start was received before it (R128, log 9). A valid frame that no attempt waits for
is discarded and counted UNEXPECTED, on the branch and against the station its header names, or on
the branch alone when that is station 0 (R130). Nothing else changes. -/
def Obligations.UnwantedBranchFrameIsOnlyCounted : Prop :=
  (∀ (k : Branch) (start now : Nat) (bytes : List Byte) (s : State), s.dev.quiet →
    let x := s.dev.lineIf k.line
    let counted : Device :=
      { s.dev with
        now := now,
        lines := s.dev.lines.set k.line { x with counters := bump x.counters 4 bytes.length } }
    ((s.dev.admission k = .shut ∨ start < s.dev.openedAt.get k) →
      exec (.branchFrameArrival k start now bytes) s = .next { s with dev := counted }) ∧
    (s.dev.admission k ≠ .shut → s.dev.openedAt.get k ≤ start →
      ∀ tx, (s.dev.seq k).sending = some tx → tx.starts ≠ now →
        exec (.branchFrameArrival k start now bytes) s =
          .next { s with dev := { s.dev with now := now } })) ∧
  ∀ (k : Branch) (start now : Nat) (bytes : List Byte) (f : BranchFrame) (s : State),
    s.dev.quiet → (∀ tx, (s.dev.seq k).sending = some tx → tx.starts = now) →
    s.dev.admission k ≠ .shut → s.dev.openedAt.get k ≤ start →
    (∀ r, (s.dev.seq k).inFlight = some r → r.replyWait = none) →
    checkBranch (received 137 bytes) = .passed f →
    let x := s.dev.lineIf k.line
    let counted : Device :=
      { s.dev with
        now := now,
        lines := s.dev.lines.set k.line { x with
          rx := received 137 bytes, counters := bump (bump x.counters 0 1) 33 1 } }
    let st := s.dev.station k f.station
    exec (.branchFrameArrival k start now bytes) s =
      .next { s with dev :=
        if f.station = 0 then counted
        else counted.setStation k f.station { st with counters := bump st.counters 8 1 } }

/-! ### Classification, meters and the pool -/

/-- A trunk DATA frame is discarded by the first check it fails, and counted under that check's
reason and nowhere else: ADMISSION while T is in MGMT_ONLY, then the checks of R34 to R37 in their
order (R33 to R37, R40). A frame handed over by a branch, from an EXCHANGE or from a SERVICE or
probe, is discarded in the same way by the first check of R34 to R38 it fails, WRONG_STATION,
WRONG_KIND and SHARED_LIMIT among them, and gives up its one reference (R31, R34 to R38, R40). -/
def Obligations.FirstFailingCheckDiscardsTheFrame : Prop :=
  (∀ (now cid priority : Nat) (payload : List Byte) (s : State), s.dev.quiet → cid ≤ 4094 →
    priority ≤ 7 → payload.length ≤ 1024 →
    let frame := trunkData cid priority payload
    let arrived := s.dev.arrived now frame
    (s.dev.trunkAdm = .mgmtOnly → exec (.trunkDataArrival now frame) s =
      .next { s with dev := arrived.countReason .t cid .admission }) ∧
    (s.dev.trunkAdm = .opened → ∀ r, s.dev.trunkRefusal cid payload.length = some r →
      exec (.trunkDataArrival now frame) s =
        .next { s with dev := arrived.countReason .t cid r })) ∧
  ∀ (k : Branch) (st : Nat) (exchanged : Option (Option Nat)) (ref : Nat) (f : Frame)
    (d : Device),
    let a := branchArriving k st exchanged ref f
    let discarded (r : Reason) : Device :=
      { d.countReason k.line f.cid r with pool := d.pool.release ref }
    (∀ r, discardArriving a r d = discarded r) ∧
    ∀ r, d.branchRefusal k st exchanged f.cid f.length = some r → classify a d = discarded r

/-- A discard or early release rises by one in the counter of its reason on its line and, while
its CID names a present circuit and the reason is not UNKNOWN, in the circuit's counter of that
reason; no other counter and nothing else changes (R40, R44, R88). -/
def Obligations.ReasonIsCountedOnLineAndCircuit : Prop :=
  ∀ (d : Device) (l : Line) (cid : Nat) (r : Reason),
    let d' := d.countReason l cid r
    d' = { d with lines := d'.lines, circuitCounters := d'.circuitCounters } ∧
    d'.lineCount l r.lineCounter = min (d.lineCount l r.lineCounter + 1) 4294967295 ∧
    (∀ l' c, l' ≠ l ∨ c ≠ r.lineCounter → d'.lineCount l' c = d.lineCount l' c) ∧
    (∀ l', { d'.lineIf l' with counters := Table.empty } =
      { d.lineIf l' with counters := Table.empty }) ∧
    (∀ c, d.circuit? cid ≠ none → r.circuitCounter = some c →
      d'.circuitCount cid c = min (d.circuitCount cid c + 1) 4294967295) ∧
    (∀ cid' c, cid' ≠ cid ∨ r.circuitCounter ≠ some c ∨ d.circuit? cid = none →
      d'.circuitCount cid' c = d.circuitCount cid' c)

/-- An accepted APERIODIC trunk frame is held in blocks charged to T, counted, and placed at the
tail of its class queue on every line of the reduced egress set; nothing else changes. The circuit
names no meter, and no branch of the set is in DONE (R122). A claim that takes the last free block
while POOL_EMPTY is armed raises it, charged to T with no station and the blocks claimed, and
disarms it (R30, R41, R42, R58, R70). That the first free blocks are the ones claimed is the model's
choice (log 17). A frame of a SERVICE or probe that is accepted keeps its blocks; its descriptor is
completed with its references and shared mark, and it is counted and placed in the same way, on T
and on the other branches, and the branches of the set in DONE select; at the end of the event an
idle transmitter makes its choice (R31, R41, R42, R98, R122). That the frame is placed on all its
lines before a branch looks at it, in the order B0 to B3, and that the transmitter's choice ends the
event, is the model's reading (log 15). -/
def Obligations.AcceptedAperiodicFrameIsHeldAndQueued : Prop :=
  (∀ (now cid priority : Nat) (payload : List Byte) (c : Circuit) (s : State), s.dev.quiet →
    cid ≤ 4094 → priority ≤ 7 → payload.length ≤ 1024 → s.dev.trunkAdm = .opened →
    s.dev.circuit? cid = some c → s.dev.trunkRefusal cid payload.length = none →
    c.kind = .aperiodic → c.meter = none →
    let lines := s.dev.reducedSet c
    let n := max 1 ((payload.length + 127) / 128)
    .t ∉ lines → (∀ k : Branch, k.line ∈ lines → (s.dev.seq k).state ≠ .done) →
    let frame := heldFrame s.dev.pool.free cid priority payload lines.length none
    let held := (s.dev.arrived now (trunkData cid priority payload)).afterClaim .t none n
      (s.dev.pool.afterAccept frame n lines.length)
    let counted :=
      (held.bumpCircuit cid .acceptedFrames).bumpCircuitBy cid .acceptedBytes payload.length
    let q := match c.classSource with
      | .fixed => c.fixedClass
      | .mapped => s.dev.tables.priorities.getD priority .c0
    let entry : Entry :=
      { frame := s.dev.pool.free.headD 0, egressCid := c.egressCid.getD cid,
        station := c.egressStation, busy := 0, nextSegment := 1 }
    ∃ t : State, exec (.trunkDataArrival now (trunkData cid priority payload)) s = .next t ∧
      t = { s with dev := { counted.attended with egress := t.dev.egress } } ∧
      (∀ l q', t.dev.queue l q' =
        s.dev.queue l q' ++ (if l ∈ lines ∧ q' = q then [entry] else [])) ∧
      ∀ l, (t.dev.egr l).credits = (s.dev.egr l).credits ∧
        (t.dev.egr l).release = (s.dev.egr l).release) ∧
  (∀ d : Device, d.mgmtReady → settle d = trunkChoose d) ∧
  ∀ (k : Branch) (st ref : Nat) (f : Frame) (c : Circuit) (d : Device),
    d.frame? ref = some f → d.circuit? f.cid = some c →
    d.branchRefusal k st none f.cid f.length = none →
    let a := branchArriving k st none ref f
    let lines := d.reducedSet c
    let f' := { f with
      refs := lines.length, shared := decide (1 < lines.length), fillCycle := none }
    let held : Device :=
      { d with pool := { d.pool with
          frames := d.pool.frames.insert ref f',
          sharedCount :=
            if 1 < lines.length then d.pool.sharedCount + f.chain.length
            else d.pool.sharedCount } }
    let counted :=
      (held.bumpCircuit f.cid .acceptedFrames).bumpCircuitBy f.cid .acceptedBytes f.length
    let q := match c.classSource with
      | .fixed => c.fixedClass
      | .mapped => d.tables.priorities.getD (k.line.toNat * 8 + f.priority) .c0
    let entry (l : Line) : Entry :=
      { frame := ref, egressCid := c.egressCid.getD f.cid,
        station := if l = .t then none else c.egressStation, busy := 0, nextSegment := 1 }
    let looks (x : Device) (l : Line) : Device :=
      match l.branch? with
      | none => x
      | some b =>
        if x.admission b = .opened ∧ (x.seq b).state = .done then selectBranch b x else x
    (c.meter = none → classify a d = acceptFrame a c d) ∧
    ∃ placed : Device, acceptFrame a c d = lines.foldl looks placed ∧
      placed = { counted with egress := placed.egress } ∧
      (∀ l q', placed.queue l q' =
        d.queue l q' ++ (if l ∈ lines ∧ q' = q then [entry l] else [])) ∧
      ∀ l, (placed.egr l).credits = (d.egr l).credits ∧
        (placed.egr l).release = (d.egr l).release

/-- An accepted PERIODIC trunk frame is held with the cycle number as its fill cycle and takes its
circuit's slot; a frame already there is released SUPERSEDED. A claim that takes the last free block
while POOL_EMPTY is armed raises it and disarms it. Nothing else changes (R41, R43, R70). That the
first free blocks are the ones claimed is the model's choice (log 17), and that the ATTENTION of
POOL_EMPTY is placed at the end of the event its reading (log 15). A frame of an EXCHANGE that is
accepted keeps its blocks; its descriptor is completed with the fill cycle and its one reference,
and it is counted and takes its slot, on T or on another branch, in the same way, and an idle
transmitter makes its choice (R31, R41, R43, R98), at the end of the event, the model's reading
(log 15). -/
def Obligations.AcceptedPeriodicFrameTakesItsSlot : Prop :=
  (∀ (now cid priority : Nat) (payload : List Byte) (c : Circuit) (k : Branch) (s : State),
    s.dev.quiet → cid ≤ 4094 → priority ≤ 7 → payload.length ≤ 1024 →
    s.dev.trunkAdm = .opened → s.dev.circuit? cid = some c →
    s.dev.trunkRefusal cid payload.length = none → c.kind = .periodic → c.meter = none →
    s.dev.reducedSet c = [k.line] →
    let n := max 1 ((payload.length + 127) / 128)
    let ref := s.dev.pool.free.headD 0
    let frame :=
      heldFrame s.dev.pool.free cid priority payload 1 (some s.dev.timer.cycle)
    let held := (s.dev.arrived now (trunkData cid priority payload)).afterClaim .t none n
      (s.dev.pool.afterAccept frame n 1)
    let counted :=
      (held.bumpCircuit cid .acceptedFrames).bumpCircuitBy cid .acceptedBytes payload.length
    let settled := match s.dev.slots.find? cid with
      | none => counted
      | some old => counted.dropFrame k.line old .superseded
    ∃ t : State, exec (.trunkDataArrival now (trunkData cid priority payload)) s = .next t ∧
      t = { s with dev := { settled.attended with slots := t.dev.slots } } ∧
      t.dev.slots.find? cid = some ref ∧
      ∀ cid', cid' ≠ cid → t.dev.slots.find? cid' = s.dev.slots.find? cid') ∧
  ∀ (k : Branch) (st ref : Nat) (f : Frame) (c : Circuit) (l : Line) (d : Device),
    d.frame? ref = some f → d.circuit? f.cid = some c →
    d.branchRefusal k st (some (some f.cid)) f.cid f.length = none → d.reducedSet c = [l] →
    let a := branchArriving k st (some (some f.cid)) ref f
    let f' := { f with refs := 1, shared := false, fillCycle := some d.timer.cycle }
    let held : Device :=
      { d with pool := { d.pool with frames := d.pool.frames.insert ref f' } }
    let counted :=
      (held.bumpCircuit f.cid .acceptedFrames).bumpCircuitBy f.cid .acceptedBytes f.length
    let settled := match d.slots.find? f.cid with
      | none => counted
      | some old => counted.dropFrame l old .superseded
    (c.meter = none → classify a d = acceptFrame a c d) ∧
    let placed := acceptFrame a c d
    (d.mgmtReady → settle placed = trunkChoose placed) ∧
    placed = { settled with slots := placed.slots } ∧
    placed.slots.find? f.cid = some ref ∧
    ∀ cid', cid' ≠ f.cid → placed.slots.find? cid' = d.slots.find? cid'

/-- A metered trunk frame is coloured by the first case of R47 that holds; the bucket of that case
is debited and the colour counted. A RED frame under DROP and a YELLOW frame that a thinning
decision discards go no further; every other frame goes on to acceptance and is counted as accepted
with its bytes (R39, R41, R47, R48, R53). A metered frame handed over by a branch is coloured and
decided in the same way, with the accumulator of its branch, and gives up its reference where it is
discarded (R39, R40, R53). -/
def Obligations.MeterColoursAndDecides : Prop :=
  (∀ (now cid priority m : Nat) (payload : List Byte) (c : Circuit) (s : State), s.dev.quiet →
    cid ≤ 4094 → priority ≤ 7 → payload.length ≤ 1024 → s.dev.trunkAdm = .opened →
    s.dev.circuit? cid = some c → s.dev.trunkRefusal cid payload.length = none →
    c.meter = some m →
    let frame := trunkData cid priority payload
    let arrived := s.dev.arrived now frame
    let settings := s.dev.meterSettings m
    let x := s.dev.meterState m
    let sum := s.dev.accumulators.get .t +
      s.dev.tables.thinning.getD (min 15 (s.dev.pool.usage.get .t / 32)) 0
    let green := { x with green := raiseCount x.green 1 }
    let yellow :=
      { x with yellow := raiseCount x.yellow 1, excess := x.excess - payload.length }
    let red := { x with red := raiseCount x.red 1 }
    let thinned : Device :=
      { arrived.setMeterState m yellow with
        accumulators := s.dev.accumulators.set .t (sum - 1024) }
    let accepted (t : State) : Prop :=
      t.dev.circuitCount cid .acceptedFrames =
        raiseCount (s.dev.circuitCount cid .acceptedFrames) 1 ∧
      t.dev.circuitCount cid .acceptedBytes =
        raiseCount (s.dev.circuitCount cid .acceptedBytes) payload.length
    (settings.mode = .pass → ∃ t : State, exec (.trunkDataArrival now frame) s = .next t ∧
      t.dev.meterState m = green ∧ t.dev.accumulators = s.dev.accumulators ∧ accepted t) ∧
    (settings.mode = .meter → payload.length ≤ x.committed →
      ∃ t : State, exec (.trunkDataArrival now frame) s = .next t ∧
        t.dev.meterState m = { green with committed := x.committed - payload.length } ∧
        t.dev.accumulators = s.dev.accumulators ∧ accepted t) ∧
    (settings.mode = .meter → x.committed < payload.length → payload.length ≤ x.excess →
      (settings.yellow = .forward → ∃ t : State,
        exec (.trunkDataArrival now frame) s = .next t ∧ t.dev.meterState m = yellow ∧
        t.dev.accumulators = s.dev.accumulators ∧ accepted t) ∧
      (settings.yellow = .thin → sum < 1024 → ∃ t : State,
        exec (.trunkDataArrival now frame) s = .next t ∧ t.dev.meterState m = yellow ∧
        t.dev.accumulators = s.dev.accumulators.set .t sum ∧ accepted t) ∧
      (settings.yellow = .thin → 1024 ≤ sum → exec (.trunkDataArrival now frame) s =
        .next { s with dev := thinned.countReason .t cid .thinned })) ∧
    (settings.mode = .meter → x.committed < payload.length → x.excess < payload.length →
      (settings.red = .drop → exec (.trunkDataArrival now frame) s =
        .next { s with dev := (arrived.setMeterState m red).countReason .t cid .red }) ∧
      (settings.red = .forward → ∃ t : State,
        exec (.trunkDataArrival now frame) s = .next t ∧ t.dev.meterState m = red ∧
        t.dev.accumulators = s.dev.accumulators ∧ accepted t))) ∧
  ∀ (k : Branch) (st : Nat) (exchanged : Option (Option Nat)) (ref m : Nat) (f : Frame)
    (c : Circuit) (d : Device), d.circuit? f.cid = some c →
    d.branchRefusal k st exchanged f.cid f.length = none → c.meter = some m →
    let a := branchArriving k st exchanged ref f
    let settings := d.meterSettings m
    let x := d.meterState m
    let sum := d.accumulators.get k.line +
      d.tables.thinning.getD (min 15 (d.pool.usage.get k.line / 32)) 0
    let green := { x with green := raiseCount x.green 1 }
    let yellow := { x with yellow := raiseCount x.yellow 1, excess := x.excess - f.length }
    let red := { x with red := raiseCount x.red 1 }
    let thinned (left : Nat) : Device :=
      { d.setMeterState m yellow with accumulators := d.accumulators.set k.line left }
    let discarded (r : Reason) (d' : Device) : Device :=
      { d'.countReason k.line f.cid r with pool := d.pool.release ref }
    (settings.mode = .pass → classify a d = acceptFrame a c (d.setMeterState m green)) ∧
    (settings.mode = .meter → f.length ≤ x.committed → classify a d =
      acceptFrame a c
        (d.setMeterState m { green with committed := x.committed - f.length })) ∧
    (settings.mode = .meter → x.committed < f.length → f.length ≤ x.excess →
      (settings.yellow = .forward →
        classify a d = acceptFrame a c (d.setMeterState m yellow)) ∧
      (settings.yellow = .thin → sum < 1024 →
        classify a d = acceptFrame a c (thinned sum)) ∧
      (settings.yellow = .thin → 1024 ≤ sum →
        classify a d = discarded .thinned (thinned (sum - 1024)))) ∧
    (settings.mode = .meter → x.committed < f.length → x.excess < f.length →
      (settings.red = .drop →
        classify a d = discarded .red (d.setMeterState m red)) ∧
      (settings.red = .forward → classify a d = acceptFrame a c (d.setMeterState m red)))

/-- At a cycle start a meter in METER mode gains CIR, what is above CBS spills into the excess
bucket, and what is then above EBS is lost; a meter in PASS mode, and everything that is not a
meter's level, stays as it was (R49). -/
def Obligations.MetersAreRefilled : Prop :=
  ∀ (d : Device),
    refillMeters d = { d with meters := (refillMeters d).meters } ∧
    ∀ m, m < 64 →
      let settings := d.meterSettings m
      let x := d.meterState m
      (settings.mode = .pass → (refillMeters d).meterState m = x) ∧
      (settings.mode = .meter → x.committed + settings.cir ≤ settings.cbs →
        (refillMeters d).meterState m = { x with committed := x.committed + settings.cir }) ∧
      (settings.mode = .meter → settings.cbs < x.committed + settings.cir →
        (refillMeters d).meterState m = { x with
          committed := settings.cbs,
          excess := min (x.excess + (x.committed + settings.cir - settings.cbs)) settings.ebs })

/-- Over a run of decisions made at one index of the Thinning Table, a weight w discards w out of
every 1024 frames: after n decisions the discards, at 1024 each, and the accumulator account for
the accumulator before and n times w (R51 to R53). -/
def Obligations.ThinningDiscardsItsShare : Prop :=
  ∀ (d : Device) (l : Line) (n : Nat),
    let w := d.tables.thinning.getD (min 15 (d.pool.usage.get l / 32)) 0
    d.accumulators.get l ≤ 1023 → w ≤ 1024 →
    (thinnings l n d).1 * 1024 + (thinnings l n d).2.accumulators.get l =
      d.accumulators.get l + n * w ∧
    (thinnings l n d).2.accumulators.get l ≤ 1023 ∧
    (thinnings l 1024 d).1 = w

/-- A release that brings a frame's reference count to 0 frees it: its blocks return to the free
list, its ingress line's usage and, if it is shared, the shared count fall by their number, and
its descriptor ceases; POOL_EMPTY is armed when 32 blocks are then free. A release that leaves the
count above 0 changes nothing else (R65, R70). -/
def Obligations.LastReleaseFreesTheFrame : Prop :=
  ∀ (p : Pool) (ref : Nat) (f : Frame), p.frames.find? ref = some f →
    (f.refs ≤ 1 →
      (p.release ref).free.Perm (f.chain.map Block.number ++ p.free) ∧
      (p.release ref).frames.find? ref = none ∧
      (∀ other, other ≠ ref → (p.release ref).frames.find? other = p.frames.find? other) ∧
      (p.release ref).usage.get f.ingress = p.usage.get f.ingress - f.chain.length ∧
      (∀ l, l ≠ f.ingress → (p.release ref).usage.get l = p.usage.get l) ∧
      (p.release ref).sharedCount =
        (if f.shared then p.sharedCount - f.chain.length else p.sharedCount) ∧
      ((p.release ref).emptyArmed = true ↔
        p.emptyArmed = true ∨ 32 ≤ f.chain.length + p.free.length)) ∧
    (1 < f.refs → p.release ref =
      { p with frames := p.frames.insert ref { f with refs := f.refs - 1 } })

/-! ### The Cycle Timer and what a cycle start does -/

/-- A CYCLE frame that is not early starts a cycle with its own number, at its arrival, whatever
the number: the timer becomes LOCKED with miss count 0 and a lock window set by D and W as they
are in force for the new cycle. One that comes before the early threshold of a LOCKED timer is
ignored, and counted early; nothing else changes (R74, R76 to R79, R82). -/
def Obligations.CycleFrameStartsACycle : Prop :=
  (∀ (now : Nat) (n : Cycle) (s : State), s.dev.inReset = false → s.dev.timer.accepts now →
    ∃ t : State, exec (.trunkCycleArrival now (trunkCycle n)) s = .next t ∧
      t.dev.timer =
        { state := .locked, cycle := n, miss := 0, lastStart := some now,
          expiry := some (.lockWindow
            (now + t.dev.tables.device.d * 1000 - t.dev.tables.device.w * 1000)
            (now + t.dev.tables.device.d * 1000 + t.dev.tables.device.w * 1000)) }) ∧
  ∀ (now early due : Nat) (n : Cycle) (s : State), s.dev.quiet →
    s.dev.timer.state = .locked → s.dev.timer.expiry = some (.lockWindow early due) →
    now < early →
    exec (.trunkCycleArrival now (trunkCycle n)) s =
      .next { s with dev := (s.dev.arrived now (trunkCycle n)).bumpLine .t .earlyCycle }

/-- An expiry starts a local cycle at its own instant, numbered one more than the last: from
LOCKED with miss count 1, and else with the miss count raised by one; the timer is COASTING, or
FREE once the miss count has reached N in force, and FREE stays FREE. A start that applies a commit
with a lower N does not go FREE by the lower N, which is judged at the next local start (R74, R80,
R81); that a count which only this start brings to the lower N waits too, and that a higher N counts
at once, is the model's reading (log 11). Where the expiry is not the one pending nothing happens,
which is the model's choice (log 7). -/
def Obligations.ExpiryStartsALocalCycle : Prop :=
  ∀ (due : Nat) (s : State), s.dev.inReset = false → s.dev.timer.consistent →
    (∀ early, s.dev.timer.expiry = some (.lockWindow early due) →
      ∃ t : State, exec .lockWindowExpiry s = .next t ∧
        t.dev.timer =
          { state :=
              if s.dev.tables.device.n ≤ 1 ∧ t.dev.tables.device.n ≤ 1 then .free
              else .coasting,
            cycle := s.dev.timer.cycle + 1, miss := 1, lastStart := some due,
            expiry := some (.localCycle (due + t.dev.tables.device.d * 1000)) }) ∧
    (s.dev.timer.expiry = some (.localCycle due) →
      let miss := min (s.dev.timer.miss + 1) 65535
      ∃ t : State, exec .localCycleExpiry s = .next t ∧
        t.dev.timer =
          { state :=
              if s.dev.timer.state = .free ∨
                (s.dev.tables.device.n ≤ miss ∧ t.dev.tables.device.n ≤ miss) then .free
              else .coasting,
            cycle := s.dev.timer.cycle + 1, miss := miss, lastStart := some due,
            expiry := some (.localCycle (due + t.dev.tables.device.d * 1000)) }) ∧
    (s.dev.quiet →
      (s.dev.timer.state ≠ .locked → exec .lockWindowExpiry s = .next s) ∧
      (s.dev.timer.state = .locked ∨ s.dev.timer.state = .unlocked →
        exec .localCycleExpiry s = .next s))

/-- A cycle start with no armed commit raises the cycle events of R84 and no other, in the order of
R80 and R82: from a CYCLE frame CYCLE_LOCKED when the timer was not LOCKED and CYCLE_SLIP at a
slip; from the lock window CYCLE_COASTING and, when N is 1, CYCLE_FREE; from a local cycle
CYCLE_FREE when COASTING ends (R84). -/
def Obligations.CycleEventsJoinInOrder : Prop :=
  ∀ (s : State), s.dev.inReset = false → s.dev.mgmtReady → s.dev.timer.consistent →
    s.dev.change.state ≠ .armed → s.dev.endpoint.events.length ≤ 30 →
    let event (kind : EventKind) (cycle : Cycle) (detail : Nat) : Event :=
      { kind := kind, cycle := cycle, line := some .t, station := none, detail := detail }
    let next := s.dev.timer.cycle + 1
    let n := s.dev.tables.device.n
    (∀ now number, s.dev.timer.accepts now →
      ∃ t : State, exec (.trunkCycleArrival now (trunkCycle number)) s = .next t ∧
        t.dev.endpoint.events = s.dev.endpoint.events ++
          (if s.dev.timer.state ≠ .locked then [event .cycleLocked number s.dev.timer.miss]
            else []) ++
          (if s.dev.timer.state ≠ .unlocked ∧ number ≠ next then
            [event .cycleSlip number next.toNat] else [])) ∧
    (s.dev.timer.state = .locked → ∃ t : State, exec .lockWindowExpiry s = .next t ∧
      t.dev.endpoint.events = s.dev.endpoint.events ++ [event .cycleCoasting next 0] ++
        (if n ≤ 1 then [event .cycleFree next n] else [])) ∧
    (s.dev.timer.state = .coasting ∨ s.dev.timer.state = .free →
      ∃ t : State, exec .localCycleExpiry s = .next t ∧
        t.dev.endpoint.events = s.dev.endpoint.events ++
          (if s.dev.timer.state = .coasting ∧ n ≤ min (s.dev.timer.miss + 1) 65535 then
            [event .cycleFree next n] else []))

/-- A cycle start, from a CYCLE frame or from either expiry, reaches every branch: an OPEN one with
nothing in flight or in transmission begins its cycle with the number, the deadline D − G after the
start, the list of the entries due in ascending index, and its CYCLE frame in transmission for 7
byte times; an OPEN one that is busy defers the start; a branch that is not OPEN is left alone
(R80, R81, R85, R107 to R109). No commit is armed. The start instant in the record of the
transmission is the model's own (log 9). -/
def Obligations.CycleStartReachesEveryBranch : Prop :=
  ∀ (s : State) (k : Branch), s.dev.inReset = false → s.dev.mgmtReady →
    s.dev.change.state ≠ .armed →
    let q := s.dev.seq k
    let device := s.dev.tables.device
    let reached (t : State) (n : Cycle) (start : Nat) : Prop :=
      let deadline := start + device.d * 1000 - device.g * 1000
      let due := s.dev.tables.schedule.cells.filter fun c =>
        decide (k.toNat * 48 ≤ c.1 ∧ c.1 < k.toNat * 48 + 48 ∧ n.toNat % c.2.period = c.2.phase)
      (s.dev.admission k = .opened → q.inFlight = none → q.sending = none →
        t.dev.seq k =
          { q with
            state := .periodic, cycle := n, deadline := some deadline, pendingStart := none,
            holds := PerClass.all false,
            list := due.map fun c =>
              { index := c.1, station := c.2.station, output := c.2.output,
                input := c.2.input, status := .pending },
            sending := some
              { role := .cycle, starts := start,
                ends := start + 7 * (s.dev.settings k.line).byteTime,
                wire := sealHeader ([0x10, 0x00, 0x00] ++ be2 n.toNat ++ [0x00]) } } ∧
        (s.dev.tables.schedule.sorted →
          ((t.dev.seq k).list.map Element.index).Pairwise (· < ·)) ∧
        t.dev.lineCount k.line .cyclesBegun =
          raiseCount (s.dev.lineCount k.line .cyclesBegun) 1 ∧
        ∀ st, 1 ≤ st → st ≤ 30 → (t.dev.station k st).serviced = false) ∧
      (s.dev.admission k = .opened → q.inFlight ≠ none ∨ q.sending ≠ none →
        t.dev.seq k = { q with pendingStart := some (n, deadline) } ∧
        t.dev.lineCount k.line .overrun = raiseCount (s.dev.lineCount k.line .overrun) 1) ∧
      (s.dev.admission k ≠ .opened → t.dev.seq k = q)
    (∀ now n, s.dev.timer.accepts now →
      ∃ t : State, exec (.trunkCycleArrival now (trunkCycle n)) s = .next t ∧
        reached t n now) ∧
    (∀ early due, s.dev.timer.expiry = some (.lockWindow early due) →
      ∃ t : State, exec .lockWindowExpiry s = .next t ∧
        reached t (s.dev.timer.cycle + 1) due) ∧
    (∀ due, s.dev.timer.expiry = some (.localCycle due) →
      ∃ t : State, exec .localCycleExpiry s = .next t ∧
        reached t (s.dev.timer.cycle + 1) due)

/-- A slip abandons an armed commit, even one whose target is the adopted number: the change state
becomes STAGING, the list is kept, the target is forgotten, the tables in force do not change, and
COMMIT_ABANDONED is raised with the adopted number and the abandoned target; that its record
comes after those of the cycle's own events is the model's choice (log 10). A local cycle start, from
either expiry, abandons none: it raises no COMMIT_ABANDONED, and one whose number is not the target
leaves the commit armed with its list, its target and its generation, and the tables in force as they
were (R83, R168). -/
def Obligations.SlipAbandonsTheArmedCommit : Prop :=
  (∀ (now : Nat) (n target : Cycle) (s : State), s.dev.inReset = false → s.dev.mgmtReady →
    s.dev.timer.accepts now → s.dev.timer.state ≠ .unlocked → n ≠ s.dev.timer.cycle + 1 →
    s.dev.change.state = .armed → s.dev.change.target = some target →
    s.dev.endpoint.events.length ≤ 29 →
    ∃ (t : State) (before : List Event),
      exec (.trunkCycleArrival now (trunkCycle n)) s = .next t ∧
      t.dev.change = { s.dev.change with state := .staging, target := none } ∧
      t.dev.tables = s.dev.tables ∧
      t.dev.endpoint.events = s.dev.endpoint.events ++ before ++
        [{ kind := .commitAbandoned, cycle := n, line := none, station := none,
           detail := target.toNat }]) ∧
  ∀ s : State, s.dev.inReset = false → s.dev.mgmtReady → s.dev.timer.consistent →
    s.dev.change.state = .armed →
    let stays (t : State) : Prop :=
      (∃ added, t.dev.endpoint.events = s.dev.endpoint.events ++ added ∧
        ∀ e ∈ added, e.kind ≠ .commitAbandoned) ∧
      (s.dev.change.target ≠ some (s.dev.timer.cycle + 1) →
        t.dev.change = s.dev.change ∧ t.dev.tables = s.dev.tables)
    (s.dev.timer.state = .locked →
      ∃ t : State, exec .lockWindowExpiry s = .next t ∧ stays t) ∧
    (s.dev.timer.state = .coasting ∨ s.dev.timer.state = .free →
      ∃ t : State, exec .localCycleExpiry s = .next t ∧ stays t)

/-- A cycle start that is no slip and carries the number of the armed target applies the commit:
every entry of the list is in force for the new cycle, the list is empty, the change state EMPTY,
the generation one more, and COMMIT_APPLIED is raised with it; whichever of lateness and the
application is taken first (R76, R102, R166). After an application a READ finds the content of every
listed entry, or 00h and FFh where the list removes it, and every entry that is not listed as it was
(R21, R166, R173). An application fills the buckets of every meter
written (R50), sets the credits of every line with a Line Settings entry to its weights (R92),
empties exactly the slots of the circuits removed or changed in kind, ingress line or egress set,
each counted RECONFIGURED on its line (R102), and puts every station it configures or unconfigures
in its state, whose context is gone when it is unconfigured (R141, R153). A frame partly delivered
to a station that is newly configured goes back to its first segment, and its branch's partial
delivery ends (R131). The other meters, credits, slots, stations, contexts, queue entries and
sequencers, and every shaper hold, stay. -/
def Obligations.ArmedCommitIsAppliedAtItsTarget : Prop :=
  (∀ (s : State), s.dev.inReset = false → s.dev.mgmtReady → s.dev.timer.consistent →
    s.dev.timer.state ≠ .unlocked → s.dev.change.state = .armed →
    s.dev.change.target = some (s.dev.timer.cycle + 1) → s.dev.endpoint.events.length ≤ 29 →
    let applied (t : State) : Prop :=
      t.dev.tables = s.dev.tables.withList s.dev.change.list ∧
      t.dev.change = { state := .empty, list := [], target := none,
                       generation := s.dev.change.generation + 1 } ∧
      ∃ before after, t.dev.endpoint.events = s.dev.endpoint.events ++ before ++
        [{ kind := .commitApplied, cycle := s.dev.timer.cycle + 1, line := none,
           station := none, detail := (s.dev.change.generation + 1).toNat }] ++ after
    (∀ now, s.dev.timer.accepts now → ∃ t : State,
      exec (.trunkCycleArrival now (trunkCycle (s.dev.timer.cycle + 1))) s = .next t ∧
      applied t) ∧
    (s.dev.timer.state = .locked →
      ∃ t : State, exec .lockWindowExpiry s = .next t ∧ applied t) ∧
    (s.dev.timer.state ≠ .locked →
      ∃ t : State, exec .localCycleExpiry s = .next t ∧ applied t)) ∧
  ∀ d : Device, d.change.consistent → d.slots.sorted →
    let a := applyList d
    let listed (unit index : Nat) : Prop :=
      ∃ e ∈ d.change.list, e.unit = unit ∧ e.index = index
    let reconfigured (cid : Nat) : Bool :=
      match d.circuit? cid, a.circuit? cid with
      | none, _ => false
      | some _, none => true
      | some old, some new =>
        decide (old.kind ≠ new.kind ∨ old.ingressLine ≠ new.ingressLine ∨
          old.egress ≠ new.egress)
    let returned (k : Branch) : Option Sys2Proof.Class := (d.seq k).delivering.filter fun c =>
      match (d.queue k.line c).head?.bind Entry.station with
      | none => false
      | some st => decide (1 ≤ st ∧ st ≤ 30 ∧ (d.stationConfig k st).configured = false ∧
          (a.stationConfig k st).configured = true)
    a = { d with
          tables := d.tables.withList d.change.list, change := a.change, lines := a.lines,
          meters := a.meters, circuitCounters := a.circuitCounters, pool := a.pool,
          egress := a.egress, slots := a.slots, seqs := a.seqs, stations := a.stations,
          contexts := a.contexts } ∧
    a.change = { state := .empty, list := [], target := none,
                 generation := d.change.generation + 1 } ∧
    (∀ unit indices size, isLoadable unit = true → unitShape unit = some (indices, size) →
      (d.tables.sized → ∀ e ∈ d.change.list, e.unit = unit → a.readEntry unit e.index =
        match e.action with
        | .content bytes => bytes
        | .remove => 0x00 :: List.replicate (size - 1) 0xFF) ∧
      ∀ i, i < indices → ¬ listed unit i → a.readEntry unit i = d.readEntry unit i) ∧
    (∀ m, (listed 2 m → a.meterState m =
        { d.meterState m with
          committed := (a.meterSettings m).cbs, excess := (a.meterSettings m).ebs }) ∧
      (¬ listed 2 m → a.meterState m = d.meterState m)) ∧
    (∀ l : Line,
      (listed 5 l.toNat → (a.egr l).credits =
        { cls := (a.settings l).weights, service := (a.settings l).serviceWeight }) ∧
      (¬ listed 5 l.toNat → (a.egr l).credits = (d.egr l).credits) ∧
      (a.egr l).release = (d.egr l).release) ∧
    (∀ c, a.queue .t c = d.queue .t c) ∧
    (∀ k : Branch,
      a.seq k =
        (if returned k = none then d.seq k else { d.seq k with delivering := none }) ∧
      ∀ c, a.queue k.line c =
        if returned k = some c then
          (d.queue k.line c).modifyHead fun e => { e with nextSegment := 1 }
        else d.queue k.line c) ∧
    (∀ cid, a.slots.find? cid = if reconfigured cid then none else d.slots.find? cid) ∧
    (∀ l : Line, a.lineCount l .reconfigured =
      (d.slots.cells.filter fun c => reconfigured c.1 && d.slotLine? c.1 == some l).foldl
        (fun n _ => raiseCount n 1) (d.lineCount l .reconfigured)) ∧
    ∀ (k : Branch) (st : Nat), 1 ≤ st → st ≤ 30 →
      let was := (d.stationConfig k st).configured
      let becomes := (a.stationConfig k st).configured
      let x := d.station k st
      (was = becomes → a.station k st = x ∧ a.context? k st = d.context? k st) ∧
      (was = false → becomes = true → a.context? k st = d.context? k st ∧
        a.station k st =
          { x with
            state := .active, failureCount := 0, resyncPending := true, downToggle := false,
            upExpected := false, probeCountdown := 0 }) ∧
      (was = true → becomes = false → a.context? k st = none ∧
        a.station k st =
          { x with
            state := .absent, failureCount := 0, resyncPending := false, downToggle := false,
            upExpected := false, probeCountdown := 0 })

/-! ### Egress -/

/-- In mode STRICT the eligible source highest in the rank class 3, class 2, class 1, class 0,
service is picked, and the credits are neither read nor changed (R95). -/
def Obligations.StrictPickTakesTheHighestEligible : Prop :=
  ∀ (ls : LineSettings) (credits : Credits) (eligible : Source → Bool),
    ls.egressMode = .strict →
    selectSource ls credits eligible =
      if eligible (.cls .c3) then some (.cls .c3, credits)
      else if eligible (.cls .c2) then some (.cls .c2, credits)
      else if eligible (.cls .c1) then some (.cls .c1, credits)
      else if eligible (.cls .c0) then some (.cls .c0, credits)
      else if eligible .service then some (.service, credits)
      else none

/-- In mode WEIGHTED a new round sets every credit to its weight when no eligible source has one
above 0; the eligible source with the greatest credit is picked, ties going to the highest in the
rank class 3, service, class 2, class 1, class 0; and the credit of the pick alone falls by 1
(R94). -/
def Obligations.WeightedPickTakesTheGreatestCredit : Prop :=
  ∀ (ls : LineSettings) (credits : Credits) (eligible : Source → Bool),
    ls.egressMode = .weighted →
    ((∀ s, eligible s = false) → selectSource ls credits eligible = none) ∧
    ((∃ s, eligible s = true) → ∃ (round after : Credits) (pick : Source),
      ((∀ s, eligible s = true → credits.of s = 0) →
        round = { cls := ls.weights, service := ls.serviceWeight }) ∧
      ((∃ s, eligible s = true ∧ credits.of s ≠ 0) → round = credits) ∧
      selectSource ls credits eligible = some (pick, after) ∧ eligible pick = true ∧
      (∀ s, eligible s = true → round.of s ≤ round.of pick) ∧
      (∀ s, eligible s = true → round.of s = round.of pick →
        [.cls .c3, .service, .cls .c2, .cls .c1, .cls .c0].idxOf pick ≤
          [.cls .c3, .service, .cls .c2, .cls .c1, .cls .c0].idxOf s) ∧
      after.of pick = round.of pick - 1 ∧ ∀ s, s ≠ pick → after.of s = round.of s)

/-- Over a round in which every eligible source stays eligible, each is picked as many times as
its weight, and the round ends with every eligible credit at 0 (Section 6.4). -/
def Obligations.RoundPicksEachSourceByItsWeight : Prop :=
  ∀ (ls : LineSettings) (eligible : Source → Bool), ls.egressMode = .weighted →
    let start : Credits := { cls := ls.weights, service := ls.serviceWeight }
    let able := [Source.cls .c3, .service, .cls .c2, .cls .c1, .cls .c0].filter eligible
    let round := picks ls eligible (able.map start.of).sum start
    ∀ s, round.1.count s = (if eligible s then start.of s else 0) ∧
      round.2.of s = (if eligible s then 0 else start.of s)

/-- An idle transmitter starts the response slot's record first, as a DATA frame on CID 4095 with
priority 0; then, while T is OPEN, the T slot of the lowest CID, under the egress CID in force;
then the head of the class picked, with the class's shaper hold; else it stays idle (R96, R98,
R99). -/
def Obligations.IdleTransmitterStartsTheFirstSource : Prop :=
  ∀ (d : Device), d.trunkTx = none → d.slots.sorted →
    (∀ r, d.endpoint.slot = some r → trunkChoose d =
      { d with
        trunkTx := some { holds := .record r.isRestart, wire := trunkData 4095 0 r.bytes },
        endpoint := { d.endpoint with slot := none } }) ∧
    (d.endpoint.slot = none → d.trunkAdm = .mgmtOnly → trunkChoose d = d) ∧
    (d.endpoint.slot = none → d.trunkAdm = .opened →
      (∀ cid ref c f, (cid, ref) ∈ d.slotsAt .t → (∀ x ∈ d.slotsAt .t, cid ≤ x.1) →
        d.circuit? cid = some c → d.frame? ref = some f →
        trunkChoose d =
          { d with
            slots := d.slots.erase cid,
            trunkTx := some
              { holds := .frame ref,
                wire := trunkData (c.egressCid.getD cid) f.priority f.payload } }) ∧
      (d.slotsAt .t = [] → (∀ c, d.queue .t c = []) → trunkChoose d = d) ∧
      (∀ c credits e es f, d.slotsAt .t = [] →
        selectSource (d.settings .t) (d.egr .t).credits d.trunkEligible =
          some (.cls c, credits) →
        d.queue .t c = e :: es → d.frame? e.frame = some f →
        let rate := (d.settings .t).rates.get c
        let hold :=
          if 0 < rate ∧ 0 < f.length then some (d.now + f.length * rate)
          else d.release .t c
        trunkChoose d =
          { ((d.setQueue .t c es).setRelease .t c hold).setCredits .t credits with
            trunkTx := some
              { holds := .frame e.frame,
                wire := trunkData e.egressCid f.priority f.payload } }))

/-- At a transmission completion the frame is counted as sent, the transmitter is idle, and its
reference to a pool frame is released; a record waiting in the slot is then sent, and with none the
transmitter makes its next choice, of a T slot or a class, on the state so released. With nothing
waiting nothing else changes (R13, R98, R100). The slot that the record leaves empty is filled by the
first that applies (R171): a ready response; nothing while a RESTART is in progress (R177); a pending
ATTENTION (R176); nothing while a SET_LINE is held; else the queue's head, which is removed and
performed, with its response in the slot unless it is held, each head before it whose node address no
longer matches being removed and counted NOT_MINE (R170, R172). -/
def Obligations.TrunkCompletionReleasesTheFrame : Prop :=
  ∀ (now : Nat) (tx : TrunkSending) (s : State), s.dev.inReset = false →
    s.dev.trunkTx = some tx → tx.holds ≠ .record true →
    let x := s.dev.lines.t
    let sent : Device :=
      { s.dev with
        now := now, trunkTx := none,
        lines := { s.dev.lines with t := { x with counters := bump x.counters 1 1 } } }
    (s.dev.mgmtReady → s.dev.trunkEmpty →
      (∀ ref, tx.holds = .frame ref → exec (.trunkTransmissionComplete now) s =
        .next { s with dev := { sent with pool := s.dev.pool.release ref } }) ∧
      (tx.holds = .record false →
        exec (.trunkTransmissionComplete now) s = .next { s with dev := sent })) ∧
    (s.dev.mgmtReady →
      (∀ ref, tx.holds = .frame ref → exec (.trunkTransmissionComplete now) s =
        .next { s with dev := trunkChoose { sent with pool := s.dev.pool.release ref } }) ∧
      (tx.holds = .record false →
        exec (.trunkTransmissionComplete now) s = .next { s with dev := trunkChoose sent })) ∧
    ∀ r, s.dev.endpoint.slot = some r →
      let p := s.dev.endpoint
      let started (queue : List (List Byte)) : Device :=
        { sent with
          trunkTx := some { holds := .record r.isRestart, wire := trunkData 4095 0 r.bytes },
          pool :=
            match tx.holds with
            | .frame ref => s.dev.pool.release ref
            | .record _ => s.dev.pool,
          endpoint := { p with slot := none, queue := queue } }
      let filled (d : Device) (record : MgmtRecord) : Device :=
        { d with endpoint := { d.endpoint with slot := some record } }
      let completes (d : Device) : Prop :=
        exec (.trunkTransmissionComplete now) s = .next { s with dev := d }
      let held : Prop := ∃ k op tag, p.inProgress = some (.setLine k op tag)
      let addressed (bs : List Byte) : Prop := ∃ node, bs.head? = some node ∧
        (node.toNat = 63 ∨ node.toNat = s.dev.tables.device.nodeAddress)
      (∀ response, p.inProgress = some (.ready response) →
        let idle := { started p.queue with endpoint := { (started p.queue).endpoint with
          inProgress := none } }
        completes (filled idle { bytes := response, isRestart := false })) ∧
      (p.inProgress = some .restart → completes (started p.queue)) ∧
      (held → p.attnPending = false → completes (started p.queue)) ∧
      (p.inProgress = none ∨ held → p.attnPending = true →
        let placed := { started p.queue with endpoint := { (started p.queue).endpoint with
          attnPending := false } }
        completes (filled placed { bytes := attentionRecord placed, isRestart := false })) ∧
      (p.inProgress = none → p.attnPending = false →
        ∀ others : List (List Byte), (∀ bs ∈ others, ¬ addressed bs) →
          let judged (queue : List (List Byte)) : Device :=
            { started queue with endpoint := { (started queue).endpoint with
                notMineCount := others.foldl (fun n _ => raiseCount n 1) p.notMineCount } }
          (p.queue = others → completes (judged [])) ∧
          ∀ bs rest, p.queue = others ++ bs :: rest → addressed bs →
            (∀ after, performRequest bs (judged rest) = (after, none) → completes after) ∧
            ∀ after reply, performRequest bs (judged rest) = (after, some reply) →
              completes (filled after
                { bytes := responseRecord after (bs.getD 1 0x00) [bs.getD 2 0x00, bs.getD 3 0x00]
                    reply,
                  isRestart := decide (after.endpoint.inProgress = some .restart) }))

/-- At its shaper release expiry, which falls at its own instant, a class is no longer held, and a
sequencer of an OPEN branch in DONE selects again. Nothing else changes; with no expiry pending
nothing happens, which is the model's choice (R97, R122; log 7). At the expiry of a class of T the
transmitter, if it is idle, makes its choice with the class no longer held (R97, R98). A branch's
selection first removes, from every class that is not held, the heads whose station is neither
ACTIVE nor SUSPECT, each released and counted STATION_GONE (R117, R118). It then picks among the
eligible sources, a class by its head's next segment and the service source by its candidate (R93,
R119, R120), and starts a DELIVER with the class's shaper hold (R96, R134) or a SERVICE (R120,
R136), or enters DONE (R122). The start instant in the record of the transmission is the model's own
(log 9). -/
def Obligations.ShaperReleaseMakesASelection : Prop :=
  (∀ (l : Line) (c : Sys2Proof.Class) (s : State), s.dev.quiet →
    (∀ due, s.dev.release l c = some due →
      let freed := ({ s.dev with now := due } : Device).setRelease l c none
      (∀ k : Branch, l = k.line → s.dev.admission k = .opened → (s.dev.seq k).state = .done →
        exec (.shaperReleaseExpiry l c) s = .next { s with dev := selectBranch k freed }) ∧
      ((∀ k : Branch, l = k.line → s.dev.admission k ≠ .opened ∨ (s.dev.seq k).state ≠ .done) →
        exec (.shaperReleaseExpiry l c) s = .next { s with dev := freed })) ∧
    (s.dev.release l c = none → exec (.shaperReleaseExpiry l c) s = .next s)) ∧
  (∀ (c : Sys2Proof.Class) (due : Nat) (s : State), s.dev.inReset = false → s.dev.mgmtReady →
    s.dev.release .t c = some due →
    let freed := ({ s.dev with now := due } : Device).setRelease .t c none
    let able (source : Source) : Bool :=
      match source with
      | .service => false
      | .cls q => !(s.dev.queue .t q).isEmpty && (q == c || (s.dev.release .t q).isNone)
    exec (.shaperReleaseExpiry .t c) s = .next { s with dev := trunkChoose freed } ∧
    (s.dev.trunkTx = none → s.dev.trunkAdm = .opened → s.dev.slotsAt .t = [] →
      trunkChoose freed =
        match selectSource (s.dev.settings .t) (s.dev.egr .t).credits able with
        | some (.cls q, credits) => startTrunkClass q (freed.setCredits .t credits)
        | _ => freed)) ∧
  (∀ (k : Branch) (d : Device),
    let swept := sweep k d
    let gone (e : Entry) : Bool :=
      match e.station with
      | none => true
      | some st =>
        decide ((d.station k st).state ≠ .active ∧ (d.station k st).state ≠ .suspect)
    let removed (c : Sys2Proof.Class) : List Entry :=
      if (d.seq k).holds.get c = false ∧ d.release k.line c = none then
        (d.queue k.line c).takeWhile gone
      else []
    let all := Class.all.flatMap removed
    swept = { d with
      lines := swept.lines, circuitCounters := swept.circuitCounters,
      egress := swept.egress, seqs := swept.seqs,
      pool := all.foldl (fun p e => p.release e.frame) d.pool } ∧
    (∀ (l : Line) (c : Sys2Proof.Class), swept.queue l c =
      if l = k.line then (d.queue l c).drop (removed c).length else d.queue l c) ∧
    (∀ l : Line, (swept.egr l).credits = (d.egr l).credits ∧
      (swept.egr l).release = (d.egr l).release) ∧
    (∀ b : Branch, swept.seq b =
      { d.seq b with
        delivering :=
          if b = k ∧ ((d.seq k).delivering.map fun c => decide (removed c ≠ [])) = some true then
            none
          else (d.seq b).delivering }) ∧
    swept.lineCount k.line .stationGone =
      all.foldl (fun n _ => raiseCount n 1) (d.lineCount k.line .stationGone)) ∧
  ∀ (k : Branch) (d : Device),
    let swept := sweep k d
    let q := swept.seq k
    let ls := swept.settings k.line
    let wait := ls.replyTimeout * 1000
    let fits (worst : Nat) : Bool :=
      match q.deadline with
      | none => false
      | some deadline => decide (swept.now + worst ≤ deadline)
    let segment (e : Entry) : List Byte :=
      ((swept.frame? e.frame).map fun f => f.segment e.nextSegment).getD []
    let deliverTime (bytes : List Byte) : Nat :=
      (frameSize bytes.length + 7) * ls.byteTime + wait
    let serviceTime := (7 + 137 + 7) * ls.byteTime + wait
    let up (st : Nat) : Bool :=
      decide ((swept.station k st).state = .active ∨ (swept.station k st).state = .suspect)
    let candidate :=
      (List.range' (q.lastServiced + 1) (30 - q.lastServiced) ++
        List.range' 1 q.lastServiced).find? fun st =>
          decide ((swept.stationConfig k st).configured = true ∧
            (swept.stationConfig k st).service = true ∧ up st = true ∧
            (swept.station k st).serviced = false)
    let eligible (source : Source) : Bool :=
      match source with
      | .service => candidate.isSome && fits serviceTime
      | .cls c =>
        match swept.queue k.line c with
        | [] => false
        | e :: _ =>
          !q.holds.get c && (swept.release k.line c).isNone &&
            decide (q.delivering = none ∨ q.delivering = some c) &&
            fits (deliverTime (segment e))
    let pick := selectSource ls (swept.egr k.line).credits eligible
    (pick = none → selectBranch k d = swept.setSeq k { q with state := .done }) ∧
    (∀ c credits e es f st, pick = some (.cls c, credits) → swept.queue k.line c = e :: es →
      swept.frame? e.frame = some f → e.station = some st →
      let bytes := segment e
      let x := swept.station k st
      let n := f.chain.length
      let s := e.nextSegment
      let hold :=
        if 0 < ls.rates.get c ∧ 0 < bytes.length then
          some (swept.now + bytes.length * ls.rates.get c)
        else swept.release k.line c
      let request : BranchFrame :=
        { kind := .deliver, station := st,
          toggle := if x.resyncPending then false else x.downToggle, resync := x.resyncPending,
          fresh := false,
          position := if n = 1 then .only else if s = 1 then .first else
            if s < n then .middle else .last,
          field := f.priority * 8192 + e.egressCid, payload := bytes }
      selectBranch k d =
        ((swept.setCredits k.line credits).setRelease k.line c hold).setSeq k { q with
          state := .aperiodic,
          inFlight := some
            { txn := .deliver c s, station := st, worst := deliverTime bytes, attempt := 1,
              replyWait := none, received := none },
          sending := some
            { role := .request, starts := swept.now,
              ends := swept.now + frameSize bytes.length * ls.byteTime,
              wire := request.wire } }) ∧
    (∀ credits st, pick = some (.service, credits) → candidate = some st →
      let x := swept.station k st
      selectBranch k d =
        ((swept.setCredits k.line credits).setStation k st { x with serviced := true }).setSeq k
          { q with
            state := .aperiodic, lastServiced := st,
            inFlight := some
              { txn := .service, station := st, worst := serviceTime, attempt := 1,
                replyWait := none, received := none },
            sending := some
              { role := .request, starts := swept.now, ends := swept.now + 7 * ls.byteTime,
                wire := sealHeader [0x12, byteOf st, if x.resyncPending then 0x40 else 0x00,
                  0x00, 0x00, 0x00] } })

/-! ### Branch transactions and stations -/

/-- At the completion of an attempt's request, at its own instant, the reply wait begins and ends
T_r later (R13, R128). With no transaction in flight, a completion on an OPEN branch begins a
deferred cycle (R107, R108), or takes the next elements in PERIODIC; at that of the part's own ACK
or BUSY the transaction ends (R114): its station's outcome, the hand-over of a received frame to the
Classifier (R31), its element or class, and the next step. The frame is counted as sent; with
nothing in transmission nothing happens, which is the model's choice (log 7). An element whose
station is gone is SKIPPED, one that does not fit MISSED, each with the next taken after it, and any
other starts its EXCHANGE with its own reference on the slot's frame (R110, R111, R115, R132); with
none left the lowest station due for a probe that fits is probed, else a selection is made (R115,
R116). The start instant in the record of a transmission is the model's own (log 9), and that the
slot rule ends the event its reading (log 15). -/
def Obligations.BranchCompletionTakesTheNextStep : Prop :=
  (∀ (k : Branch) (s : State), s.dev.quiet →
    let q := s.dev.seq k
    let sent (ends : Nat) : Device :=
      let x := s.dev.lineIf k.line
      { s.dev with
        now := ends, seqs := s.dev.seqs.set k { q with sending := none },
        lines := s.dev.lines.set k.line { x with counters := bump x.counters 1 1 } }
    let pending := q.list.filter fun e => decide (e.status = .pending)
    (∀ (starts ends : Nat) (wire : List Byte) (r : InFlight),
      q.sending = some { role := .request, starts := starts, ends := ends, wire := wire } →
      q.inFlight = some r →
      let waits : InFlight :=
        { r with replyWait := some (ends + (s.dev.settings k.line).replyTimeout * 1000) }
      let after := (sent ends).setSeq k { q with sending := none, inFlight := some waits }
      exec (.branchTransmissionComplete k) s = .next { s with dev := after }) ∧
    (∀ tx, q.sending = some tx → q.inFlight = none →
      (s.dev.admission k = .opened → ∀ start, q.pendingStart = some start →
        exec (.branchTransmissionComplete k) s =
          .next { s with dev := beginCycle k start.1 start.2 (sent tx.ends) }) ∧
      (s.dev.admission k = .opened → q.pendingStart = none → q.state = .periodic →
        exec (.branchTransmissionComplete k) s =
          .next { s with dev := periodicStep k pending (sent tx.ends) }) ∧
      (s.dev.admission k ≠ .opened ∨ (q.pendingStart = none ∧ q.state ≠ .periodic) →
        exec (.branchTransmissionComplete k) s = .next { s with dev := sent tx.ends })) ∧
    (∀ tx, q.sending = some tx → tx.role = .answer → ∀ r, q.inFlight = some r →
      exec (.branchTransmissionComplete k) s =
        .next { s with dev := settle (endTransaction k r .success (sent tx.ends)) }) ∧
    (q.sending = none → exec (.branchTransmissionComplete k) s = .next s)) ∧
  (∀ (k : Branch) (r : InFlight) (o : Outcome) (d : Device),
    let reported := reportOutcome k r.station (decide (r.txn = .probe)) o d
    let handed := handOverReceived k r reported
    let settled := settleTransaction k r o handed
    endTransaction k r o d =
      nextStep k (settled.setSeq k { settled.seq k with inFlight := none }) ∧
    (r.received = none → handed = reported) ∧
    (∀ ref, r.received = some ref → ∀ f, reported.frame? ref = some f →
      let origin : Origin :=
        match r.txn with
        | .exchange _ _ input _ _ _ => .exchange k r.station input ref
        | _ => .service k r.station ref
      let a : Arriving :=
        { origin := origin, cid := f.cid, priority := f.priority, length := f.length }
      handed = if f.cid = 4095 then discardArriving a .unknown reported
        else classify a reported)) ∧
  (∀ (k : Branch) (d : Device),
    let pending := (d.seq k).list.filter fun e => decide (e.status = .pending)
    (d.admission k = .shutting → nextStep k d = becomeShut k d) ∧
    (d.admission k = .opened → ∀ start, (d.seq k).pendingStart = some start →
      nextStep k d = beginCycle k start.1 start.2 d) ∧
    (d.admission k = .opened → (d.seq k).pendingStart = none →
      ((d.seq k).state = .periodic → nextStep k d = periodicStep k pending d) ∧
      ((d.seq k).state = .aperiodic → nextStep k d = aperiodicStep k d))) ∧
  (∀ (k : Branch) (n : Cycle) (deadline : Nat) (d : Device),
    let begun := beginCycle k n deadline d
    let due := d.tables.schedule.cells.filter fun c =>
      decide (k.toNat * 48 ≤ c.1 ∧ c.1 < k.toNat * 48 + 48 ∧ n.toNat % c.2.period = c.2.phase)
    begun.seq k =
      { d.seq k with
        state := .periodic, cycle := n, deadline := some deadline, pendingStart := none,
        holds := PerClass.all false,
        list := due.map fun c =>
          { index := c.1, station := c.2.station, output := c.2.output, input := c.2.input,
            status := .pending },
        sending := some
          { role := .cycle, starts := d.now,
            ends := d.now + 7 * (d.settings k.line).byteTime,
            wire := sealHeader ([0x10, 0x00, 0x00] ++ be2 n.toNat ++ [0x00]) } } ∧
    begun.lineCount k.line .cyclesBegun = raiseCount (d.lineCount k.line .cyclesBegun) 1 ∧
    begun.lineCount k.line .missed =
      ((d.seq k).list.filter fun e => decide (e.status = .pending)).foldl
        (fun m _ => raiseCount m 1) (d.lineCount k.line .missed) ∧
    ∀ st, 1 ≤ st → st ≤ 30 → (begun.station k st).serviced = false) ∧
  (∀ (k : Branch) (e : Element) (es : List Element) (d : Device),
    let ls := d.settings k.line
    let x := d.station k e.station
    let frame := e.output.bind d.slots.find?
    let held := frame.bind d.frame?
    let o := max (maxLengthIn d.tables.circuits e.output) ((held.map Frame.length).getD 0)
    let i := maxLengthIn d.tables.circuits e.input
    let worst := (frameSize o + frameSize i) * ls.byteTime + ls.replyTimeout * 1000
    let fits := ((d.seq k).deadline.map fun deadline => decide (d.now + worst ≤ deadline)) =
      some true
    let up := x.state = .active ∨ x.state = .suspect
    let marked (status : ElementStatus) : Device :=
      d.setSeq k { d.seq k with
        list := (d.seq k).list.map fun y =>
          if y.index = e.index then { y with status := status } else y }
    let cid := match e.output with
      | none => 0
      | some output => ((d.circuit? output).bind Circuit.egressCid).getD output
    let priority := (held.map Frame.priority).getD 0
    let request : BranchFrame :=
      { kind := .exchange, station := e.station, toggle := false, resync := x.resyncPending,
        fresh := frame.isSome, position := .only, field := priority * 8192 + cid,
        payload := (held.map Frame.payload).getD [] }
    let taken : Pool :=
      match frame, held with
      | some ref, some f =>
        { d.pool with frames := d.pool.frames.insert ref { f with refs := f.refs + 1 } }
      | _, _ => d.pool
    periodicStep k [] d = aperiodicStep k d ∧
    (¬ up → periodicStep k (e :: es) d =
      periodicStep k es ((marked .skipped).bumpBoth k e.station .skipped .skipped)) ∧
    (up → ¬ fits → periodicStep k (e :: es) d =
      periodicStep k es ((marked .missed).bumpBoth k e.station .missed .missed)) ∧
    (up → fits → periodicStep k (e :: es) d =
      ({ d with pool := taken } : Device).setSeq k { d.seq k with
        inFlight := some
          { txn := .exchange e.index e.output e.input frame cid priority, station := e.station,
            worst := worst, attempt := 1, replyWait := none, received := none },
        sending := some
          { role := .request, starts := d.now,
            ends := d.now + frameSize request.payload.length * ls.byteTime,
            wire := request.wire } })) ∧
  ∀ (k : Branch) (d : Device),
    let ls := d.settings k.line
    let free := d.setSeq k { d.seq k with state := .aperiodic }
    let due (st : Nat) : Prop := (d.station k st).state = .faulted ∧
      (d.station k st).probeCountdown = 0 ∧ (d.station k st).serviced = false
    let worst := (7 + 137 + 7) * ls.byteTime + ls.replyTimeout * 1000
    let fits := ((d.seq k).deadline.map fun deadline => decide (d.now + worst ≤ deadline)) =
      some true
    ((∀ st, 1 ≤ st → st ≤ 30 → ¬ due st) ∨ ¬ fits → aperiodicStep k d = selectBranch k free) ∧
    ∀ st, 1 ≤ st → st ≤ 30 → due st → (∀ lower, 1 ≤ lower → lower < st → ¬ due lower) → fits →
      aperiodicStep k d =
        (d.setStation k st { d.station k st with serviced := true }).setSeq k { d.seq k with
          state := .aperiodic,
          inFlight := some
            { txn := .probe, station := st, worst := worst, attempt := 1, replyWait := none,
              received := none },
          sending := some
            { role := .request, starts := d.now, ends := d.now + 7 * ls.byteTime,
              wire := sealHeader [0x12, byteOf st, 0x40, 0x00, 0x00, 0x00] } }

/-- An attempt fails at its reply timeout, at the expiry's own instant, at the arrival of an errored
frame, and at that of a valid frame from another station or of a kind that is no reply to its
transaction, which is counted PROTOCOL_ERROR on the branch and against the addressed station (R113,
R128, R129). While attempts are left, the branch is OPEN, no cycle start is deferred and the retry
fits before the deadline, the retry starts at once with the next attempt number and RETRIES rises,
and nothing else changes; else the transaction ends as failed (R111, R113). A valid frame whose
arrival falls at the same instant as the expiry and is taken after it is UNEXPECTED: the retry goes
on and no block is taken (R128; which frames are received then, log 9). That a frame whose start
falls at the opening's own instant is received is the model's choice (log 8), and so is that nothing
happens with no reply wait pending (log 7); that the slot rule ends the event is its reading (log
15). -/
def Obligations.FailedAttemptIsRetriedOrEnds : Prop :=
  (∀ (k : Branch) (s : State), s.dev.quiet →
    (∀ (r : InFlight) (due deadline : Nat), (s.dev.seq k).inFlight = some r →
      r.replyWait = some due → r.attempt < 1 + (s.dev.settings k.line).retryLimit →
      s.dev.admission k = .opened → (s.dev.seq k).pendingStart = none →
      (s.dev.seq k).deadline = some deadline → due + r.worst ≤ deadline →
      let request := s.dev.requestOf k r
      let size := frameSize request.payload.length
      let q := { s.dev.seq k with
        inFlight := some { r with attempt := r.attempt + 1, replyWait := none },
        sending := some { role := .request, starts := due, wire := request.wire,
                          ends := due + size * (s.dev.settings k.line).byteTime } }
      let x := s.dev.lineIf k.line
      let after : State := { s with dev :=
        { s.dev with
          now := due, seqs := s.dev.seqs.set k q,
          lines := s.dev.lines.set k.line { x with counters := bump x.counters 28 1 } } }
      exec (.replyTimeout k) s = .next after ∧
      ∀ (start : Nat) (bytes : List Byte) (f : BranchFrame), s.dev.openedAt.get k ≤ start →
        checkBranch (received 137 bytes) = .passed f →
        ∃ t : State, exec (.branchFrameArrival k start due bytes) after = .next t ∧
          t.dev.seqs = after.dev.seqs ∧ t.dev.pool = s.dev.pool ∧
          t.dev.lineCount k.line .unexpected =
            raiseCount (s.dev.lineCount k.line .unexpected) 1) ∧
    ((∀ r, (s.dev.seq k).inFlight = some r → r.replyWait = none) →
      exec (.replyTimeout k) s = .next s)) ∧
  (∀ (k : Branch) (due : Nat) (r : InFlight) (s : State), s.dev.inReset = false →
    (s.dev.seq k).inFlight = some r → r.replyWait = some due →
    exec (.replyTimeout k) s =
      .next { s with dev := settle (failAttempt k r { s.dev with now := due }) }) ∧
  (∀ (k : Branch) (start now : Nat) (bytes : List Byte) (r : InFlight) (s : State),
    s.dev.awaitsReply k start r →
    let got := collect k.line 137 bytes { s.dev with now := now }
    let fails (d : Device) : Prop :=
      exec (.branchFrameArrival k start now bytes) s =
        .next { s with dev := settle (failAttempt k r d) }
    let replies (f : BranchFrame) : Bool :=
      match r.txn with
      | .exchange .. =>
        decide ((f.kind = .data ∧ f.position = .only) ∨ f.kind = .empty ∨ f.kind = .fault)
      | .deliver .. => decide (f.kind = .ack ∨ f.kind = .busy ∨ f.kind = .fault)
      | _ => decide (f.kind = .data ∨ f.kind = .empty ∨ f.kind = .fault)
    (checkBranch (received 137 bytes) = .headerError → fails (headerErrorOn k.line got)) ∧
    (checkBranch (received 137 bytes) = .payloadError → fails (payloadErrorOn k.line got)) ∧
    ∀ f, checkBranch (received 137 bytes) = .passed f →
      f.station ≠ r.station ∨ replies f = false →
      fails ((got.bumpLine k.line .framesReceived).bumpBoth k r.station .protocolError
        .protocolError)) ∧
  ∀ (k : Branch) (r : InFlight) (d : Device),
    let q := d.seq k
    let request := d.requestOf k r
    let again := r.attempt < 1 + (d.settings k.line).retryLimit ∧ d.admission k = .opened ∧
      q.pendingStart = none ∧
      (q.deadline.map fun deadline => decide (d.now + r.worst ≤ deadline)) = some true
    (again → failAttempt k r d = (d.bumpLine k.line .retries).setSeq k { q with
      inFlight := some { r with attempt := r.attempt + 1, replyWait := none },
      sending := some
        { role := .request, starts := d.now,
          ends := d.now + frameSize request.payload.length * (d.settings k.line).byteTime,
          wire := request.wire } }) ∧
    (¬ again →
      failAttempt k r d = endTransaction k { r with replyWait := none } .failed d)

/-- On a SHUTTING branch a failed attempt is not retried: the transaction ends, the branch becomes
SHUT and is flushed, LINE_SHUT is raised, and the held SET_LINE is answered OK. A transmitter that
sends keeps sending (R17 to R19, R113, R171). -/
def Obligations.ShuttingBranchShutsAtTheTransactionsEnd : Prop :=
  ∀ (k : Branch) (r : InFlight) (due : Nat) (op : Byte) (tag : List Byte) (tx : TrunkSending)
    (s : State), s.dev.inReset = false → s.dev.admission k = .shutting →
    (s.dev.seq k).inFlight = some r → r.replyWait = some due → r.received = none →
    s.dev.endpoint.inProgress = some (.setLine k op tag) → s.dev.endpoint.slot = none →
    s.dev.trunkTx = some tx → s.dev.endpoint.events.length < 32 →
    ∃ t : State, exec (.replyTimeout k) s = .next t ∧
      t.dev.admission k = .shut ∧ (t.dev.seq k).inFlight = none ∧
      (t.dev.seq k).state = .waiting ∧ (t.dev.seq k).list = [] ∧
      (∀ c, t.dev.queue k.line c = [] ∧ t.dev.release k.line c = none) ∧
      t.dev.slotsAt k.line = [] ∧ (∀ c ∈ t.dev.contexts, c.branch ≠ k) ∧
      (∀ st, 1 ≤ st → st ≤ 30 → (s.dev.stationConfig k st).configured = true →
        (t.dev.station k st).resyncPending = true) ∧
      t.dev.endpoint.events = s.dev.endpoint.events ++
        [{ kind := .lineShut, cycle := s.dev.timer.cycle, line := some k.line, station := none,
           detail := 0 }] ∧
      t.dev.trunkTx = s.dev.trunkTx ∧ t.dev.endpoint.inProgress = none ∧
      t.dev.endpoint.slot =
        some { bytes := responseRecord s.dev op tag { status := .ok }, isRestart := false }

/-- What a transaction's outcome does to its station: success, failure up to the fault threshold,
a FAULT reply, and the outcome of a probe, with the events of each; nothing on an ABSENT station's
state, and nothing at a failure on a branch that is not OPEN (R18, R138 to R142). Where resync
becomes pending, a frame partly delivered to the station goes back to its first segment at the head
of its class, and the branch's partial delivery ends; every other queue entry and sequencer stays
(R131). That a probe whose
station commits have made ACTIVE in its flight acts as any transaction of an ACTIVE station is the
model's choice (log 31). -/
def Obligations.OutcomeActsOnTheStation : Prop :=
  ∀ (k : Branch) (st : Nat) (isProbe : Bool) (d : Device),
    d.endpoint.events.length < 32 →
    let x := d.station k st
    let ls := d.settings k.line
    let after (o : Outcome) := reportOutcome k st isProbe o d
    let raised (kind : EventKind) (detail : Nat) : List Event :=
      d.endpoint.events ++ [{ kind := kind, cycle := d.timer.cycle, line := some k.line,
                              station := some st, detail := detail }]
    let count := x.failureCount + 1
    let failed := bump x.counters 0 1
    let faulted := { x with
      state := StationState.faulted, probeCountdown := ls.probeInterval, resyncPending := true }
    let kept (d' : Device) : Prop := (∀ l c, d'.queue l c = d.queue l c) ∧ d'.seqs = d.seqs
    let returned : Option Sys2Proof.Class := (d.seq k).delivering.filter fun c =>
      decide ((d.queue k.line c).head?.bind Entry.station = some st)
    let resynced (d' : Device) : Prop :=
      (∀ (l : Line) (c : Sys2Proof.Class), d'.queue l c =
        if l = k.line ∧ returned = some c then
          (d.queue l c).modifyHead fun e => { e with nextSegment := 1 }
        else d.queue l c) ∧
      ∀ b : Branch, d'.seq b =
        if b = k ∧ returned ≠ none then { d.seq b with delivering := none } else d.seq b
    (x.state = .active ∨ x.state = .suspect →
      kept (after .success) ∧
      (after .success).station k st = { x with state := .active, failureCount := 0 } ∧
      (after .success).endpoint.events = d.endpoint.events) ∧
    (x.state = .faulted → kept (after .success) ∧
      (after .success).station k st =
        { x with state := .active, failureCount := 0, probeCountdown := 0 } ∧
      (after .success).endpoint.events = raised .stationRecovered 0) ∧
    (d.admission k = .opened → x.state = .active ∨ x.state = .suspect →
      (ls.faultThreshold ≤ count → resynced (after .failed) ∧
        (after .failed).station k st =
          { faulted with failureCount := count, counters := failed } ∧
        (after .failed).endpoint.events = raised .stationFaulted 256) ∧
      (count < ls.faultThreshold → kept (after .failed) ∧
        (after .failed).station k st =
          { x with state := .suspect, failureCount := count, counters := failed } ∧
        (after .failed).endpoint.events =
          (if x.state = .active then raised .stationSuspect count else d.endpoint.events))) ∧
    (d.admission k = .opened → x.state = .faulted → kept (after .failed) ∧
      (after .failed).station k st = { x with probeCountdown := ls.probeInterval } ∧
      (after .failed).endpoint.events = d.endpoint.events) ∧
    (d.admission k ≠ .opened → after .failed = d) ∧
    (∀ code, x.state ≠ .absent → resynced (after (.faultReply code)) ∧
      (after (.faultReply code)).station k st =
        { faulted with lastFaultCode := code, counters := bump x.counters 1 1 } ∧
      (after (.faultReply code)).endpoint.events =
        (if x.state = .faulted then d.endpoint.events else raised .stationFaulted code)) ∧
    (x.state = .absent → after .success = d ∧
      ∀ code, kept (after (.faultReply code)) ∧ (after (.faultReply code)).station k st =
        { x with counters := bump x.counters 1 1 })

/-- At a cycle start the probe countdown of every FAULTED station of an OPEN branch falls by one
when it is above 0; every other station, and everything else, stays as it was (R140). -/
def Obligations.ProbeCountdownsRunOnOpenBranches : Prop :=
  ∀ (d : Device),
    countDownProbes d = { d with stations := (countDownProbes d).stations } ∧
    ∀ (k : Branch) (st : Nat), 1 ≤ st → st ≤ 30 →
      let x := d.station k st
      (countDownProbes d).station k st =
        if d.admission k = .opened ∧ x.state = .faulted then
          { x with probeCountdown := x.probeCountdown - 1 }
        else x

/-- A reply to a DELIVER ends it at its arrival, after a pending resync: an ACK and a BUSY as
successes, a FAULT as a fault reply (R129, R131, R135). An ACK flips the down toggle of a station
that is not ABSENT (R141), and the entry goes on to its next segment, or leaves its queue with its
reference released after its last; that its class is from then on the one of the partial delivery
is the model's reading (log 25). Where R131 has returned the entry to segment 1 during the flight
the ACK leaves it there, which is the model's reading too (R131, R145; log 30). A BUSY leaves the
segment where it was, holds the class, and raises the busy count, which removes the entry
BUSY_LIMIT at the busy limit, and a failed DELIVER holds the class and leaves the entry (R119,
R121, R135). That a frame whose start falls at the opening's own instant is received is the model's
choice (log 8), and that the slot rule ends the event its reading (log 15). -/
def Obligations.DeliverReplyActsOnTheEntry : Prop :=
  (∀ (k : Branch) (start now segment : Nat) (bytes : List Byte) (f : BranchFrame)
    (c : Sys2Proof.Class) (r : InFlight) (s : State), s.dev.awaitsReply k start r →
    r.txn = .deliver c segment → checkBranch (received 137 bytes) = .passed f →
    f.station = r.station →
    let heard := s.dev.afterReply k r now bytes
    let ended (o : Outcome) (d : Device) : Prop :=
      exec (.branchFrameArrival k start now bytes) s =
        .next { s with dev := settle (endTransaction k { r with replyWait := none } o d) }
    (f.kind = .ack → ended .success (deliverAck k r.station c segment heard)) ∧
    (f.kind = .busy → ended .success (deliverBusy k r.station c heard)) ∧
    (f.kind = .fault → ended (.faultReply (f.payload.getD 0 0x00).toNat) heard)) ∧
  (∀ (k : Branch) (st segment : Nat) (c : Sys2Proof.Class) (e : Entry) (es : List Entry)
    (f : Frame) (d : Device), d.queue k.line c = e :: es → d.frame? e.frame = some f →
    let x := d.station k st
    let flipped :=
      if x.state = .absent then d
      else d.setStation k st { x with downToggle := !x.downToggle }
    let counted := (d.bumpBoth k st .busyReceived .busyReceived).setSeq k
      { d.seq k with holds := (d.seq k).holds.set c true }
    let left (d' : Device) : Device :=
      (d'.setQueue k.line c es).setSeq k { d'.seq k with
        delivering :=
          if (d.seq k).delivering = some c then none else (d.seq k).delivering }
    (e.nextSegment = segment → segment < f.chain.length →
      deliverAck k st c segment d =
        (flipped.setQueue k.line c ({ e with nextSegment := segment + 1 } :: es)).setSeq k
          { d.seq k with delivering := some c }) ∧
    (e.nextSegment = segment → f.chain.length ≤ segment →
      deliverAck k st c segment d =
        { left flipped with pool := d.pool.release e.frame }) ∧
    (e.nextSegment ≠ segment → deliverAck k st c segment d = flipped) ∧
    (e.busy + 1 ≠ (d.settings k.line).busyLimit →
      deliverBusy k st c d =
        counted.setQueue k.line c ({ e with busy := e.busy + 1 } :: es)) ∧
    (e.busy + 1 = (d.settings k.line).busyLimit →
      deliverBusy k st c d =
        { (left counted).countReason k.line f.cid .busyLimit with
          pool := d.pool.release e.frame })) ∧
  ∀ (k : Branch) (segment : Nat) (c : Sys2Proof.Class) (r : InFlight) (o : Outcome) (d : Device),
    r.txn = .deliver c segment →
    settleTransaction k r o d =
      if o = .failed then d.setSeq k { d.seq k with holds := (d.seq k).holds.set c true }
      else d

/-- A DATA reply of position ONLY to a SERVICE or probe, with the toggle the part expects, is
stored in a block charged to the branch and answered ACK: the up toggle expected flips, a pending
resync is cleared first, and the transaction holds the frame until the ACK has been sent (R61,
R128, R129, R131, R137). The other replies to a SERVICE or probe are handled as R136 and R137 give:
EMPTY and FAULT end it; DATA is answered BUSY on a SHUTTING branch; a duplicate is answered ACK and
counted; a refused claim is answered BUSY and counted BUSY_SENT; a segment goes to the Reassembly
Unit, and is answered ACK with the toggle flipped, or BUSY where it is refused (R18, R137, R148). A
reply to an EXCHANGE ends it: DATA is stored in the same way, or discarded FLUSHED on a SHUTTING
branch, or for want of room, and hands its frame over; EMPTY and FAULT bring nothing. After DATA or
EMPTY the slot is emptied if it still holds the output frame, the transaction's own reference is
released whatever the outcome, and the element is COMPLETED, or FAILED after a failed transaction
(R18, R133). A receipt stores its payload in one block charged to the branch, and one that takes the
last free block while POOL_EMPTY is armed raises it for the station and disarms it (R61, R70). That the first free blocks are the ones claimed is the model's choice (log 17), and so
is that a frame whose start falls at the opening's own instant is received (log 8); the start
instant in the record of the transmission is its own (log 9), and that the slot rule ends the event
its reading (log 15). -/
def Obligations.DataRepliesAreStoredAndAnswered : Prop :=
  (∀ (k : Branch) (start now block : Nat) (rest : List Nat) (bytes : List Byte)
    (f : BranchFrame) (r : InFlight) (s : State), s.dev.quiet → s.dev.awaitsReply k start r →
    s.dev.admission k = .opened → r.txn = .service ∨ r.txn = .probe →
    checkBranch (received 137 bytes) = .passed f → f.station = r.station → f.kind = .data →
    f.position = .only → (s.dev.station k r.station).state ≠ .absent →
    let x := s.dev.station k r.station
    f.toggle = (if x.resyncPending then false else x.upExpected) →
    s.dev.pool.usage.get k.line + 1 ≤ (s.dev.settings k.line).dropLevel →
    s.dev.pool.free = block :: rest → rest ≠ [] →
    ∃ t : State, exec (.branchFrameArrival k start now bytes) s = .next t ∧
      t.dev.pool.free = rest ∧
      t.dev.pool.usage.get k.line = s.dev.pool.usage.get k.line + 1 ∧
      t.dev.pool.sharedCount = s.dev.pool.sharedCount ∧
      t.dev.frame? block = some
        { chain := [{ number := block, data := f.payload }], length := f.payload.length,
          cid := f.cid, priority := f.priority, ingress := k.line, refs := 1, shared := false,
          fillCycle := none } ∧
      t.dev.station k r.station =
        { x with resyncPending := false, upExpected := !f.toggle,
                 downToggle := if x.resyncPending then false else x.downToggle } ∧
      t.dev.seq k =
        { s.dev.seq k with
          inFlight := some { r with replyWait := none, received := some block },
          sending := some
            { role := .answer, starts := now,
              ends := now + 7 * (s.dev.settings k.line).byteTime,
              wire := sealHeader [0x22, byteOf r.station, 0x00, 0x00, 0x00, 0x00] } } ∧
      t.dev.egress = s.dev.egress ∧ t.dev.slots = s.dev.slots ∧
      t.dev.contexts = s.dev.contexts ∧ t.dev.timer = s.dev.timer ∧
      t.dev.tables = s.dev.tables ∧ t.dev.change = s.dev.change ∧
      t.dev.endpoint = s.dev.endpoint ∧ t.dev.trunkTx = s.dev.trunkTx) ∧
  (∀ (k : Branch) (start now : Nat) (bytes : List Byte) (f : BranchFrame) (r : InFlight)
    (s : State), s.dev.awaitsReply k start r →
    checkBranch (received 137 bytes) = .passed f → f.station = r.station →
    let heard := s.dev.afterReply k r now bytes
    let handled (d : Device) : Prop :=
      exec (.branchFrameArrival k start now bytes) s = .next { s with dev := settle d }
    ((∃ element output input frame cid priority,
        r.txn = .exchange element output input frame cid priority) →
      (f.kind = .data ∧ f.position = .only) ∨ f.kind = .empty ∨ f.kind = .fault →
      handled (exchangeReply k { r with replyWait := none } f heard)) ∧
    (r.txn = .service ∨ r.txn = .probe →
      f.kind = .data ∨ f.kind = .empty ∨ f.kind = .fault →
      handled (serviceReply k { r with replyWait := none } f heard))) ∧
  (∀ (k : Branch) (f : BranchFrame) (r : InFlight) (d : Device),
    let full := (d.settings k.line).dropLevel < d.pool.usage.get k.line + 1
    let x := d.station k r.station
    let answered (code : Byte) (held : Option Nat) (d' : Device) : Device :=
      d'.setSeq k { d'.seq k with
        inFlight := some { r with replyWait := none, received := held },
        sending := some
          { role := .answer, starts := d.now, ends := d.now + 7 * (d.settings k.line).byteTime,
            wire := sealHeader [code, byteOf r.station, 0x00, 0x00, 0x00, 0x00] } }
    let acked (held : Option Nat) (d' : Device) : Device :=
      answered 0x22 held (if x.state = .absent then d'
        else d'.setStation k r.station { x with upExpected := !x.upExpected })
    let busied (d' : Device) : Device :=
      answered 0x23 r.received (d'.bumpBoth k r.station .busySent .busySent)
    (f.kind = .empty → serviceReply k r f d = endTransaction k r .success d) ∧
    (f.kind = .fault → serviceReply k r f d =
      endTransaction k r (.faultReply (f.payload.getD 0 0x00).toNat) d) ∧
    (f.kind = .data →
      (d.admission k = .shutting → serviceReply k r f d = busied d) ∧
      (d.admission k ≠ .shutting → f.toggle ≠ x.upExpected → serviceReply k r f d =
        answered 0x22 r.received (d.bumpBoth k r.station .duplicate .duplicate)) ∧
      (d.admission k ≠ .shutting → f.toggle = x.upExpected → f.position = .only →
        (full ∨ d.pool.free = [] → serviceReply k r f d = busied d) ∧
        (¬ full → ∀ block rest, d.pool.free = block :: rest →
          serviceReply k r f d = acked (some block) (storeReceipt k f d))) ∧
      (d.admission k ≠ .shutting → f.toggle = x.upExpected → f.position ≠ .only →
        let result := takeSegment k r.station f d
        (result.acknowledged = true →
          serviceReply k r f d = acked result.completed result.dev) ∧
        (result.acknowledged = false → serviceReply k r f d = busied result.dev)))) ∧
  (∀ (k : Branch) (f : BranchFrame) (block : Nat) (rest : List Nat) (d : Device),
    d.pool.free = block :: rest →
    let frame : Frame :=
      { chain := [{ number := block, data := f.payload }], length := f.payload.length,
        cid := f.cid, priority := f.priority, ingress := k.line, refs := 1, shared := false,
        fillCycle := none }
    storeReceipt k f d = d.afterClaim k.line (some f.station) 1
      { free := rest, frames := d.pool.frames.insert block frame,
        usage := d.pool.usage.set k.line (d.pool.usage.get k.line + 1),
        sharedCount := d.pool.sharedCount, emptyArmed := d.pool.emptyArmed }) ∧
  (∀ (k : Branch) (f : BranchFrame) (r : InFlight) (d : Device),
    let full := (d.settings k.line).dropLevel < d.pool.usage.get k.line + 1
    let ends (received : Option Nat) (d' : Device) : Prop :=
      exchangeReply k r f d = endTransaction k { r with received := received } .success d'
    (f.kind = .data →
      (d.admission k = .shutting → ends none (d.countReason k.line f.cid .flushed)) ∧
      (d.admission k ≠ .shutting → full → ends none (d.countReason k.line f.cid .lineLimit)) ∧
      (d.admission k ≠ .shutting → ¬ full → d.pool.free = [] →
        ends none (d.countReason k.line f.cid .poolEmpty)) ∧
      (d.admission k ≠ .shutting → ¬ full → ∀ block rest, d.pool.free = block :: rest →
        let stored := storeReceipt k f d
        ends (some block) stored ∧ stored.pool.free = rest ∧
        stored.pool.usage.get k.line = d.pool.usage.get k.line + 1 ∧
        stored.frame? block = some
          { chain := [{ number := block, data := f.payload }], length := f.payload.length,
            cid := f.cid, priority := f.priority, ingress := k.line, refs := 1, shared := false,
            fillCycle := none })) ∧
    (f.kind = .empty → exchangeReply k r f d = endTransaction k r .success d) ∧
    (f.kind = .fault → exchangeReply k r f d =
      endTransaction k r (.faultReply (f.payload.getD 0 0x00).toNat) d)) ∧
  ∀ (k : Branch) (element : Nat) (output input frame : Option Nat) (cid priority : Nat)
    (r : InFlight) (o : Outcome) (d : Device),
    r.txn = .exchange element output input frame cid priority →
    let status : ElementStatus := if o = .failed then .failed else .completed
    let marked := d.setSeq k { d.seq k with
      list := (d.seq k).list.map fun y =>
        if y.index = element then { y with status := status } else y }
    (frame = none → settleTransaction k r o d = marked) ∧
    ∀ ref, frame = some ref →
      (o = .success → ∀ out, output = some out → d.slots.find? out = some ref →
        settleTransaction k r o d =
          { marked with
            slots := d.slots.erase out, pool := (d.pool.release ref).release ref }) ∧
      (o ≠ .success ∨ output.bind d.slots.find? ≠ some ref →
        settleTransaction k r o d = { marked with pool := d.pool.release ref })

/-! ### Segments and reassembly -/

/-- A payload of L bytes is cut into max(1, ⌈L / 128⌉) segments that are its bytes in order: all
but the last of 128 bytes, and each with its position (R58, R144). -/
def Obligations.SegmentsCoverTheFrame : Prop :=
  ∀ (payload : List Byte),
    let n := max 1 ((payload.length + 127) / 128)
    let segments := pieces n payload
    segments.flatten = payload ∧ segments.length = n ∧
    (∀ s, 1 ≤ s → s < n → (segments.getD (s - 1) []).length = 128) ∧
    (segments.getD (n - 1) []).length = payload.length - 128 * (n - 1) ∧
    (payload.length ≠ 0 → 1 ≤ (segments.getD (n - 1) []).length) ∧
    (segments.getD (n - 1) []).length ≤ 128 ∧
    ∀ s, 1 ≤ s → s ≤ n → segmentPosition s n =
      if n = 1 then .only else if s = 1 then .first else if s < n then .middle else .last

/-- A FIRST abandons its station's own context before anything else, RESTARTED_BY_FIRST, and is
then handled as one that found none (R149, R153). For a station without a context a FIRST is
acknowledged and dropped UNCONFIGURED when the station is ABSENT, and else MALFORMED when it is
short; it is refused while 16 contexts exist or its claim is refused; otherwise it opens a context
(R62, R149). A MIDDLE or LAST without a context is acknowledged and dropped ORPHAN; one of another
CID, a ninth segment, a short MIDDLE and an empty LAST abandon the context, MALFORMED, and are
acknowledged; one whose claim is refused is refused, and the context stays; otherwise a MIDDLE is
appended to its station's context, and a LAST completes it into a held frame of its blocks in order
(R62, R150, R151, R153). A met claim that takes the last free block while POOL_EMPTY is armed raises
it for the station and disarms it (R70); that the first free block is the one claimed is the model's
choice (log 17). -/
def Obligations.SegmentsAreReassembled : Prop :=
  (∀ (k : Branch) (st : Nat) (f : BranchFrame) (d : Device),
    let taken := takeSegment k st f d
    let dropped (d' : Device) : Prop :=
      taken.acknowledged = true ∧ taken.completed = none ∧ taken.dev = d'
    let refused := taken.acknowledged = false ∧ taken.completed = none ∧ taken.dev = d
    let refusal := (d.settings k.line).dropLevel < d.pool.usage.get k.line + 1 ∨
      d.pool.free = []
    let without (c : Context) (counter : LineCounter) : Device :=
      let free := c.blocks.map Block.number ++ d.pool.free
      { d.bumpLine k.line counter with
        contexts := d.contexts.filter fun x => decide (¬ (x.branch = k ∧ x.station = st)),
        pool := { d.pool with
          free := free,
          usage := d.pool.usage.set k.line (d.pool.usage.get k.line - c.blocks.length),
          emptyArmed := d.pool.emptyArmed || decide (32 ≤ free.length) } }
    (f.position = .first →
      (∀ c, d.context? k st = some c →
        taken = takeSegment k st f (without c .restartedByFirst)) ∧
      (d.context? k st = none → (d.station k st).state = .absent →
        dropped (d.bumpLine k.line .unconfigured)) ∧
      (d.context? k st = none → (d.station k st).state ≠ .absent → f.payload.length < 128 →
        dropped (d.bumpLine k.line .malformed)) ∧
      (d.context? k st = none → (d.station k st).state ≠ .absent → f.payload.length = 128 →
        16 ≤ d.contexts.length ∨ refusal → refused)) ∧
    (f.position = .middle ∨ f.position = .last →
      (d.context? k st = none → dropped (d.bumpLine k.line .orphan)) ∧
      ∀ c, d.context? k st = some c →
        let malformed := f.cid ≠ c.cid ∨ 8 ≤ c.blocks.length ∨
          (f.position = .middle ∧ f.payload.length < 128) ∨
          (f.position = .last ∧ f.payload.length = 0)
        (malformed → dropped (without c .malformed)) ∧
        (¬ malformed → refusal → refused))) ∧
  ∀ (k : Branch) (st block : Nat) (rest : List Nat) (f : BranchFrame) (d : Device),
    d.pool.free = block :: rest →
    d.pool.usage.get k.line + 1 ≤ (d.settings k.line).dropLevel →
    let charged : Pool := { d.pool with
      free := rest, usage := d.pool.usage.set k.line (d.pool.usage.get k.line + 1) }
    let claimed := d.afterClaim k.line (some st) 1 charged
    (f.position = .first → d.context? k st = none → (d.station k st).state ≠ .absent →
      f.payload.length = 128 → d.contexts.length < 16 →
      (takeSegment k st f d).acknowledged = true ∧ (takeSegment k st f d).completed = none ∧
      (takeSegment k st f d).dev =
        { claimed with
          contexts := d.contexts ++
            [{ branch := k, station := st, cid := f.cid, priority := f.priority,
               blocks := [{ number := block, data := f.payload }],
               startCycle := d.timer.cycle }] }) ∧
    (∀ c, f.position = .middle → d.context? k st = some c → f.cid = c.cid →
      c.blocks.length < 8 → f.payload.length = 128 →
      (takeSegment k st f d).acknowledged = true ∧ (takeSegment k st f d).completed = none ∧
      (takeSegment k st f d).dev =
        { claimed with contexts := (takeSegment k st f d).dev.contexts } ∧
      (takeSegment k st f d).dev.context? k st =
        some { c with blocks := c.blocks ++ [{ number := block, data := f.payload }] }) ∧
    (∀ c first more, f.position = .last → d.context? k st = some c → f.cid = c.cid →
      c.blocks = first :: more → c.blocks.length < 8 → f.payload.length ≠ 0 →
      (takeSegment k st f d).acknowledged = true ∧
      (takeSegment k st f d).completed = some first.number ∧
      (takeSegment k st f d).dev.endpoint = claimed.endpoint ∧
      (takeSegment k st f d).dev.pool =
        { claimed.pool with frames := (takeSegment k st f d).dev.pool.frames } ∧
      (takeSegment k st f d).dev.context? k st = none ∧
      (takeSegment k st f d).dev.frame? first.number = some
        { chain := c.blocks ++ [{ number := block, data := f.payload }],
          length := 128 * c.blocks.length + f.payload.length, cid := c.cid,
          priority := c.priority, ingress := k.line, refs := 1, shared := false,
          fillCycle := none } ∧
      (takeSegment k st f d).dev.lineCount k.line .reassembled =
        raiseCount (d.lineCount k.line .reassembled) 1)

/-- At a cycle start exactly the T slots whose frame's fill cycle is at or behind the cycle number
minus 2 are emptied, and no other slot, each counted LATE on T and against its circuit while that is
present (R44, R88, R101); and exactly the contexts whose start cycle is at or behind the cycle number
minus the reassembly timeout are abandoned, each counted TIMEOUT on its branch, and their blocks are
free again (R69, R152, R153). The circuits' counts are stated where every reference is to a held
frame, an invariant of its own (R64). A cycle start of any kind with no armed commit does both under its own number, refills
the meters (R49) and counts the probe countdowns down (R140), in the one event (R76). -/
def Obligations.LateSlotsAndOldContextsAreGivenUp : Prop :=
  (∀ (d : Device), d.slots.sorted →
    let isLate (x : Nat × Nat) : Bool :=
      match d.slotLine? x.1, (d.frame? x.2).bind Frame.fillCycle with
      | some .t, some fill => fill == d.timer.cycle - 2 || Cycle.ahead (d.timer.cycle - 2) fill
      | _, _ => false
    let lates := d.slots.cells.filter isLate
    let lateOf (cid : Nat) :=
      lates.filter fun x => (d.frame? x.2).map Frame.cid == some cid
    (∀ l c, (discardLate d).lineCount l c =
      if l = .t ∧ c = .late then lates.foldl (fun n _ => raiseCount n 1) (d.lineCount l c)
      else d.lineCount l c) ∧
    (d.pool.frames.sorted → d.refsOk → ∀ cid c, (discardLate d).circuitCount cid c =
      if c = .late ∧ d.circuit? cid ≠ none then
        (lateOf cid).foldl (fun n _ => raiseCount n 1) (d.circuitCount cid c)
      else d.circuitCount cid c) ∧
    discardLate d = { d with
      slots := (discardLate d).slots, pool := (discardLate d).pool,
      lines := (discardLate d).lines, circuitCounters := (discardLate d).circuitCounters } ∧
    ∀ cid ref, d.slots.find? cid = some ref →
      let bound := d.timer.cycle - 2
      let late := d.slotLine? cid = some .t ∧ ∃ f fill, d.frame? ref = some f ∧
        f.fillCycle = some fill ∧ (fill = bound ∨ Cycle.ahead bound fill = true)
      (late → (discardLate d).slots.find? cid = none) ∧
      (¬ late → (discardLate d).slots.find? cid = some ref)) ∧
  (∀ (d : Device), (d.contexts.map fun c => (c.branch, c.station)).Nodup →
    let bound := d.timer.cycle - BitVec.ofNat 16 d.tables.device.reassemblyTimeout
    let stays (c : Context) : Bool :=
      !(c.startCycle == bound || Cycle.ahead bound c.startCycle)
    (∀ l c, (ageContexts d).lineCount l c =
      if c = .timeout then
        (d.contexts.filter fun x => !stays x && x.branch.line == l).foldl
          (fun n _ => raiseCount n 1) (d.lineCount l c)
      else d.lineCount l c) ∧
    (ageContexts d).circuitCounters = d.circuitCounters ∧
    (ageContexts d).contexts = d.contexts.filter stays ∧
    (ageContexts d).pool.free.Perm
      ((d.contexts.filter fun c => !stays c).flatMap (fun c => c.blocks.map Block.number) ++
        d.pool.free) ∧
    (ageContexts d).pool.frames = d.pool.frames ∧
    ∀ k : Branch, (ageContexts d).pool.usage.get k.line = d.pool.usage.get k.line -
      (((d.contexts.filter fun c => !stays c).filter fun c => c.branch == k).map
        fun c => c.blocks.length).sum) ∧
  ∀ (s : State), s.dev.quiet → s.dev.change.state ≠ .armed →
    let reached (t : State) (n : Cycle) : Prop :=
      let started : Device := { s.dev with timer := t.dev.timer }
      t.dev.timer.cycle = n ∧
      t.dev.slots = (discardLate started).slots ∧
      t.dev.contexts = (ageContexts started).contexts ∧
      t.dev.pool = (ageContexts (discardLate started)).pool ∧
      t.dev.meters = (refillMeters s.dev).meters ∧
      ∀ (k : Branch) (st : Nat), 1 ≤ st → st ≤ 30 →
        (t.dev.station k st).state = (s.dev.station k st).state ∧
        (t.dev.station k st).probeCountdown =
          ((countDownProbes s.dev).station k st).probeCountdown
    (∀ now n, s.dev.timer.accepts now →
      ∃ t : State, exec (.trunkCycleArrival now (trunkCycle n)) s = .next t ∧ reached t n) ∧
    (∀ early due, s.dev.timer.expiry = some (.lockWindow early due) →
      ∃ t : State, exec .lockWindowExpiry s = .next t ∧ reached t (s.dev.timer.cycle + 1)) ∧
    (∀ due, s.dev.timer.expiry = some (.localCycle due) →
      ∃ t : State, exec .localCycleExpiry s = .next t ∧ reached t (s.dev.timer.cycle + 1))

/-! ### The Management Endpoint -/

/-- A request whose node address is neither the part's nor 63 is counted NOT_MINE; one that finds
four records queued sets MGMT_OVERRUN and is counted; any other joins the tail of the queue, where
it waits while a record is in the slot. Nothing else changes (R170). One that finds the Endpoint with
nothing in hand is performed at its arrival, on the part as it stands then, and its response is
placed; an ATTENTION that the performing called for waits behind it (log 14); a request that is held
leaves the slot empty, and an idle transmitter makes its choice (R98, R171, R172; at the end of the
event, log 15). -/
def Obligations.ArrivingRequestIsQueued : Prop :=
  ∀ (now : Nat) (op : Op) (req : Request) (s : State), s.dev.inReset = false →
    req.fits = true →
    let arrived := s.dev.arrived now (requestFrame op req)
    let p := s.dev.endpoint
    let with' (p' : Endpoint) : State := { s with dev := { arrived with endpoint := p' } }
    (¬ s.dev.hears req → s.dev.quiet →
      exec (requestCommand now op req) s =
        .next (with' { p with notMineCount := raiseCount p.notMineCount 1 })) ∧
    (s.dev.hears req → p.slot ≠ none → s.dev.trunkTx ≠ none → 4 ≤ p.queue.length →
      exec (requestCommand now op req) s =
        .next (with' { p with
          mgmtOverrun := true, overrunCount := raiseCount p.overrunCount 1 })) ∧
    (s.dev.hears req → p.slot ≠ none → s.dev.trunkTx ≠ none → p.queue.length < 4 →
      exec (requestCommand now op req) s =
        .next (with' { p with queue := p.queue ++ [requestRecord op req] })) ∧
    (s.dev.hears req → s.dev.mgmtReady →
      (∀ after, performRequest (requestRecord op req) arrived = (after, none) →
        exec (requestCommand now op req) s = .next { s with dev := trunkChoose after }) ∧
      ∀ after reply, performRequest (requestRecord op req) arrived = (after, some reply) →
        let response := responseRecord after (byteOf op.code) (be2 req.tag.toNat) reply
        let restarts := decide (after.endpoint.inProgress = some .restart)
        exec (requestCommand now op req) s =
          .next { s with dev := placeAttention (after.answered response restarts) })

/-- A raised event joins the tail of the event list, or is discarded with EVENTS_LOST when the
list holds 32. One that joins an empty list, with attention enabled and none outstanding, makes an
ATTENTION pending (R175, R176). At the end of the event, which is the model's reading of when it is
placed (log 15), an Endpoint with nothing else in hand places it, and an idle transmitter sends it:
op 09h, tag 0, status OK, no entries; but the response of a SET_LINE made ready in the same event
comes before it (R98, R171). -/
def Obligations.RaisedEventJoinsAndCallsAttention : Prop :=
  ∀ (kind : EventKind) (line : Option Line) (station : Option Nat) (detail : Nat) (d : Device),
    let record : Event :=
      { kind := kind, cycle := d.timer.cycle, line := line, station := station,
        detail := detail }
    let p := d.endpoint
    let after := raiseEvent kind line station detail d
    let bytes : List Byte :=
      [byteOf d.tables.device.nodeAddress, 0x09, 0x00, 0x00, 0x00, byteOf d.change.state.code] ++
        be2 d.change.generation.toNat ++ be2 d.timer.cycle.toNat ++ [0x00, 0x00, 0x00, 0x00]
    (32 ≤ p.events.length → after = { d with endpoint := { p with eventsLost := true } }) ∧
    (p.events.length < 32 →
      (p.events ≠ [] ∨ d.tables.device.attentionEnable = false ∨ p.attnOutstanding = true) →
      after = { d with endpoint := { p with events := p.events ++ [record] } }) ∧
    (p.events = [] → d.tables.device.attentionEnable = true → p.attnOutstanding = false →
      let noted : Device :=
        { d with endpoint := { p with events := [record], attnOutstanding := true } }
      let answers (response : List Byte) : Device :=
        { noted with endpoint := { noted.endpoint with inProgress := none } }.answered response
          false
      after = { noted with endpoint := { noted.endpoint with attnPending := true } } ∧
      (d.mgmtReady → settle after = noted.answered bytes false) ∧
      ∀ response, p.slot = none → p.inProgress = some (.ready response) →
        settle after =
          if d.trunkTx = none then
            { answers response with endpoint := { (answers response).endpoint with
                slot := some { bytes := bytes, isRestart := false }, attnPending := false } }
          else { answers response with endpoint := { (answers response).endpoint with
                attnPending := true } })

/-- A record that is shorter than 11 bytes, or whose count or size is wrong for its op, is answered
BAD_FORMAT, and one of 11 bytes or more with an unknown op BAD_OP; the response carries the op and
tag bytes as received, with 00h for each byte the record lacks, and nothing else changes (R21,
R172). -/
def Obligations.BadFormatIsRefused : Prop :=
  (∀ (now : Nat) (op : Op) (req : Request) (s : State), s.dev.takes req →
    let counts := op = .read ∨ op = .stage ∨ op = .clear ∨ op = .takeEvents
    (counts ∧ (req.count.toNat = 0 ∨ 16 < req.count.toNat)) ∨
      (op ≠ .stage ∧ req.entries ≠ []) ∨
      (op = .stage ∧ ∃ indices size, isLoadable req.unit.toNat = true ∧
        unitShape req.unit.toNat = some (indices, size) ∧
        req.entries.length ≠ req.count.toNat * size) →
    let arrived := s.dev.arrived now (requestFrame op req)
    exec (requestCommand now op req) s =
      .next { s with dev := arrived.replied op req { status := .badFormat } }) ∧
  ∀ (now priority : Nat) (record : List Byte) (s : State), s.dev.inReset = false →
    s.dev.mgmtReady → priority ≤ 7 → record.length ≤ 1024 →
    (∃ node, record.head? = some node ∧
      (node.toNat = 63 ∨ node.toNat = s.dev.tables.device.nodeAddress)) →
    let frame := trunkData 4095 priority record
    let arrived := s.dev.arrived now frame
    let op := record.getD 1 0x00
    let answer (status : Status) : State :=
      let tag := [record.getD 2 0x00, record.getD 3 0x00]
      let response := responseRecord arrived op tag { status := status }
      { s with dev := arrived.answered response false }
    (record.length < 11 → exec (.trunkDataArrival now frame) s = .next (answer .badFormat)) ∧
    (11 ≤ record.length → op.toNat = 0 ∨ 8 < op.toNat →
      exec (.trunkDataArrival now frame) s = .next (answer .badOp))

/-- A READ is answered with the entries of consecutive indices as they stand in its own event, or
refused for its unit, its index range or the size of its response; it changes nothing else
(R172, R173). The entries of the read-only units are laid out as R44, R48, R127, R158 and R173
give, field by field. -/
def Obligations.ReadReturnsTheEntries : Prop :=
  (∀ (now : Nat) (req : Request) (s : State), s.dev.takes req → req.entries = [] →
    1 ≤ req.count.toNat → req.count.toNat ≤ 16 →
    let arrived := s.dev.arrived now (requestFrame .read req)
    let index := req.index.toNat
    let count := req.count.toNat
    let reply : Reply :=
      match unitShape req.unit.toNat with
      | none => { status := .badUnit }
      | some (indices, size) =>
        if indices < index + count then { status := .badIndex }
        else if 1024 < 14 + count * size then { status := .badFormat }
        else { status := .ok, count := count,
               entries := (List.range' index count).flatMap
                 (arrived.readEntry req.unit.toNat) }
    exec (.read now req) s = .next { s with dev := arrived.replied .read req reply }) ∧
  ∀ d : Device,
    let flag (b : Bool) : Byte := if b then 0x01 else 0x00
    (∀ (k : Branch) (st : Nat), 1 ≤ st → st ≤ 30 →
      let x := d.station k st
      let state : Byte := match x.state with
        | .absent => 0x00
        | .active => 0x01
        | .suspect => 0x02
        | .faulted => 0x03
      d.readEntry 16 (k.toNat * 30 + st - 1) =
        [state, byteOf x.failureCount, flag x.resyncPending, flag x.downToggle,
          flag x.upExpected] ++ be2 x.probeCountdown ++
          [byteOf x.lastFaultCode, flag x.serviced] ++
          [StationCounter.failedTransactions, .faultReplies, .protocolError, .missed, .skipped,
            .duplicate, .busySent, .busyReceived, .unexpected].flatMap
              fun c => be4 (d.stationCount k st c)) ∧
    (∀ l : Line,
      let x := d.lineIf l
      let admission : Byte := match l.branch? with
        | none => if d.trunkAdm = .opened then 0x01 else 0x00
        | some k => match d.admission k with
          | .shut => 0x00
          | .opened => 0x01
          | .shutting => 0x02
      let captured : List Byte := match x.capture.filled with
        | none => List.replicate 10 0x00
        | some c => 0x01 :: c.bytes ++ be2 c.cycle.toNat
      let sequencer : List Byte := match l.branch? with
        | none => [0x00, 0x00, 0xFF]
        | some k =>
          [match (d.seq k).state with
            | .waiting => 0x00
            | .periodic => 0x01
            | .aperiodic => 0x02
            | .done => 0x03,
            flag (d.seq k).pendingStart.isSome,
            match (d.seq k).delivering with
            | none => 0xFF
            | some c => byteOf c.toNat]
      d.readEntry 17 l.toNat =
        [admission, flag x.headerError, flag x.payloadError] ++ captured ++
          be4 x.capture.errorCount ++ be2 (d.pool.usage.get l) ++
          be2 (d.queue l .c0).length ++ be2 (d.queue l .c1).length ++
          be2 (d.queue l .c2).length ++ be2 (d.queue l .c3).length ++
          be2 (d.slotsAt l).length ++ sequencer) ∧
    (∀ l : Line, d.readEntry 18 l.toNat =
      [LineCounter.framesReceived, .framesSent, .headerErrors, .payloadErrors, .ignoredBytes,
        .earlyCycle, .admission, .unknown, .wrongLine, .wrongStation, .wrongKind, .oversize,
        .egressClosed, .lineLimit, .sharedLimit, .poolEmpty, .red, .thinned, .superseded, .late,
        .flushed, .reconfigured, .stationGone, .busyLimit, .cyclesBegun, .overrun, .missed,
        .skipped, .retries, .protocolError, .duplicate, .busySent, .busyReceived, .unexpected,
        .reassembled, .orphan, .malformed, .restartedByFirst, .timeout, .contextFlushed,
        .unconfigured].flatMap fun c => be4 (d.lineCount l c)) ∧
    (∀ cid, d.readEntry 19 cid =
      [CircuitCounter.acceptedFrames, .acceptedBytes, .admission, .wrongLine, .wrongStation,
        .wrongKind, .oversize, .egressClosed, .lineLimit, .sharedLimit, .poolEmpty, .red,
        .thinned, .superseded, .late, .flushed, .reconfigured, .stationGone,
        .busyLimit].flatMap fun c => be4 (d.circuitCount cid c)) ∧
    (∀ m, d.readEntry 20 m =
      be4 (d.meterState m).green ++ be4 (d.meterState m).yellow ++ be4 (d.meterState m).red ++
        be2 (d.meterState m).committed ++ be2 (d.meterState m).excess) ∧
    (let timer : Byte := match d.timer.state with
      | .unlocked => 0x00
      | .locked => 0x01
      | .coasting => 0x02
      | .free => 0x03
    let change : Byte := match d.change.state with
      | .empty => 0x00
      | .staging => 0x01
      | .armed => 0x02
    let target : List Byte := match d.change.target with
      | none => [0x00, 0x00]
      | some n => be2 n.toNat
    let p := d.endpoint
    d.readEntry 21 0 =
      [timer] ++ be2 d.timer.cycle.toNat ++ be2 d.timer.miss ++ [change] ++
        be2 d.change.generation.toNat ++ [byteOf d.change.list.length] ++ target ++
        be2 d.pool.free.length ++ be2 d.pool.sharedCount ++
        [byteOf d.contexts.length, byteOf p.events.length, flag p.eventsLost,
          flag p.mgmtOverrun, flag p.attnOutstanding] ++
        be4 p.overrunCount ++ be4 p.notMineCount) ∧
    (∀ i e, d.change.list[i]? = some e →
      let content : List Byte := match e.action with
        | .content bytes => 0x00 :: bytes ++ List.replicate (27 - bytes.length) 0x00
        | .remove => 0x01 :: List.replicate 27 0x00
      d.readEntry 22 i = [0x01, byteOf e.unit] ++ be2 e.index ++ content) ∧
    ∀ i, d.change.list.length ≤ i → d.readEntry 22 i = List.replicate 32 0x00

/-- A STAGE is judged by its checks in their order; one that passes is taken whole, and the change
state is STAGING: an entry already listed for a unit and index of the request is replaced at its
position, every other one keeps its place and content, and those that are new join at the end in
ascending index order. One that fails changes nothing (R159). -/
def Obligations.StageIsTakenWholeOrRefused : Prop :=
  ∀ (now : Nat) (req : Request) (s : State), s.dev.takes req →
    1 ≤ req.count.toNat → req.count.toNat ≤ 16 →
    let arrived := s.dev.arrived now (requestFrame .stage req)
    let unit := req.unit.toNat
    let index := req.index.toNat
    let count := req.count.toNat
    let refused (status : Status) : State :=
      { s with dev := arrived.replied .stage req { status := status } }
    (unitShape unit = none → exec (.stage now req) s = .next (refused .badUnit)) ∧
    (16 ≤ unit → unit ≤ 22 → exec (.stage now req) s = .next (refused .readOnly)) ∧
    ∀ indices size, isLoadable unit = true → unitShape unit = some (indices, size) →
      req.entries.length = count * size →
      let bytes (j : Nat) := (req.entries.drop (j * size)).take size
      let staged := (List.range count).map fun j =>
        { unit := unit, index := index + j, action := actionOf unit (bytes j) : Staged }
      let fresh := staged.filter fun e =>
        !(s.dev.change.list.any fun x => x.unit == e.unit && x.index == e.index)
      exec (.stage now req) s = .next (
        if indices < index + count then refused .badIndex
        else if s.dev.change.state = .armed then refused .armed
        else if ((List.range count).all fun j => entryOk unit (bytes j)) = false then
          refused .badValue
        else if 64 < s.dev.change.list.length + fresh.length then refused .listFull
        else
          let replaced := s.dev.change.list.map fun x =>
            (staged.find? fun e => e.unit == x.unit && e.index == x.index).getD x
          let taken : Device :=
            { arrived with change := { s.dev.change with
                state := .staging, list := replaced ++ fresh } }
          { s with dev := taken.replied .stage req { status := .ok } })

/-- A DISCARD, in any change state, empties the list, sets the change state to EMPTY and forgets
an armed target, so that no cycle start applies the commit; the response is OK, and no event is
raised (R161). -/
def Obligations.DiscardEmptiesTheList : Prop :=
  ∀ (now : Nat) (req : Request) (s : State), s.dev.takes req → req.entries = [] →
    let emptied : Device :=
      { s.dev.arrived now (requestFrame .discard req) with
        change := { state := .empty, list := [], target := none,
                    generation := s.dev.change.generation } }
    exec (.discard now req) s =
      .next { s with dev := emptied.replied .discard req { status := .ok } } ∧
    ∀ slip, (emptied.replied .discard req { status := .ok }).changeAct slip = .nothing

/-- A COMMIT is judged by its checks in their order; a refused one changes nothing, an accepted one
for NEXT or a cycle number arms the list, and an accepted IMMEDIATE one applies it at once and
raises COMMIT_APPLIED (R162, R166; the event's ATTENTION waits behind the response, log 14). -/
def Obligations.CommitIsJudgedInOrder : Prop :=
  ∀ (now : Nat) (req : Request) (s : State), s.dev.takes req → req.entries = [] →
    let arrived := s.dev.arrived now (requestFrame .commit req)
    let kind := req.argA.toNat
    let cycle := s.dev.timer.cycle
    let target := if kind = 1 then cycle + 1 else req.argB
    let refused (status : Status) : State :=
      { s with dev := arrived.replied .commit req { status := status } }
    let armed : Device :=
      { arrived with change := { s.dev.change with state := .armed, target := some target } }
    let applied := applyList arrived
    let event : Event :=
      { kind := .commitApplied, cycle := cycle, line := none, station := none,
        detail := applied.change.generation.toNat }
    let conflicting (unit index : Nat) : Reply :=
      { status := .conflict, detailUnit := unit, detailIndex := index }
    let immediate : Device :=
      placeAttention ((joinEvent event applied).replied .commit req { status := .ok })
    exec (.commit now req) s = .next (
      if s.dev.change.state = .empty then refused .emptyList
      else if s.dev.change.state = .armed then refused .armed
      else if 2 < kind then refused .badValue
      else if kind = 0 ∧ s.dev.timer.state ≠ .unlocked then refused .notUnlocked
      else if kind ≠ 0 ∧ s.dev.timer.state = .unlocked then refused .badTarget
      else if kind = 2 ∧ ¬ (1 ≤ (target - cycle).toNat ∧ (target - cycle).toNat ≤ 4096) then
        refused .badTarget
      else match s.dev.conflict with
        | some (unit, index) =>
          { s with dev := arrived.replied .commit req (conflicting unit index) }
        | none =>
          if kind = 0 then { s with dev := immediate }
          else { s with dev := armed.replied .commit req { status := .ok } })

/-- A list that validation passes leaves tables that meet every check: the shape of every circuit,
the references of every schedule entry, the periodic reserve of every branch in every residue, no
Line Settings entry for a branch that is not SHUT, and W ≤ D ÷ 4 and G < D; and a list that meets
them all passes (R24, R163 to R165). One that does not is named by the first check it fails, in the
order just given, and within the check by the first entry in ascending index: unit 1 and the CID;
unit 3 and the index; unit 3 and the entry at which the sum of the first residue of the first branch
goes over its limit; unit 5 and the line; unit 8 and 0. -/
def Obligations.ValidationMakesEveryCheck : Prop :=
  ∀ d : Device,
    let t := d.tables.withList d.change.list
    let configured (k : Branch) (st : Nat) : Bool :=
      (t.stations.get StationConfig.powerOn (k.toNat * 30 + st - 1)).configured
    let lines (c : Circuit) : List Line := [.t, .b0, .b1, .b2, .b3].filter c.egress.get
    let branches (c : Circuit) : List Branch :=
      [.b0, .b1, .b2, .b3].filter fun k => c.egress.get k.line
    let shape (c : Circuit) : Prop :=
      (c.ingressLine = .t → c.ingressStation = none) ∧
      (∀ k : Branch, c.ingressLine = k.line →
        c.ingressStation.map (configured k) = some true) ∧
      lines c ≠ [] ∧ c.ingressLine ∉ lines c ∧
      (c.kind = .periodic → (lines c).length = 1 ∧ c.maxLength ≤ 128) ∧
      (branches c = [] → c.egressStation = none) ∧
      ∀ k : Branch, k ∈ branches c → c.egressStation.map (configured k) = some true
    let references (index : Nat) (e : SchedEntry) : Prop :=
      let k : Branch := Branch.ofIndex (index / 48)
      configured k e.station = true ∧
      (∀ cid, e.output = some cid → ∃ c, t.circuits.find? cid = some c ∧ c.kind = .periodic ∧
        lines c = [k.line] ∧ c.egressStation = some e.station) ∧
      (∀ cid, e.input = some cid → ∃ c, t.circuits.find? cid = some c ∧ c.kind = .periodic ∧
        c.ingressLine = k.line ∧ c.ingressStation = some e.station) ∧
      ∀ x ∈ t.schedule.cells, x.1 < index →
        (e.output = none ∨ x.2.output ≠ e.output) ∧ (e.input = none ∨ x.2.input ≠ e.input)
    let worst (k : Branch) (e : SchedEntry) : Nat :=
      exchangeWorst (t.lines.get k.line) (maxLengthIn t.circuits e.output)
        (maxLengthIn t.circuits e.input)
    let due (k : Branch) (r : Nat) := t.schedule.cells.filter fun c =>
      decide (k.toNat * 48 ≤ c.1 ∧ c.1 < k.toNat * 48 + 48 ∧ r % c.2.period = c.2.phase)
    let limit (k : Branch) : Int :=
      ((t.lines.get k.line).reserve : Int) * ((t.device.d : Int) - t.device.g) * 10 -
        7 * (t.lines.get k.line).byteTime
    let total (k : Branch) (es : List (Nat × SchedEntry)) : Int :=
      (((es.map fun c => worst k c.2).sum : Nat) : Int)
    let badShape (cid : Nat) : Prop := ∃ c, (cid, c) ∈ t.circuits.cells ∧ ¬ shape c
    let badReference (i : Nat) : Prop := ∃ e, (i, e) ∈ t.schedule.cells ∧ ¬ references i e
    let overAt (k : Branch) (r i : Nat) : Prop := r < 128 ∧ ∃ before e after,
      due k r = before ++ (i, e) :: after ∧ (before = [] ∨ total k before ≤ limit k) ∧
      limit k < total k (before ++ [(i, e)])
    let badLine (k : Branch) : Prop := d.admission k ≠ .shut ∧
      ∃ e ∈ d.change.list, e.unit = 5 ∧ e.index = k.line.toNat
    (d.conflict = none ↔
      (∀ c ∈ t.circuits.cells, shape c.2) ∧
      (∀ c ∈ t.schedule.cells, references c.1 c.2) ∧
      (∀ (k : Branch) (r : Nat), r < 128 → due k r ≠ [] → total k (due k r) ≤ limit k) ∧
      (∀ e ∈ d.change.list, ∀ k : Branch, e.unit = 5 → e.index = k.line.toNat →
        d.admission k = .shut) ∧
      t.device.w ≤ t.device.d / 4 ∧ t.device.g < t.device.d) ∧
    (d.tables.ordered →
      (∀ cid, badShape cid → (∀ lower, lower < cid → ¬ badShape lower) →
        d.conflict = some (1, cid)) ∧
      ((∀ cid, ¬ badShape cid) →
        (∀ i, badReference i → (∀ lower, lower < i → ¬ badReference lower) →
          d.conflict = some (3, i)) ∧
        ((∀ i, ¬ badReference i) →
          (∀ (k : Branch) (r i : Nat), overAt k r i →
            (∀ lower j, lower < r → ¬ overAt k lower j) →
            (∀ (b : Branch) (q j : Nat), b.toNat < k.toNat → ¬ overAt b q j) →
            d.conflict = some (3, i)) ∧
          ((∀ (k : Branch) (r i : Nat), ¬ overAt k r i) →
            (∀ k : Branch, badLine k → (∀ b : Branch, b.toNat < k.toNat → ¬ badLine b) →
              d.conflict = some (5, k.line.toNat)) ∧
            ((∀ k : Branch, ¬ badLine k) →
              ¬ (t.device.w ≤ t.device.d / 4 ∧ t.device.g < t.device.d) →
              d.conflict = some (8, 0))))))

/-- A SET_LINE of the trunk opens it, or puts it in MGMT_ONLY with its queues and slots flushed, each
entry and slot counted FLUSHED on T and against its circuit while that is present; the present state
is answered OK and any other value LINE_STATE, and a line above 4 is refused BAD_VALUE, with nothing
changed (R15, R44, R88, R174). The circuits' counts are stated where every reference is to a held
frame, an invariant of its own (R64). -/
def Obligations.SetLineActsOnTheTrunk : Prop :=
  ∀ (now : Nat) (req : Request) (s : State), s.dev.takes req → req.entries = [] →
    let arrived := s.dev.arrived now (requestFrame .setLine req)
    let answer (d : Device) (status : Status) : State :=
      { s with dev := d.replied .setLine req { status := status } }
    let closed := flushTrunk { arrived with trunkAdm := .mgmtOnly }
    let flushed := (Class.all.flatMap fun c => (s.dev.queue .t c).map Entry.frame) ++
      (s.dev.slotsAt .t).map Prod.snd
    (4 < req.argA.toNat → exec (.setLine now req) s = .next (answer arrived .badValue)) ∧
    (req.argA.toNat = 0 → req.argB.toNat = 1 →
      exec (.setLine now req) s = .next (answer { arrived with trunkAdm := .opened } .ok)) ∧
    (req.argA.toNat = 0 → req.argB.toNat = 0 → s.dev.trunkAdm = .mgmtOnly →
      exec (.setLine now req) s = .next (answer arrived .ok)) ∧
    (req.argA.toNat = 0 → req.argB.toNat = 0 → s.dev.trunkAdm = .opened →
      exec (.setLine now req) s = .next (answer closed .ok) ∧
      closed.trunkAdm = .mgmtOnly ∧ (∀ c, closed.queue .t c = []) ∧ closed.slotsAt .t = [] ∧
      closed.trunkTx = s.dev.trunkTx ∧ (closed.egr .t).credits = (s.dev.egr .t).credits ∧
      (closed.egr .t).release = (s.dev.egr .t).release ∧
      (∀ l c, closed.lineCount l c =
        if l = .t ∧ c = .flushed then
          flushed.foldl (fun n _ => raiseCount n 1) (s.dev.lineCount l c)
        else arrived.lineCount l c) ∧
      (s.dev.pool.frames.sorted → s.dev.refsOk → ∀ cid c, closed.circuitCount cid c =
        if c = .flushed ∧ s.dev.circuit? cid ≠ none then
          (flushed.filter fun ref => (s.dev.frame? ref).map Frame.cid == some cid).foldl
            (fun n _ => raiseCount n 1) (s.dev.circuitCount cid c)
        else s.dev.circuitCount cid c)) ∧
    (req.argA.toNat = 0 → 1 < req.argB.toNat →
      exec (.setLine now req) s = .next (answer arrived .lineState))

/-- A SET_LINE of a branch opens a SHUT one, unless an armed list holds its Line Settings; shuts
an OPEN one at once and flushes it when no transaction is in flight, and else makes it SHUTTING
and is held; the present state is answered OK and any other value LINE_STATE. The flush counts each
queue entry and slot FLUSHED on the branch and against its circuit while that is present, and each
context abandoned on the branch (R16, R17, R19, R44, R69, R88, R153, R174); the circuits' counts are
stated where every reference is to a held frame, an invariant of its own (R64). The instant of the opening is kept in a field of the model's own (log 8); that a branch
shut at once raises no LINE_SHUT is the model's reading (log 16). -/
def Obligations.SetLineActsOnABranch : Prop :=
  ∀ (now : Nat) (req : Request) (k : Branch) (s : State), s.dev.takes req →
    req.entries = [] → req.argA.toNat = k.line.toNat →
    let arrived := s.dev.arrived now (requestFrame .setLine req)
    let answer (d : Device) (status : Status) : State :=
      { s with dev := d.replied .setLine req { status := status } }
    let armed := s.dev.change.state = .armed ∧
      ∃ e ∈ s.dev.change.list, e.unit = 5 ∧ e.index = k.line.toNat
    let opened := openBranch k arrived
    let shut := shutBranch k arrived
    let flushed := (Class.all.flatMap fun c => (s.dev.queue k.line c).map Entry.frame) ++
      (s.dev.slotsAt k.line).map Prod.snd
    let shutting : Device :=
      { arrived.setAdmission k .shutting with
        endpoint := { s.dev.endpoint with
          inProgress := some (.setLine k 0x05 (be2 req.tag.toNat)) } }
    (req.argB.toNat = 1 → s.dev.admission k = .opened →
      exec (.setLine now req) s = .next (answer arrived .ok)) ∧
    (req.argB.toNat = 1 → s.dev.admission k = .shut → armed →
      exec (.setLine now req) s = .next (answer arrived .lineState)) ∧
    (req.argB.toNat = 1 → s.dev.admission k = .shut → ¬ armed →
      exec (.setLine now req) s = .next (answer opened .ok) ∧
      opened.admission k = .opened ∧ opened.openedAt.get k = now ∧
      (opened.seq k).state = (s.dev.seq k).state ∧
      ∀ st, 1 ≤ st → st ≤ 30 → (s.dev.stationConfig k st).configured = true →
        (opened.station k st).resyncPending = true) ∧
    (req.argB.toNat = 0 → s.dev.admission k = .shut →
      exec (.setLine now req) s = .next (answer arrived .ok)) ∧
    (req.argB.toNat = 0 → s.dev.admission k = .opened → (s.dev.seq k).inFlight = none →
      exec (.setLine now req) s = .next (answer shut .ok) ∧
      shut.admission k = .shut ∧ (∀ c, shut.queue k.line c = [] ∧
        shut.release k.line c = none) ∧ shut.slotsAt k.line = [] ∧
      (∀ c ∈ shut.contexts, c.branch ≠ k) ∧ (shut.seq k).state = .waiting ∧
      (shut.seq k).sending = (s.dev.seq k).sending ∧
      (shut.seq k).lastServiced = (s.dev.seq k).lastServiced ∧
      (shut.egr k.line).credits = Credits.ofWeights (s.dev.settings k.line) ∧
      (∀ l c, shut.lineCount l c =
        if l = k.line ∧ c = .flushed then
          flushed.foldl (fun n _ => raiseCount n 1) (s.dev.lineCount l c)
        else if l = k.line ∧ c = .contextFlushed then
          (s.dev.contexts.filter fun x => x.branch == k).foldl
            (fun n _ => raiseCount n 1) (s.dev.lineCount l c)
        else arrived.lineCount l c) ∧
      (s.dev.pool.frames.sorted → s.dev.refsOk → ∀ cid c, shut.circuitCount cid c =
        if c = .flushed ∧ s.dev.circuit? cid ≠ none then
          (flushed.filter fun ref => (s.dev.frame? ref).map Frame.cid == some cid).foldl
            (fun n _ => raiseCount n 1) (s.dev.circuitCount cid c)
        else s.dev.circuitCount cid c)) ∧
    (req.argB.toNat = 0 → s.dev.admission k = .opened → (s.dev.seq k).inFlight ≠ none →
      s.dev.trunkQuiet → exec (.setLine now req) s = .next { s with dev := shutting }) ∧
    (1 < req.argB.toNat → exec (.setLine now req) s = .next (answer arrived .lineState))

/-- A CLEAR sets to 0 what its unit's table names at every index of its range and nothing else, or
is refused for its unit or its index range (R11, R44, R48, R127, R174). -/
def Obligations.ClearSetsTheRangeToZero : Prop :=
  ∀ (now : Nat) (req : Request) (s : State), s.dev.takes req → req.entries = [] →
    1 ≤ req.count.toNat → req.count.toNat ≤ 16 →
    let arrived := s.dev.arrived now (requestFrame .clear req)
    let unit := req.unit.toNat
    let index := req.index.toNat
    let count := req.count.toNat
    let inRange (i : Nat) : Bool := decide (index ≤ i ∧ i < index + count)
    let answer (d : Device) (status : Status) : State :=
      { s with dev := d.replied .clear req { status := status } }
    (¬ (16 ≤ unit ∧ unit ≤ 21) →
      exec (.clear now req) s = .next (answer arrived .badUnit)) ∧
    ∀ indices size, 16 ≤ unit → unit ≤ 21 → unitShape unit = some (indices, size) →
      (indices < index + count → exec (.clear now req) s = .next (answer arrived .badIndex)) ∧
      (index + count ≤ indices →
        ∃ d : Device, exec (.clear now req) s = .next (answer d .ok) ∧
          (unit = 16 → d = { arrived with stations := d.stations } ∧
            ∀ i, d.stations.get Station.powerOn i =
              let x := s.dev.stations.get Station.powerOn i
              if inRange i then { x with counters := Table.empty } else x) ∧
          (unit = 17 → d = { arrived with lines := d.lines } ∧ ∀ l : Line, d.lineIf l =
            if inRange l.toNat then
              { arrived.lineIf l with
                headerError := false, payloadError := false,
                capture := { filled := none, errorCount := 0 } }
            else arrived.lineIf l) ∧
          (unit = 18 → d = { arrived with lines := d.lines } ∧ ∀ l : Line, d.lineIf l =
            if inRange l.toNat then { arrived.lineIf l with counters := Table.empty }
            else arrived.lineIf l) ∧
          (unit = 19 → d = { arrived with circuitCounters := d.circuitCounters } ∧
            ∀ cid c, d.circuitCount cid c =
              if inRange cid then 0 else s.dev.circuitCount cid c) ∧
          (unit = 20 → d = { arrived with meters := d.meters } ∧ ∀ m, d.meterState m =
            let x := s.dev.meterState m
            if inRange m then { x with green := 0, yellow := 0, red := 0 } else x) ∧
          (unit = 21 → d = { arrived with
            endpoint := { s.dev.endpoint with
              mgmtOverrun := false, eventsLost := false, overrunCount := 0,
              notMineCount := 0 } }))

/-- A TAKE_EVENTS removes and returns the oldest records of the event list, up to its count, with
EVENTS_LOST and the number left in its detail; EVENTS_LOST and attention outstanding are cleared
(R175). -/
def Obligations.TakeEventsReturnsTheOldest : Prop :=
  ∀ (now : Nat) (req : Request) (s : State), s.dev.takes req → req.entries = [] →
    1 ≤ req.count.toNat → req.count.toNat ≤ 16 →
    let p := s.dev.endpoint
    let taken := p.events.take req.count.toNat
    let left := p.events.drop req.count.toNat
    let after : Device :=
      { s.dev.arrived now (requestFrame .takeEvents req) with
        endpoint := { p with events := left, eventsLost := false, attnOutstanding := false } }
    let reply : Reply :=
      { status := .ok, detailUnit := if p.eventsLost then 1 else 0, detailIndex := left.length,
        count := taken.length,
        entries := taken.flatMap fun e =>
          [byteOf e.kind.ctorIdx] ++ be2 e.cycle.toNat ++
            [match e.line with | some l => byteOf l.toNat | none => 0xFF,
              match e.station with | some n => byteOf n | none => 0xFF] ++ be2 e.detail }
    exec (.takeEvents now req) s = .next { s with dev := after.replied .takeEvents req reply }

/-! ### Invariants that every step keeps -/

/-- The queue, the event list, the Pending Change List and the contexts keep their bounds (R147,
R158, R169); no transaction is in flight on a SHUT branch, and a SHUTTING branch has one (R17,
R112); and a transaction's record agrees with its sequencer's state and transmission (R106, R128,
R137). -/
def Obligations.EveryStepKeepsBoundsAndBranches : Prop :=
  ∀ s t : State, step s = .next t →
    (s.dev.bounded → t.dev.bounded) ∧ (s.dev.branchesOk → t.dev.branchesOk) ∧
    (s.dev.transactionsOk → t.dev.transactionsOk)

/-- The Cycle Timer's state, expiry and miss count agree (R75); the change state, its list and its
target agree, and every entry of the list is in range (R158, R159); the settings in force, and
those an armed list leaves, have W ≤ D ÷ 4 and G < D (R73), and the circuits and schedule entries
of both have passed their checks (R24, R163); the Priority Maps and the Thinning Table keep their
sizes (R30, R51), and the tables listed by index stay in ascending order, each index once (R22,
R109). -/
def Obligations.EveryStepKeepsTimerAndChange : Prop :=
  ∀ s t : State, step s = .next t →
    (s.dev.timer.consistent → t.dev.timer.consistent) ∧
    (s.dev.change.consistent → t.dev.change.consistent) ∧
    (s.dev.settingsOk → t.dev.settingsOk) ∧ (s.dev.tables.sized → t.dev.tables.sized) ∧
    (s.dev.tables.ordered → t.dev.tables.ordered) ∧
    (s.dev.tablesChecked → t.dev.tablesChecked)

/-- An idle transmitter leaves no record in the response slot (R98), and the periodic slots stay
listed in ascending CID order, each once (R89). -/
def Obligations.EveryStepKeepsTheSlots : Prop :=
  ∀ s t : State, step s = .next t →
    (s.dev.slotServed → t.dev.slotServed) ∧ (s.dev.slots.sorted → t.dev.slots.sorted)

/-- Every block is free, in one frame or in one context, and every usage count is the blocks
charged to its line (R57, R58, R66, R147). -/
def Obligations.EveryStepKeepsThePool : Prop :=
  ∀ s t : State, s.dev.poolOk → step s = .next t → t.dev.poolOk

/-- Every bucket of a meter in METER mode is at or below its size, and every accumulator below
1024 (R46, R51, R52). -/
def Obligations.EveryStepKeepsMetersAndAccumulators : Prop :=
  ∀ s t : State, step s = .next t →
    (s.dev.metersOk → t.dev.metersOk) ∧ (s.dev.accumulatorsOk → t.dev.accumulatorsOk)

/-- Every invariant holds of the part right after reset. -/
def Obligations.InvariantsHoldAtReset : Prop :=
  let d := State.reset.dev
  d.bounded ∧ d.change.consistent ∧ d.settingsOk ∧ d.timer.consistent ∧ d.poolOk ∧ d.metersOk ∧
    d.accumulatorsOk ∧ d.branchesOk ∧ d.slotServed ∧ d.slots.sorted ∧ d.tables.sized ∧
    d.tables.ordered ∧ d.tablesChecked ∧ d.transactionsOk ∧ d.refsOk

/-- Every reference is to a held frame, and a frame's reference count is the number of its holders:
queue entries, slots, transactions and the Trunk Transmitter (R64, R65); the shared count is the
number of blocks of the shared frames (R68). It rests on the invariants of the pool, the slots, the
tables and the transactions, each of which every step keeps by a statement of its own. -/
def Obligations.EveryStepKeepsTheReferences : Prop :=
  ∀ s t : State, s.dev.poolOk → s.dev.slots.sorted → s.dev.tablesChecked →
    s.dev.transactionsOk → s.dev.refsOk → step s = .next t → t.dev.refsOk
end

