-- ==== Sys2Proof/Laws/State.lean ====
section
/-! SUPPORT. What each named update of the part leaves in every field: the field it writes, and
every other field as it was. All by `rfl`, so that no proof unfolds a record update. -/

namespace Sys2Proof.Machine.Device

variable (d : Device)

@[simp] theorem setLineIf_now (l : Line) (x : LineIf) : (d.setLineIf l x).now = d.now := rfl
@[simp] theorem setLineIf_inReset (l : Line) (x : LineIf) :
    (d.setLineIf l x).inReset = d.inReset := rfl
@[simp] theorem setLineIf_choices (l : Line) (x : LineIf) :
    (d.setLineIf l x).choices = d.choices := rfl
@[simp] theorem setLineIf_lines (l : Line) (x : LineIf) :
    (d.setLineIf l x).lines = d.lines.set l x := rfl
@[simp] theorem setLineIf_trunkAdm (l : Line) (x : LineIf) :
    (d.setLineIf l x).trunkAdm = d.trunkAdm := rfl
@[simp] theorem setLineIf_branchAdm (l : Line) (x : LineIf) :
    (d.setLineIf l x).branchAdm = d.branchAdm := rfl
@[simp] theorem setLineIf_openedAt (l : Line) (x : LineIf) :
    (d.setLineIf l x).openedAt = d.openedAt := rfl
@[simp] theorem setLineIf_accumulators (l : Line) (x : LineIf) :
    (d.setLineIf l x).accumulators = d.accumulators := rfl
@[simp] theorem setLineIf_meters (l : Line) (x : LineIf) :
    (d.setLineIf l x).meters = d.meters := rfl
@[simp] theorem setLineIf_circuitCounters (l : Line) (x : LineIf) :
    (d.setLineIf l x).circuitCounters = d.circuitCounters := rfl
@[simp] theorem setLineIf_pool (l : Line) (x : LineIf) : (d.setLineIf l x).pool = d.pool := rfl
@[simp] theorem setLineIf_timer (l : Line) (x : LineIf) : (d.setLineIf l x).timer = d.timer := rfl
@[simp] theorem setLineIf_egress (l : Line) (x : LineIf) :
    (d.setLineIf l x).egress = d.egress := rfl
@[simp] theorem setLineIf_slots (l : Line) (x : LineIf) : (d.setLineIf l x).slots = d.slots := rfl
@[simp] theorem setLineIf_trunkTx (l : Line) (x : LineIf) :
    (d.setLineIf l x).trunkTx = d.trunkTx := rfl
@[simp] theorem setLineIf_seqs (l : Line) (x : LineIf) : (d.setLineIf l x).seqs = d.seqs := rfl
@[simp] theorem setLineIf_stations (l : Line) (x : LineIf) :
    (d.setLineIf l x).stations = d.stations := rfl
@[simp] theorem setLineIf_contexts (l : Line) (x : LineIf) :
    (d.setLineIf l x).contexts = d.contexts := rfl
@[simp] theorem setLineIf_tables (l : Line) (x : LineIf) :
    (d.setLineIf l x).tables = d.tables := rfl
@[simp] theorem setLineIf_change (l : Line) (x : LineIf) :
    (d.setLineIf l x).change = d.change := rfl
@[simp] theorem setLineIf_endpoint (l : Line) (x : LineIf) :
    (d.setLineIf l x).endpoint = d.endpoint := rfl

@[simp] theorem setAdmission_now (k : Branch) (a : BranchAdmission) :
    (d.setAdmission k a).now = d.now := rfl
@[simp] theorem setAdmission_inReset (k : Branch) (a : BranchAdmission) :
    (d.setAdmission k a).inReset = d.inReset := rfl
@[simp] theorem setAdmission_choices (k : Branch) (a : BranchAdmission) :
    (d.setAdmission k a).choices = d.choices := rfl
@[simp] theorem setAdmission_lines (k : Branch) (a : BranchAdmission) :
    (d.setAdmission k a).lines = d.lines := rfl
@[simp] theorem setAdmission_trunkAdm (k : Branch) (a : BranchAdmission) :
    (d.setAdmission k a).trunkAdm = d.trunkAdm := rfl
@[simp] theorem setAdmission_branchAdm (k : Branch) (a : BranchAdmission) :
    (d.setAdmission k a).branchAdm = d.branchAdm.set k a := rfl
@[simp] theorem setAdmission_openedAt (k : Branch) (a : BranchAdmission) :
    (d.setAdmission k a).openedAt = d.openedAt := rfl
@[simp] theorem setAdmission_accumulators (k : Branch) (a : BranchAdmission) :
    (d.setAdmission k a).accumulators = d.accumulators := rfl
@[simp] theorem setAdmission_meters (k : Branch) (a : BranchAdmission) :
    (d.setAdmission k a).meters = d.meters := rfl
@[simp] theorem setAdmission_circuitCounters (k : Branch) (a : BranchAdmission) :
    (d.setAdmission k a).circuitCounters = d.circuitCounters := rfl
@[simp] theorem setAdmission_pool (k : Branch) (a : BranchAdmission) :
    (d.setAdmission k a).pool = d.pool := rfl
@[simp] theorem setAdmission_timer (k : Branch) (a : BranchAdmission) :
    (d.setAdmission k a).timer = d.timer := rfl
@[simp] theorem setAdmission_egress (k : Branch) (a : BranchAdmission) :
    (d.setAdmission k a).egress = d.egress := rfl
@[simp] theorem setAdmission_slots (k : Branch) (a : BranchAdmission) :
    (d.setAdmission k a).slots = d.slots := rfl
@[simp] theorem setAdmission_trunkTx (k : Branch) (a : BranchAdmission) :
    (d.setAdmission k a).trunkTx = d.trunkTx := rfl
@[simp] theorem setAdmission_seqs (k : Branch) (a : BranchAdmission) :
    (d.setAdmission k a).seqs = d.seqs := rfl
@[simp] theorem setAdmission_stations (k : Branch) (a : BranchAdmission) :
    (d.setAdmission k a).stations = d.stations := rfl
@[simp] theorem setAdmission_contexts (k : Branch) (a : BranchAdmission) :
    (d.setAdmission k a).contexts = d.contexts := rfl
@[simp] theorem setAdmission_tables (k : Branch) (a : BranchAdmission) :
    (d.setAdmission k a).tables = d.tables := rfl
@[simp] theorem setAdmission_change (k : Branch) (a : BranchAdmission) :
    (d.setAdmission k a).change = d.change := rfl
@[simp] theorem setAdmission_endpoint (k : Branch) (a : BranchAdmission) :
    (d.setAdmission k a).endpoint = d.endpoint := rfl

@[simp] theorem setEgr_now (l : Line) (x : Egress) : (d.setEgr l x).now = d.now := rfl
@[simp] theorem setEgr_inReset (l : Line) (x : Egress) : (d.setEgr l x).inReset = d.inReset := rfl
@[simp] theorem setEgr_choices (l : Line) (x : Egress) : (d.setEgr l x).choices = d.choices := rfl
@[simp] theorem setEgr_lines (l : Line) (x : Egress) : (d.setEgr l x).lines = d.lines := rfl
@[simp] theorem setEgr_trunkAdm (l : Line) (x : Egress) :
    (d.setEgr l x).trunkAdm = d.trunkAdm := rfl
@[simp] theorem setEgr_branchAdm (l : Line) (x : Egress) :
    (d.setEgr l x).branchAdm = d.branchAdm := rfl
@[simp] theorem setEgr_openedAt (l : Line) (x : Egress) :
    (d.setEgr l x).openedAt = d.openedAt := rfl
@[simp] theorem setEgr_accumulators (l : Line) (x : Egress) :
    (d.setEgr l x).accumulators = d.accumulators := rfl
@[simp] theorem setEgr_meters (l : Line) (x : Egress) : (d.setEgr l x).meters = d.meters := rfl
@[simp] theorem setEgr_circuitCounters (l : Line) (x : Egress) :
    (d.setEgr l x).circuitCounters = d.circuitCounters := rfl
@[simp] theorem setEgr_pool (l : Line) (x : Egress) : (d.setEgr l x).pool = d.pool := rfl
@[simp] theorem setEgr_timer (l : Line) (x : Egress) : (d.setEgr l x).timer = d.timer := rfl
@[simp] theorem setEgr_egress (l : Line) (x : Egress) :
    (d.setEgr l x).egress = d.egress.set l x := rfl
@[simp] theorem setEgr_slots (l : Line) (x : Egress) : (d.setEgr l x).slots = d.slots := rfl
@[simp] theorem setEgr_trunkTx (l : Line) (x : Egress) : (d.setEgr l x).trunkTx = d.trunkTx := rfl
@[simp] theorem setEgr_seqs (l : Line) (x : Egress) : (d.setEgr l x).seqs = d.seqs := rfl
@[simp] theorem setEgr_stations (l : Line) (x : Egress) :
    (d.setEgr l x).stations = d.stations := rfl
@[simp] theorem setEgr_contexts (l : Line) (x : Egress) :
    (d.setEgr l x).contexts = d.contexts := rfl
@[simp] theorem setEgr_tables (l : Line) (x : Egress) : (d.setEgr l x).tables = d.tables := rfl
@[simp] theorem setEgr_change (l : Line) (x : Egress) : (d.setEgr l x).change = d.change := rfl
@[simp] theorem setEgr_endpoint (l : Line) (x : Egress) :
    (d.setEgr l x).endpoint = d.endpoint := rfl

@[simp] theorem setQueue_now (l : Line) (c : Class) (q : List Entry) :
    (d.setQueue l c q).now = d.now := rfl
@[simp] theorem setQueue_inReset (l : Line) (c : Class) (q : List Entry) :
    (d.setQueue l c q).inReset = d.inReset := rfl
@[simp] theorem setQueue_choices (l : Line) (c : Class) (q : List Entry) :
    (d.setQueue l c q).choices = d.choices := rfl
@[simp] theorem setQueue_lines (l : Line) (c : Class) (q : List Entry) :
    (d.setQueue l c q).lines = d.lines := rfl
@[simp] theorem setQueue_trunkAdm (l : Line) (c : Class) (q : List Entry) :
    (d.setQueue l c q).trunkAdm = d.trunkAdm := rfl
@[simp] theorem setQueue_branchAdm (l : Line) (c : Class) (q : List Entry) :
    (d.setQueue l c q).branchAdm = d.branchAdm := rfl
@[simp] theorem setQueue_openedAt (l : Line) (c : Class) (q : List Entry) :
    (d.setQueue l c q).openedAt = d.openedAt := rfl
@[simp] theorem setQueue_accumulators (l : Line) (c : Class) (q : List Entry) :
    (d.setQueue l c q).accumulators = d.accumulators := rfl
@[simp] theorem setQueue_meters (l : Line) (c : Class) (q : List Entry) :
    (d.setQueue l c q).meters = d.meters := rfl
@[simp] theorem setQueue_circuitCounters (l : Line) (c : Class) (q : List Entry) :
    (d.setQueue l c q).circuitCounters = d.circuitCounters := rfl
@[simp] theorem setQueue_pool (l : Line) (c : Class) (q : List Entry) :
    (d.setQueue l c q).pool = d.pool := rfl
@[simp] theorem setQueue_timer (l : Line) (c : Class) (q : List Entry) :
    (d.setQueue l c q).timer = d.timer := rfl
@[simp] theorem setQueue_egress (l : Line) (c : Class) (q : List Entry) :
    (d.setQueue l c q).egress =
      d.egress.set l { d.egr l with queues := (d.egr l).queues.set c q } := rfl
@[simp] theorem setQueue_slots (l : Line) (c : Class) (q : List Entry) :
    (d.setQueue l c q).slots = d.slots := rfl
@[simp] theorem setQueue_trunkTx (l : Line) (c : Class) (q : List Entry) :
    (d.setQueue l c q).trunkTx = d.trunkTx := rfl
@[simp] theorem setQueue_seqs (l : Line) (c : Class) (q : List Entry) :
    (d.setQueue l c q).seqs = d.seqs := rfl
@[simp] theorem setQueue_stations (l : Line) (c : Class) (q : List Entry) :
    (d.setQueue l c q).stations = d.stations := rfl
@[simp] theorem setQueue_contexts (l : Line) (c : Class) (q : List Entry) :
    (d.setQueue l c q).contexts = d.contexts := rfl
@[simp] theorem setQueue_tables (l : Line) (c : Class) (q : List Entry) :
    (d.setQueue l c q).tables = d.tables := rfl
@[simp] theorem setQueue_change (l : Line) (c : Class) (q : List Entry) :
    (d.setQueue l c q).change = d.change := rfl
@[simp] theorem setQueue_endpoint (l : Line) (c : Class) (q : List Entry) :
    (d.setQueue l c q).endpoint = d.endpoint := rfl

@[simp] theorem setCredits_now (l : Line) (c : Credits) : (d.setCredits l c).now = d.now := rfl
@[simp] theorem setCredits_inReset (l : Line) (c : Credits) :
    (d.setCredits l c).inReset = d.inReset := rfl
@[simp] theorem setCredits_choices (l : Line) (c : Credits) :
    (d.setCredits l c).choices = d.choices := rfl
@[simp] theorem setCredits_lines (l : Line) (c : Credits) :
    (d.setCredits l c).lines = d.lines := rfl
@[simp] theorem setCredits_trunkAdm (l : Line) (c : Credits) :
    (d.setCredits l c).trunkAdm = d.trunkAdm := rfl
@[simp] theorem setCredits_branchAdm (l : Line) (c : Credits) :
    (d.setCredits l c).branchAdm = d.branchAdm := rfl
@[simp] theorem setCredits_openedAt (l : Line) (c : Credits) :
    (d.setCredits l c).openedAt = d.openedAt := rfl
@[simp] theorem setCredits_accumulators (l : Line) (c : Credits) :
    (d.setCredits l c).accumulators = d.accumulators := rfl
@[simp] theorem setCredits_meters (l : Line) (c : Credits) :
    (d.setCredits l c).meters = d.meters := rfl
@[simp] theorem setCredits_circuitCounters (l : Line) (c : Credits) :
    (d.setCredits l c).circuitCounters = d.circuitCounters := rfl
@[simp] theorem setCredits_pool (l : Line) (c : Credits) : (d.setCredits l c).pool = d.pool := rfl
@[simp] theorem setCredits_timer (l : Line) (c : Credits) :
    (d.setCredits l c).timer = d.timer := rfl
@[simp] theorem setCredits_egress (l : Line) (c : Credits) :
    (d.setCredits l c).egress = d.egress.set l { d.egr l with credits := c } := rfl
@[simp] theorem setCredits_slots (l : Line) (c : Credits) :
    (d.setCredits l c).slots = d.slots := rfl
@[simp] theorem setCredits_trunkTx (l : Line) (c : Credits) :
    (d.setCredits l c).trunkTx = d.trunkTx := rfl
@[simp] theorem setCredits_seqs (l : Line) (c : Credits) : (d.setCredits l c).seqs = d.seqs := rfl
@[simp] theorem setCredits_stations (l : Line) (c : Credits) :
    (d.setCredits l c).stations = d.stations := rfl
@[simp] theorem setCredits_contexts (l : Line) (c : Credits) :
    (d.setCredits l c).contexts = d.contexts := rfl
@[simp] theorem setCredits_tables (l : Line) (c : Credits) :
    (d.setCredits l c).tables = d.tables := rfl
@[simp] theorem setCredits_change (l : Line) (c : Credits) :
    (d.setCredits l c).change = d.change := rfl
@[simp] theorem setCredits_endpoint (l : Line) (c : Credits) :
    (d.setCredits l c).endpoint = d.endpoint := rfl

@[simp] theorem setRelease_now (l : Line) (c : Class) (e : Option Nat) :
    (d.setRelease l c e).now = d.now := rfl
@[simp] theorem setRelease_inReset (l : Line) (c : Class) (e : Option Nat) :
    (d.setRelease l c e).inReset = d.inReset := rfl
@[simp] theorem setRelease_choices (l : Line) (c : Class) (e : Option Nat) :
    (d.setRelease l c e).choices = d.choices := rfl
@[simp] theorem setRelease_lines (l : Line) (c : Class) (e : Option Nat) :
    (d.setRelease l c e).lines = d.lines := rfl
@[simp] theorem setRelease_trunkAdm (l : Line) (c : Class) (e : Option Nat) :
    (d.setRelease l c e).trunkAdm = d.trunkAdm := rfl
@[simp] theorem setRelease_branchAdm (l : Line) (c : Class) (e : Option Nat) :
    (d.setRelease l c e).branchAdm = d.branchAdm := rfl
@[simp] theorem setRelease_openedAt (l : Line) (c : Class) (e : Option Nat) :
    (d.setRelease l c e).openedAt = d.openedAt := rfl
@[simp] theorem setRelease_accumulators (l : Line) (c : Class) (e : Option Nat) :
    (d.setRelease l c e).accumulators = d.accumulators := rfl
@[simp] theorem setRelease_meters (l : Line) (c : Class) (e : Option Nat) :
    (d.setRelease l c e).meters = d.meters := rfl
@[simp] theorem setRelease_circuitCounters (l : Line) (c : Class) (e : Option Nat) :
    (d.setRelease l c e).circuitCounters = d.circuitCounters := rfl
@[simp] theorem setRelease_pool (l : Line) (c : Class) (e : Option Nat) :
    (d.setRelease l c e).pool = d.pool := rfl
@[simp] theorem setRelease_timer (l : Line) (c : Class) (e : Option Nat) :
    (d.setRelease l c e).timer = d.timer := rfl
@[simp] theorem setRelease_egress (l : Line) (c : Class) (e : Option Nat) :
    (d.setRelease l c e).egress =
      d.egress.set l { d.egr l with release := (d.egr l).release.set c e } := rfl
@[simp] theorem setRelease_slots (l : Line) (c : Class) (e : Option Nat) :
    (d.setRelease l c e).slots = d.slots := rfl
@[simp] theorem setRelease_trunkTx (l : Line) (c : Class) (e : Option Nat) :
    (d.setRelease l c e).trunkTx = d.trunkTx := rfl
@[simp] theorem setRelease_seqs (l : Line) (c : Class) (e : Option Nat) :
    (d.setRelease l c e).seqs = d.seqs := rfl
@[simp] theorem setRelease_stations (l : Line) (c : Class) (e : Option Nat) :
    (d.setRelease l c e).stations = d.stations := rfl
@[simp] theorem setRelease_contexts (l : Line) (c : Class) (e : Option Nat) :
    (d.setRelease l c e).contexts = d.contexts := rfl
@[simp] theorem setRelease_tables (l : Line) (c : Class) (e : Option Nat) :
    (d.setRelease l c e).tables = d.tables := rfl
@[simp] theorem setRelease_change (l : Line) (c : Class) (e : Option Nat) :
    (d.setRelease l c e).change = d.change := rfl
@[simp] theorem setRelease_endpoint (l : Line) (c : Class) (e : Option Nat) :
    (d.setRelease l c e).endpoint = d.endpoint := rfl

@[simp] theorem setSeq_now (k : Branch) (q : Sequencer) : (d.setSeq k q).now = d.now := rfl
@[simp] theorem setSeq_inReset (k : Branch) (q : Sequencer) :
    (d.setSeq k q).inReset = d.inReset := rfl
@[simp] theorem setSeq_choices (k : Branch) (q : Sequencer) :
    (d.setSeq k q).choices = d.choices := rfl
@[simp] theorem setSeq_lines (k : Branch) (q : Sequencer) : (d.setSeq k q).lines = d.lines := rfl
@[simp] theorem setSeq_trunkAdm (k : Branch) (q : Sequencer) :
    (d.setSeq k q).trunkAdm = d.trunkAdm := rfl
@[simp] theorem setSeq_branchAdm (k : Branch) (q : Sequencer) :
    (d.setSeq k q).branchAdm = d.branchAdm := rfl
@[simp] theorem setSeq_openedAt (k : Branch) (q : Sequencer) :
    (d.setSeq k q).openedAt = d.openedAt := rfl
@[simp] theorem setSeq_accumulators (k : Branch) (q : Sequencer) :
    (d.setSeq k q).accumulators = d.accumulators := rfl
@[simp] theorem setSeq_meters (k : Branch) (q : Sequencer) : (d.setSeq k q).meters = d.meters := rfl
@[simp] theorem setSeq_circuitCounters (k : Branch) (q : Sequencer) :
    (d.setSeq k q).circuitCounters = d.circuitCounters := rfl
@[simp] theorem setSeq_pool (k : Branch) (q : Sequencer) : (d.setSeq k q).pool = d.pool := rfl
@[simp] theorem setSeq_timer (k : Branch) (q : Sequencer) : (d.setSeq k q).timer = d.timer := rfl
@[simp] theorem setSeq_egress (k : Branch) (q : Sequencer) : (d.setSeq k q).egress = d.egress := rfl
@[simp] theorem setSeq_slots (k : Branch) (q : Sequencer) : (d.setSeq k q).slots = d.slots := rfl
@[simp] theorem setSeq_trunkTx (k : Branch) (q : Sequencer) :
    (d.setSeq k q).trunkTx = d.trunkTx := rfl
@[simp] theorem setSeq_seqs (k : Branch) (q : Sequencer) :
    (d.setSeq k q).seqs = d.seqs.set k q := rfl
@[simp] theorem setSeq_stations (k : Branch) (q : Sequencer) :
    (d.setSeq k q).stations = d.stations := rfl
@[simp] theorem setSeq_contexts (k : Branch) (q : Sequencer) :
    (d.setSeq k q).contexts = d.contexts := rfl
@[simp] theorem setSeq_tables (k : Branch) (q : Sequencer) : (d.setSeq k q).tables = d.tables := rfl
@[simp] theorem setSeq_change (k : Branch) (q : Sequencer) : (d.setSeq k q).change = d.change := rfl
@[simp] theorem setSeq_endpoint (k : Branch) (q : Sequencer) :
    (d.setSeq k q).endpoint = d.endpoint := rfl

@[simp] theorem setStation_now (k : Branch) (s : Nat) (x : Station) :
    (d.setStation k s x).now = d.now := rfl
@[simp] theorem setStation_inReset (k : Branch) (s : Nat) (x : Station) :
    (d.setStation k s x).inReset = d.inReset := rfl
@[simp] theorem setStation_choices (k : Branch) (s : Nat) (x : Station) :
    (d.setStation k s x).choices = d.choices := rfl
@[simp] theorem setStation_lines (k : Branch) (s : Nat) (x : Station) :
    (d.setStation k s x).lines = d.lines := rfl
@[simp] theorem setStation_trunkAdm (k : Branch) (s : Nat) (x : Station) :
    (d.setStation k s x).trunkAdm = d.trunkAdm := rfl
@[simp] theorem setStation_branchAdm (k : Branch) (s : Nat) (x : Station) :
    (d.setStation k s x).branchAdm = d.branchAdm := rfl
@[simp] theorem setStation_openedAt (k : Branch) (s : Nat) (x : Station) :
    (d.setStation k s x).openedAt = d.openedAt := rfl
@[simp] theorem setStation_accumulators (k : Branch) (s : Nat) (x : Station) :
    (d.setStation k s x).accumulators = d.accumulators := rfl
@[simp] theorem setStation_meters (k : Branch) (s : Nat) (x : Station) :
    (d.setStation k s x).meters = d.meters := rfl
@[simp] theorem setStation_circuitCounters (k : Branch) (s : Nat) (x : Station) :
    (d.setStation k s x).circuitCounters = d.circuitCounters := rfl
@[simp] theorem setStation_pool (k : Branch) (s : Nat) (x : Station) :
    (d.setStation k s x).pool = d.pool := rfl
@[simp] theorem setStation_timer (k : Branch) (s : Nat) (x : Station) :
    (d.setStation k s x).timer = d.timer := rfl
@[simp] theorem setStation_egress (k : Branch) (s : Nat) (x : Station) :
    (d.setStation k s x).egress = d.egress := rfl
@[simp] theorem setStation_slots (k : Branch) (s : Nat) (x : Station) :
    (d.setStation k s x).slots = d.slots := rfl
@[simp] theorem setStation_trunkTx (k : Branch) (s : Nat) (x : Station) :
    (d.setStation k s x).trunkTx = d.trunkTx := rfl
@[simp] theorem setStation_seqs (k : Branch) (s : Nat) (x : Station) :
    (d.setStation k s x).seqs = d.seqs := rfl
@[simp] theorem setStation_stations (k : Branch) (s : Nat) (x : Station) :
    (d.setStation k s x).stations = d.stations.put Station.powerOn (stationIndex k s) x := rfl
@[simp] theorem setStation_contexts (k : Branch) (s : Nat) (x : Station) :
    (d.setStation k s x).contexts = d.contexts := rfl
@[simp] theorem setStation_tables (k : Branch) (s : Nat) (x : Station) :
    (d.setStation k s x).tables = d.tables := rfl
@[simp] theorem setStation_change (k : Branch) (s : Nat) (x : Station) :
    (d.setStation k s x).change = d.change := rfl
@[simp] theorem setStation_endpoint (k : Branch) (s : Nat) (x : Station) :
    (d.setStation k s x).endpoint = d.endpoint := rfl

@[simp] theorem setMeterState_now (m : Nat) (x : MeterState) :
    (d.setMeterState m x).now = d.now := rfl
@[simp] theorem setMeterState_inReset (m : Nat) (x : MeterState) :
    (d.setMeterState m x).inReset = d.inReset := rfl
@[simp] theorem setMeterState_choices (m : Nat) (x : MeterState) :
    (d.setMeterState m x).choices = d.choices := rfl
@[simp] theorem setMeterState_lines (m : Nat) (x : MeterState) :
    (d.setMeterState m x).lines = d.lines := rfl
@[simp] theorem setMeterState_trunkAdm (m : Nat) (x : MeterState) :
    (d.setMeterState m x).trunkAdm = d.trunkAdm := rfl
@[simp] theorem setMeterState_branchAdm (m : Nat) (x : MeterState) :
    (d.setMeterState m x).branchAdm = d.branchAdm := rfl
@[simp] theorem setMeterState_openedAt (m : Nat) (x : MeterState) :
    (d.setMeterState m x).openedAt = d.openedAt := rfl
@[simp] theorem setMeterState_accumulators (m : Nat) (x : MeterState) :
    (d.setMeterState m x).accumulators = d.accumulators := rfl
@[simp] theorem setMeterState_meters (m : Nat) (x : MeterState) :
    (d.setMeterState m x).meters = d.meters.put MeterState.powerOn m x := rfl
@[simp] theorem setMeterState_circuitCounters (m : Nat) (x : MeterState) :
    (d.setMeterState m x).circuitCounters = d.circuitCounters := rfl
@[simp] theorem setMeterState_pool (m : Nat) (x : MeterState) :
    (d.setMeterState m x).pool = d.pool := rfl
@[simp] theorem setMeterState_timer (m : Nat) (x : MeterState) :
    (d.setMeterState m x).timer = d.timer := rfl
@[simp] theorem setMeterState_egress (m : Nat) (x : MeterState) :
    (d.setMeterState m x).egress = d.egress := rfl
@[simp] theorem setMeterState_slots (m : Nat) (x : MeterState) :
    (d.setMeterState m x).slots = d.slots := rfl
@[simp] theorem setMeterState_trunkTx (m : Nat) (x : MeterState) :
    (d.setMeterState m x).trunkTx = d.trunkTx := rfl
@[simp] theorem setMeterState_seqs (m : Nat) (x : MeterState) :
    (d.setMeterState m x).seqs = d.seqs := rfl
@[simp] theorem setMeterState_stations (m : Nat) (x : MeterState) :
    (d.setMeterState m x).stations = d.stations := rfl
@[simp] theorem setMeterState_contexts (m : Nat) (x : MeterState) :
    (d.setMeterState m x).contexts = d.contexts := rfl
@[simp] theorem setMeterState_tables (m : Nat) (x : MeterState) :
    (d.setMeterState m x).tables = d.tables := rfl
@[simp] theorem setMeterState_change (m : Nat) (x : MeterState) :
    (d.setMeterState m x).change = d.change := rfl
@[simp] theorem setMeterState_endpoint (m : Nat) (x : MeterState) :
    (d.setMeterState m x).endpoint = d.endpoint := rfl

@[simp] theorem releaseFrame_now (ref : Nat) : (d.releaseFrame ref).now = d.now := rfl
@[simp] theorem releaseFrame_inReset (ref : Nat) : (d.releaseFrame ref).inReset = d.inReset := rfl
@[simp] theorem releaseFrame_choices (ref : Nat) : (d.releaseFrame ref).choices = d.choices := rfl
@[simp] theorem releaseFrame_lines (ref : Nat) : (d.releaseFrame ref).lines = d.lines := rfl
@[simp] theorem releaseFrame_trunkAdm (ref : Nat) :
    (d.releaseFrame ref).trunkAdm = d.trunkAdm := rfl
@[simp] theorem releaseFrame_branchAdm (ref : Nat) :
    (d.releaseFrame ref).branchAdm = d.branchAdm := rfl
@[simp] theorem releaseFrame_openedAt (ref : Nat) :
    (d.releaseFrame ref).openedAt = d.openedAt := rfl
@[simp] theorem releaseFrame_accumulators (ref : Nat) :
    (d.releaseFrame ref).accumulators = d.accumulators := rfl
@[simp] theorem releaseFrame_meters (ref : Nat) : (d.releaseFrame ref).meters = d.meters := rfl
@[simp] theorem releaseFrame_circuitCounters (ref : Nat) :
    (d.releaseFrame ref).circuitCounters = d.circuitCounters := rfl
@[simp] theorem releaseFrame_pool (ref : Nat) :
    (d.releaseFrame ref).pool = d.pool.release ref := rfl
@[simp] theorem releaseFrame_timer (ref : Nat) : (d.releaseFrame ref).timer = d.timer := rfl
@[simp] theorem releaseFrame_egress (ref : Nat) : (d.releaseFrame ref).egress = d.egress := rfl
@[simp] theorem releaseFrame_slots (ref : Nat) : (d.releaseFrame ref).slots = d.slots := rfl
@[simp] theorem releaseFrame_trunkTx (ref : Nat) : (d.releaseFrame ref).trunkTx = d.trunkTx := rfl
@[simp] theorem releaseFrame_seqs (ref : Nat) : (d.releaseFrame ref).seqs = d.seqs := rfl
@[simp] theorem releaseFrame_stations (ref : Nat) :
    (d.releaseFrame ref).stations = d.stations := rfl
@[simp] theorem releaseFrame_contexts (ref : Nat) :
    (d.releaseFrame ref).contexts = d.contexts := rfl
@[simp] theorem releaseFrame_tables (ref : Nat) : (d.releaseFrame ref).tables = d.tables := rfl
@[simp] theorem releaseFrame_change (ref : Nat) : (d.releaseFrame ref).change = d.change := rfl
@[simp] theorem releaseFrame_endpoint (ref : Nat) :
    (d.releaseFrame ref).endpoint = d.endpoint := rfl

@[simp] theorem takeFrame_now (ref : Nat) : (d.takeFrame ref).now = d.now := rfl
@[simp] theorem takeFrame_inReset (ref : Nat) : (d.takeFrame ref).inReset = d.inReset := rfl
@[simp] theorem takeFrame_choices (ref : Nat) : (d.takeFrame ref).choices = d.choices := rfl
@[simp] theorem takeFrame_lines (ref : Nat) : (d.takeFrame ref).lines = d.lines := rfl
@[simp] theorem takeFrame_trunkAdm (ref : Nat) : (d.takeFrame ref).trunkAdm = d.trunkAdm := rfl
@[simp] theorem takeFrame_branchAdm (ref : Nat) : (d.takeFrame ref).branchAdm = d.branchAdm := rfl
@[simp] theorem takeFrame_openedAt (ref : Nat) : (d.takeFrame ref).openedAt = d.openedAt := rfl
@[simp] theorem takeFrame_accumulators (ref : Nat) :
    (d.takeFrame ref).accumulators = d.accumulators := rfl
@[simp] theorem takeFrame_meters (ref : Nat) : (d.takeFrame ref).meters = d.meters := rfl
@[simp] theorem takeFrame_circuitCounters (ref : Nat) :
    (d.takeFrame ref).circuitCounters = d.circuitCounters := rfl
@[simp] theorem takeFrame_pool (ref : Nat) : (d.takeFrame ref).pool = d.pool.take ref := rfl
@[simp] theorem takeFrame_timer (ref : Nat) : (d.takeFrame ref).timer = d.timer := rfl
@[simp] theorem takeFrame_egress (ref : Nat) : (d.takeFrame ref).egress = d.egress := rfl
@[simp] theorem takeFrame_slots (ref : Nat) : (d.takeFrame ref).slots = d.slots := rfl
@[simp] theorem takeFrame_trunkTx (ref : Nat) : (d.takeFrame ref).trunkTx = d.trunkTx := rfl
@[simp] theorem takeFrame_seqs (ref : Nat) : (d.takeFrame ref).seqs = d.seqs := rfl
@[simp] theorem takeFrame_stations (ref : Nat) : (d.takeFrame ref).stations = d.stations := rfl
@[simp] theorem takeFrame_contexts (ref : Nat) : (d.takeFrame ref).contexts = d.contexts := rfl
@[simp] theorem takeFrame_tables (ref : Nat) : (d.takeFrame ref).tables = d.tables := rfl
@[simp] theorem takeFrame_change (ref : Nat) : (d.takeFrame ref).change = d.change := rfl
@[simp] theorem takeFrame_endpoint (ref : Nat) : (d.takeFrame ref).endpoint = d.endpoint := rfl

@[simp] theorem bumpLineBy_now (l : Line) (c : LineCounter) (n : Nat) :
    (d.bumpLineBy l c n).now = d.now := rfl
@[simp] theorem bumpLineBy_inReset (l : Line) (c : LineCounter) (n : Nat) :
    (d.bumpLineBy l c n).inReset = d.inReset := rfl
@[simp] theorem bumpLineBy_choices (l : Line) (c : LineCounter) (n : Nat) :
    (d.bumpLineBy l c n).choices = d.choices := rfl
@[simp] theorem bumpLineBy_lines (l : Line) (c : LineCounter) (n : Nat) :
    (d.bumpLineBy l c n).lines =
      d.lines.set l { d.lineIf l with counters := bump (d.lineIf l).counters c.pos n } := rfl
@[simp] theorem bumpLineBy_trunkAdm (l : Line) (c : LineCounter) (n : Nat) :
    (d.bumpLineBy l c n).trunkAdm = d.trunkAdm := rfl
@[simp] theorem bumpLineBy_branchAdm (l : Line) (c : LineCounter) (n : Nat) :
    (d.bumpLineBy l c n).branchAdm = d.branchAdm := rfl
@[simp] theorem bumpLineBy_openedAt (l : Line) (c : LineCounter) (n : Nat) :
    (d.bumpLineBy l c n).openedAt = d.openedAt := rfl
@[simp] theorem bumpLineBy_accumulators (l : Line) (c : LineCounter) (n : Nat) :
    (d.bumpLineBy l c n).accumulators = d.accumulators := rfl
@[simp] theorem bumpLineBy_meters (l : Line) (c : LineCounter) (n : Nat) :
    (d.bumpLineBy l c n).meters = d.meters := rfl
@[simp] theorem bumpLineBy_circuitCounters (l : Line) (c : LineCounter) (n : Nat) :
    (d.bumpLineBy l c n).circuitCounters = d.circuitCounters := rfl
@[simp] theorem bumpLineBy_pool (l : Line) (c : LineCounter) (n : Nat) :
    (d.bumpLineBy l c n).pool = d.pool := rfl
@[simp] theorem bumpLineBy_timer (l : Line) (c : LineCounter) (n : Nat) :
    (d.bumpLineBy l c n).timer = d.timer := rfl
@[simp] theorem bumpLineBy_egress (l : Line) (c : LineCounter) (n : Nat) :
    (d.bumpLineBy l c n).egress = d.egress := rfl
@[simp] theorem bumpLineBy_slots (l : Line) (c : LineCounter) (n : Nat) :
    (d.bumpLineBy l c n).slots = d.slots := rfl
@[simp] theorem bumpLineBy_trunkTx (l : Line) (c : LineCounter) (n : Nat) :
    (d.bumpLineBy l c n).trunkTx = d.trunkTx := rfl
@[simp] theorem bumpLineBy_seqs (l : Line) (c : LineCounter) (n : Nat) :
    (d.bumpLineBy l c n).seqs = d.seqs := rfl
@[simp] theorem bumpLineBy_stations (l : Line) (c : LineCounter) (n : Nat) :
    (d.bumpLineBy l c n).stations = d.stations := rfl
@[simp] theorem bumpLineBy_contexts (l : Line) (c : LineCounter) (n : Nat) :
    (d.bumpLineBy l c n).contexts = d.contexts := rfl
@[simp] theorem bumpLineBy_tables (l : Line) (c : LineCounter) (n : Nat) :
    (d.bumpLineBy l c n).tables = d.tables := rfl
@[simp] theorem bumpLineBy_change (l : Line) (c : LineCounter) (n : Nat) :
    (d.bumpLineBy l c n).change = d.change := rfl
@[simp] theorem bumpLineBy_endpoint (l : Line) (c : LineCounter) (n : Nat) :
    (d.bumpLineBy l c n).endpoint = d.endpoint := rfl

@[simp] theorem bumpLine_now (l : Line) (c : LineCounter) : (d.bumpLine l c).now = d.now := rfl
@[simp] theorem bumpLine_inReset (l : Line) (c : LineCounter) :
    (d.bumpLine l c).inReset = d.inReset := rfl
@[simp] theorem bumpLine_choices (l : Line) (c : LineCounter) :
    (d.bumpLine l c).choices = d.choices := rfl
@[simp] theorem bumpLine_lines (l : Line) (c : LineCounter) :
    (d.bumpLine l c).lines =
      d.lines.set l { d.lineIf l with counters := bump (d.lineIf l).counters c.pos 1 } := rfl
@[simp] theorem bumpLine_trunkAdm (l : Line) (c : LineCounter) :
    (d.bumpLine l c).trunkAdm = d.trunkAdm := rfl
@[simp] theorem bumpLine_branchAdm (l : Line) (c : LineCounter) :
    (d.bumpLine l c).branchAdm = d.branchAdm := rfl
@[simp] theorem bumpLine_openedAt (l : Line) (c : LineCounter) :
    (d.bumpLine l c).openedAt = d.openedAt := rfl
@[simp] theorem bumpLine_accumulators (l : Line) (c : LineCounter) :
    (d.bumpLine l c).accumulators = d.accumulators := rfl
@[simp] theorem bumpLine_meters (l : Line) (c : LineCounter) :
    (d.bumpLine l c).meters = d.meters := rfl
@[simp] theorem bumpLine_circuitCounters (l : Line) (c : LineCounter) :
    (d.bumpLine l c).circuitCounters = d.circuitCounters := rfl
@[simp] theorem bumpLine_pool (l : Line) (c : LineCounter) : (d.bumpLine l c).pool = d.pool := rfl
@[simp] theorem bumpLine_timer (l : Line) (c : LineCounter) :
    (d.bumpLine l c).timer = d.timer := rfl
@[simp] theorem bumpLine_egress (l : Line) (c : LineCounter) :
    (d.bumpLine l c).egress = d.egress := rfl
@[simp] theorem bumpLine_slots (l : Line) (c : LineCounter) :
    (d.bumpLine l c).slots = d.slots := rfl
@[simp] theorem bumpLine_trunkTx (l : Line) (c : LineCounter) :
    (d.bumpLine l c).trunkTx = d.trunkTx := rfl
@[simp] theorem bumpLine_seqs (l : Line) (c : LineCounter) : (d.bumpLine l c).seqs = d.seqs := rfl
@[simp] theorem bumpLine_stations (l : Line) (c : LineCounter) :
    (d.bumpLine l c).stations = d.stations := rfl
@[simp] theorem bumpLine_contexts (l : Line) (c : LineCounter) :
    (d.bumpLine l c).contexts = d.contexts := rfl
@[simp] theorem bumpLine_tables (l : Line) (c : LineCounter) :
    (d.bumpLine l c).tables = d.tables := rfl
@[simp] theorem bumpLine_change (l : Line) (c : LineCounter) :
    (d.bumpLine l c).change = d.change := rfl
@[simp] theorem bumpLine_endpoint (l : Line) (c : LineCounter) :
    (d.bumpLine l c).endpoint = d.endpoint := rfl

@[simp] theorem bumpStation_now (k : Branch) (s : Nat) (c : StationCounter) :
    (d.bumpStation k s c).now = d.now := rfl
@[simp] theorem bumpStation_inReset (k : Branch) (s : Nat) (c : StationCounter) :
    (d.bumpStation k s c).inReset = d.inReset := rfl
@[simp] theorem bumpStation_choices (k : Branch) (s : Nat) (c : StationCounter) :
    (d.bumpStation k s c).choices = d.choices := rfl
@[simp] theorem bumpStation_lines (k : Branch) (s : Nat) (c : StationCounter) :
    (d.bumpStation k s c).lines = d.lines := rfl
@[simp] theorem bumpStation_trunkAdm (k : Branch) (s : Nat) (c : StationCounter) :
    (d.bumpStation k s c).trunkAdm = d.trunkAdm := rfl
@[simp] theorem bumpStation_branchAdm (k : Branch) (s : Nat) (c : StationCounter) :
    (d.bumpStation k s c).branchAdm = d.branchAdm := rfl
@[simp] theorem bumpStation_openedAt (k : Branch) (s : Nat) (c : StationCounter) :
    (d.bumpStation k s c).openedAt = d.openedAt := rfl
@[simp] theorem bumpStation_accumulators (k : Branch) (s : Nat) (c : StationCounter) :
    (d.bumpStation k s c).accumulators = d.accumulators := rfl
@[simp] theorem bumpStation_meters (k : Branch) (s : Nat) (c : StationCounter) :
    (d.bumpStation k s c).meters = d.meters := rfl
@[simp] theorem bumpStation_circuitCounters (k : Branch) (s : Nat) (c : StationCounter) :
    (d.bumpStation k s c).circuitCounters = d.circuitCounters := rfl
@[simp] theorem bumpStation_pool (k : Branch) (s : Nat) (c : StationCounter) :
    (d.bumpStation k s c).pool = d.pool := rfl
@[simp] theorem bumpStation_timer (k : Branch) (s : Nat) (c : StationCounter) :
    (d.bumpStation k s c).timer = d.timer := rfl
@[simp] theorem bumpStation_egress (k : Branch) (s : Nat) (c : StationCounter) :
    (d.bumpStation k s c).egress = d.egress := rfl
@[simp] theorem bumpStation_slots (k : Branch) (s : Nat) (c : StationCounter) :
    (d.bumpStation k s c).slots = d.slots := rfl
@[simp] theorem bumpStation_trunkTx (k : Branch) (s : Nat) (c : StationCounter) :
    (d.bumpStation k s c).trunkTx = d.trunkTx := rfl
@[simp] theorem bumpStation_seqs (k : Branch) (s : Nat) (c : StationCounter) :
    (d.bumpStation k s c).seqs = d.seqs := rfl
@[simp] theorem bumpStation_stations (k : Branch) (s : Nat) (c : StationCounter) :
    (d.bumpStation k s c).stations =
      d.stations.put Station.powerOn (stationIndex k s) { d.station k s with counters := bump (d.station k s).counters c.pos 1 } := rfl
@[simp] theorem bumpStation_contexts (k : Branch) (s : Nat) (c : StationCounter) :
    (d.bumpStation k s c).contexts = d.contexts := rfl
@[simp] theorem bumpStation_tables (k : Branch) (s : Nat) (c : StationCounter) :
    (d.bumpStation k s c).tables = d.tables := rfl
@[simp] theorem bumpStation_change (k : Branch) (s : Nat) (c : StationCounter) :
    (d.bumpStation k s c).change = d.change := rfl
@[simp] theorem bumpStation_endpoint (k : Branch) (s : Nat) (c : StationCounter) :
    (d.bumpStation k s c).endpoint = d.endpoint := rfl

end Sys2Proof.Machine.Device
end

