-- ==== Sys2Proof/Laws/Table.lean ====
section
/-! SUPPORT. The laws of sparse tables and of the records with one value for each line, branch or
class: what a read gives after a write, and that the key order is kept. -/

namespace Sys2Proof

namespace Table

variable {α : Type}

theorem lookup_place_self (cs : List (Nat × α)) (i : Nat) (v : α) :
    lookup (place cs i v) i = some v := by
  induction cs with
  | nil => simp [place, lookup]
  | cons c cs ih =>
    obtain ⟨k, w⟩ := c
    simp only [place]
    split
    · simp [lookup]
    · split
      · simp [lookup]
      · have : ¬ k = i := by omega
        simp [lookup, this, ih]

theorem lookup_place_of_ne (cs : List (Nat × α)) {i j : Nat} (v : α) (h : j ≠ i) :
    lookup (place cs i v) j = lookup cs j := by
  induction cs with
  | nil => simp [place, lookup, h.symm]
  | cons c cs ih =>
    obtain ⟨k, w⟩ := c
    simp only [place]
    split
    · simp [lookup, h.symm]
    · split
      · subst_vars
        simp [lookup, h.symm]
      · simp [lookup, ih]

theorem lookup_filter_self (cs : List (Nat × α)) (i : Nat) :
    lookup (cs.filter fun c => c.1 != i) i = none := by
  induction cs with
  | nil => rfl
  | cons c cs ih =>
    obtain ⟨k, w⟩ := c
    by_cases h : k = i <;> simp [lookup, h, ih]

theorem lookup_filter_of_ne (cs : List (Nat × α)) {i j : Nat} (h : j ≠ i) :
    lookup (cs.filter fun c => c.1 != i) j = lookup cs j := by
  induction cs with
  | nil => rfl
  | cons c cs ih =>
    obtain ⟨k, w⟩ := c
    by_cases hk : k = i
    · subst hk
      simp [lookup, ih, h.symm]
    · simp [lookup, hk, ih]

@[simp] theorem find?_empty (i : Nat) : (empty : Table α).find? i = none := rfl

@[simp] theorem get_empty (d : α) (i : Nat) : (empty : Table α).get d i = d := rfl

@[simp] theorem find?_insert_self (t : Table α) (i : Nat) (v : α) :
    (t.insert i v).find? i = some v := lookup_place_self _ _ _

theorem find?_insert_of_ne (t : Table α) {i j : Nat} (v : α) (h : j ≠ i) :
    (t.insert i v).find? j = t.find? j := lookup_place_of_ne _ _ h

@[simp] theorem find?_erase_self (t : Table α) (i : Nat) : (t.erase i).find? i = none :=
  lookup_filter_self _ _

theorem find?_erase_of_ne (t : Table α) {i j : Nat} (h : j ≠ i) :
    (t.erase i).find? j = t.find? j := lookup_filter_of_ne _ h

@[simp] theorem get_put_self [DecidableEq α] (t : Table α) (d : α) (i : Nat) (v : α) :
    (t.put d i v).get d i = v := by
  unfold put
  split <;> simp [get, *]

theorem get_put_of_ne [DecidableEq α] (t : Table α) (d : α) {i j : Nat} (v : α) (h : j ≠ i) :
    (t.put d i v).get d j = t.get d j := by
  unfold put
  split
  · simp [get, find?_erase_of_ne t h]
  · simp [get, find?_insert_of_ne t v h]

theorem get_put [DecidableEq α] (t : Table α) (d : α) (i j : Nat) (v : α) :
    (t.put d i v).get d j = if j = i then v else t.get d j := by
  split
  · subst_vars
    exact get_put_self ..
  · exact get_put_of_ne _ _ _ ‹_›

theorem mem_keys_place (cs : List (Nat × α)) (i : Nat) (v : α) (j : Nat) :
    j ∈ (place cs i v).map Prod.fst ↔ j = i ∨ j ∈ cs.map Prod.fst := by
  induction cs with
  | nil => simp [place]
  | cons c cs ih =>
    obtain ⟨k, w⟩ := c
    simp only [place]
    split
    · simp
    · split
      · subst_vars
        simp
      · simp only [List.map_cons, List.mem_cons, ih]
        tauto

theorem sorted_empty : (empty : Table α).sorted := List.Pairwise.nil

/-- A write keeps the key order. -/
theorem sorted_insert {t : Table α} (h : t.sorted) (i : Nat) (v : α) : (t.insert i v).sorted := by
  obtain ⟨cs⟩ := t
  unfold sorted keys insert at *
  simp only at *
  induction cs with
  | nil => simp [place]
  | cons c cs ih =>
    obtain ⟨k, w⟩ := c
    simp only [List.map_cons, List.pairwise_cons] at h
    simp only [place]
    split
    · rename_i hik
      simp only [List.map_cons, List.pairwise_cons, List.mem_cons]
      refine ⟨?_, h⟩
      rintro a (rfl | ha)
      · exact hik
      · exact hik.trans (h.1 a ha)
    · split
      · subst_vars
        simpa using h
      · simp only [List.map_cons, List.pairwise_cons]
        refine ⟨?_, ih h.2⟩
        intro a ha
        rcases (mem_keys_place cs i v a).1 ha with rfl | ha
        · omega
        · exact h.1 a ha

/-- A removal keeps the key order. -/
theorem sorted_erase {t : Table α} (h : t.sorted) (i : Nat) : (t.erase i).sorted :=
  List.Pairwise.sublist (List.Sublist.map _ List.filter_sublist) h

theorem sorted_put [DecidableEq α] {t : Table α} (h : t.sorted) (d : α) (i : Nat) (v : α) :
    (t.put d i v).sorted := by
  unfold put
  split
  · exact sorted_erase h i
  · exact sorted_insert h i v

end Table

namespace PerLine

variable {α : Type}

@[simp] theorem get_all (v : α) (l : Line) : (PerLine.all v).get l = v := by cases l <;> rfl

@[simp] theorem get_set_self (p : PerLine α) (l : Line) (v : α) : (p.set l v).get l = v := by
  cases l <;> rfl

theorem get_set_of_ne (p : PerLine α) {l m : Line} (v : α) (h : m ≠ l) :
    (p.set l v).get m = p.get m := by
  cases l <;> cases m <;> first | rfl | exact absurd rfl h

@[simp] theorem set_get (p : PerLine α) (l : Line) : p.set l (p.get l) = p := by cases l <;> rfl

@[simp] theorem set_set (p : PerLine α) (l : Line) (v w : α) : (p.set l v).set l w = p.set l w := by
  cases l <;> rfl

end PerLine

namespace PerBranch

variable {α : Type}

@[simp] theorem get_all (v : α) (k : Branch) : (PerBranch.all v).get k = v := by cases k <;> rfl

@[simp] theorem get_set_self (p : PerBranch α) (k : Branch) (v : α) : (p.set k v).get k = v := by
  cases k <;> rfl

theorem get_set_of_ne (p : PerBranch α) {k j : Branch} (v : α) (h : j ≠ k) :
    (p.set k v).get j = p.get j := by
  cases k <;> cases j <;> first | rfl | exact absurd rfl h

@[simp] theorem set_set (p : PerBranch α) (k : Branch) (v w : α) :
    (p.set k v).set k w = p.set k w := by
  cases k <;> rfl

end PerBranch

namespace PerClass

variable {α : Type}

@[simp] theorem get_all (v : α) (c : Class) : (PerClass.all v).get c = v := by cases c <;> rfl

@[simp] theorem get_set_self (p : PerClass α) (c : Class) (v : α) : (p.set c v).get c = v := by
  cases c <;> rfl

theorem get_set_of_ne (p : PerClass α) {c b : Class} (v : α) (h : b ≠ c) :
    (p.set c v).get b = p.get b := by
  cases c <;> cases b <;> first | rfl | exact absurd rfl h

end PerClass

end Sys2Proof
end

