-- ==== Sys2Proof/Laws/Effects.lean ====
section
/-! SUPPORT. What the shared operations do: counters, the Buffer Pool, and the wrappers of an
event, and branch arrivals. One lemma for each case of each operation. -/

namespace Sys2Proof.Machine

/-! ### Counters -/

theorem raiseCount_le (count n : Nat) : raiseCount count n ≤ Config.counterMax :=
  Nat.min_le_right _ _

theorem raiseCount_eq {count n : Nat} (h : count + n ≤ Config.counterMax) :
    raiseCount count n = count + n := Nat.min_eq_left h

/-- One counter of a table is raised and every other one stays. -/
theorem get_bump (t : Table Nat) (i n j : Nat) :
    (bump t i n).get 0 j = if j = i then raiseCount (t.get 0 i) n else t.get 0 j := by
  unfold bump
  rw [Table.get_put]

theorem LineCounter.pos_inj {a b : LineCounter} (h : a.pos = b.pos) : a = b := by
  have inv : ∀ c : LineCounter, LineCounter.ofNat c.pos = c := by intro c; cases c <;> rfl
  rw [← inv a, ← inv b, h]

theorem CircuitCounter.pos_inj {a b : CircuitCounter} (h : a.pos = b.pos) : a = b := by
  have inv : ∀ c : CircuitCounter, CircuitCounter.ofNat c.pos = c := by intro c; cases c <;> rfl
  rw [← inv a, ← inv b, h]

theorem StationCounter.pos_inj {a b : StationCounter} (h : a.pos = b.pos) : a = b := by
  have inv : ∀ c : StationCounter, StationCounter.ofNat c.pos = c := by intro c; cases c <;> rfl
  rw [← inv a, ← inv b, h]

/-- One counter of one line is raised and every other one stays. -/
theorem lineCount_bumpLineBy (d : Device) (l m : Line) (c e : LineCounter) (n : Nat) :
    (d.bumpLineBy l c n).lineCount m e =
      if m = l ∧ e = c then raiseCount (d.lineCount l c) n else d.lineCount m e := by
  unfold Device.bumpLineBy Device.lineCount Device.lineIf Device.setLineIf
  by_cases hm : m = l
  · subst hm
    simp only [PerLine.get_set_self, get_bump]
    by_cases he : e = c
    · subst he
      simp
    · rw [if_neg (fun h => he (LineCounter.pos_inj h)), if_neg (fun h => he h.2)]
  · rw [PerLine.get_set_of_ne _ _ hm, if_neg (fun h => hm h.1)]

/-- A frame given up early counts its reason on its line, and no other line counter (R64, R88). -/
theorem lineCount_dropFrame (d : Device) (l m : Line) (ref : Nat) (r : Reason) (e : LineCounter) :
    (d.dropFrame l ref r).lineCount m e =
      if m = l ∧ e = r.lineCounter then raiseCount (d.lineCount l r.lineCounter) 1
      else d.lineCount m e := by
  have hb := lineCount_bumpLineBy d l m r.lineCounter e 1
  have hc : ∀ cid, (d.countReason l cid r).lineCount m e =
      (d.bumpLineBy l r.lineCounter 1).lineCount m e := by
    intro cid
    unfold Device.countReason
    split
    · rfl
    · unfold Device.bumpCircuit Device.bumpCircuitBy
      split <;> rfl
  unfold Device.dropFrame
  split
  · exact hb
  · exact (hc _).trans hb

/-! ### The Buffer Pool -/

theorem Pool.release_absent {p : Pool} {ref : Nat} (h : p.frames.find? ref = none) :
    p.release ref = p := by
  unfold Pool.release
  rw [h]

theorem Pool.release_held {p : Pool} {ref : Nat} {f : Frame} (h : p.frames.find? ref = some f)
    (hr : 1 < f.refs) :
    p.release ref = { p with frames := p.frames.insert ref { f with refs := f.refs - 1 } } := by
  unfold Pool.release
  rw [h]
  exact if_pos hr

theorem Pool.release_last {p : Pool} {ref : Nat} {f : Frame} (h : p.frames.find? ref = some f)
    (hr : ¬ 1 < f.refs) : p.release ref = p.freeFrame ref f := by
  unfold Pool.release
  rw [h]
  exact if_neg hr

theorem Pool.take_absent {p : Pool} {ref : Nat} (h : p.frames.find? ref = none) :
    p.take ref = p := by
  unfold Pool.take
  rw [h]

theorem Pool.take_held {p : Pool} {ref : Nat} {f : Frame} (h : p.frames.find? ref = some f) :
    p.take ref = { p with frames := p.frames.insert ref { f with refs := f.refs + 1 } } := by
  unfold Pool.take
  rw [h]

/-- Blocks given back go in front of the free list, and only the line's usage falls. -/
theorem Pool.giveBack_eq (p : Pool) (blocks : List Block) (l : Line) :
    p.giveBack blocks l =
      { p with
        free := blocks.map Block.number ++ p.free,
        usage := p.usage.set l (p.usage.get l - blocks.length),
        emptyArmed := p.emptyArmed ||
          decide (Config.rearmBlocks ≤ (blocks.map Block.number ++ p.free).length) } := rfl

/-- A claim raises POOL_EMPTY only if it takes the last free block while the event is armed. -/
theorem considerPoolEmpty_quiet (l : Line) (station : Option Nat) (n : Nat) {d : Device}
    (h : d.pool.free ≠ [] ∨ d.pool.emptyArmed = false) :
    considerPoolEmpty l station n d = d := by
  unfold considerPoolEmpty
  rw [if_neg]
  rintro hc
  rw [Bool.and_eq_true, List.isEmpty_iff] at hc
  rcases h with h | h
  · exact h hc.1
  · rw [h] at hc
    exact Bool.noConfusion hc.2

/-- What a met claim leaves: POOL_EMPTY raised and disarmed, or nothing but its pool (R70). -/
theorem considerPoolEmpty_claim (l : Line) (station : Option Nat) (n : Nat) (d : Device)
    (after : Pool) :
    considerPoolEmpty l station n { d with pool := after } = d.afterClaim l station n after := by
  unfold considerPoolEmpty Device.afterClaim
  exact if_congr (by simp [List.isEmpty_iff]) rfl rfl

/-! ### Events -/

theorem Device.event_held {d : Device} (h : d.inReset = true) (now : Nat)
    (act : Device → Device) : d.event now act = d := if_pos h

theorem Device.event_running {d : Device} (h : d.inReset = false) (now : Nat)
    (act : Device → Device) : d.event now act = settle (act { d with now := now }) := by
  unfold Device.event
  rw [h]
  exact if_neg Bool.false_ne_true

theorem Device.expiry_held {d : Device} (h : d.inReset = true) (act : Device → Device) :
    d.expiry act = d := if_pos h

theorem Device.expiry_running {d : Device} (h : d.inReset = false) (act : Device → Device) :
    d.expiry act = settle (act d) := by
  unfold Device.expiry
  rw [h]
  exact if_neg Bool.false_ne_true

/-! ### Branch arrivals -/

theorem Device.receiverOff_idle {d : Device} {k : Branch} (h : (d.seq k).sending = none) :
    d.receiverOff k = false := by
  unfold Device.receiverOff
  rw [h]

theorem Device.receiverOff_sending {d : Device} {k : Branch} {tx : BranchSending}
    (h : (d.seq k).sending = some tx) : d.receiverOff k = (tx.starts != d.now) := by
  unfold Device.receiverOff
  rw [h]

theorem branchArrival_ignored {d : Device} {k : Branch} {start : Nat}
    (h : d.ignores k start = true) (bytes : List Byte) :
    branchArrival k start bytes d = d.bumpLineBy k.line .ignoredBytes bytes.length := if_pos h

theorem branchArrival_off {d : Device} {k : Branch} {start : Nat}
    (h : d.ignores k start = false) (off : d.receiverOff k = true) (bytes : List Byte) :
    branchArrival k start bytes d = d := by
  unfold branchArrival
  rw [if_neg (ne_true_of_eq_false h), if_pos off]

theorem branchArrival_received {d : Device} {k : Branch} {start : Nat}
    (h : d.ignores k start = false) (on : d.receiverOff k = false) (bytes : List Byte) :
    branchArrival k start bytes d =
      branchChecked k
        (checkBranch { stored := bytes.take Config.branchBuffer, count := bytes.length })
        (collect k.line Config.branchBuffer bytes d) := by
  unfold branchArrival
  rw [if_neg (ne_true_of_eq_false h), if_neg (ne_true_of_eq_false on)]
  cases k <;> rfl

/-! ### The ACK of a segment -/

/-- The ACK of a segment that its entry no longer sends next only flips the toggle (log 30). -/
theorem deliverAck_returned {d : Device} {k : Branch} {c : Class} {segment : Nat} {e : Entry}
    {es : List Entry} (s : Nat) (hq : (flipDown k s d).queue k.line c = e :: es)
    (hs : e.nextSegment ≠ segment) : deliverAck k s c segment d = flipDown k s d := by
  unfold deliverAck
  dsimp only
  rw [hq]
  exact if_pos hs

/-! ### Staging -/

/-- Comparing unit and index is comparing places. -/
theorem Staged.place_beq (x y : Staged) :
    (x.unit == y.unit && x.index == y.index) = decide (x.place = y.place) := by
  rw [Bool.eq_iff_iff]
  simp [Staged.place]

/-- What STAGE makes of the list when its entries are for different places: an entry listed for one
of them is replaced where it stands, and the new ones join the end in order (R159). -/
theorem foldl_stageEntry (new list : List Staged) (h : (new.map Staged.place).Nodup) :
    new.foldl stageEntry list =
      (list.map fun x =>
        (new.find? fun e => e.unit == x.unit && e.index == x.index).getD x) ++
      new.filter fun e => !(list.any fun x => x.unit == e.unit && x.index == e.index) := by
  simp only [Staged.place_beq]
  induction new generalizing list with
  | nil => simp
  | cons e es ih =>
    rw [List.map_cons, List.nodup_cons] at h
    have hne : ∀ y ∈ es, y.place ≠ e.place := fun y hy hp => h.1 (hp ▸ List.mem_map_of_mem hy)
    rw [List.foldl_cons, ih _ h.2]
    unfold stageEntry
    simp only [Staged.place_beq]
    by_cases hl : list.any (fun x => decide (x.place = e.place)) = true
    · rw [if_pos hl, List.filter_cons_of_neg (by simp [hl]), List.map_map]
      congr 1
      · apply List.map_congr_left
        intro x _
        by_cases hx : x.unit = e.unit ∧ x.index = e.index
        · have hp : e.place = x.place := by simp [Staged.place, hx]
          have hn : es.find? (fun y => decide (y.place = e.place)) = none := by
            simpa using hne
          simp [hx, hp.symm, hn]
        · have hp : ¬ e.place = x.place := by
            simp only [Staged.place, Prod.mk.injEq]
            exact fun q => hx ⟨q.1.symm, q.2.symm⟩
          simp [hx, hp]
      · apply List.filter_congr
        intro y hy
        congr 1
        rw [List.any_map]
        congr 1
        funext x
        by_cases hx : x.unit = e.unit ∧ x.index = e.index
        · have hp : x.place = e.place := by simp [Staged.place, hx]
          simp [hx, hp]
        · simp [hx]
    · rw [if_neg hl, List.filter_cons_of_pos (by simpa using hl)]
      have hn : es.find? (fun y => decide (y.place = e.place)) = none := by simpa using hne
      rw [List.map_append, List.append_assoc]
      congr 1
      · apply List.map_congr_left
        intro x hx
        have hp : ¬ e.place = x.place := by
          intro q
          exact hl (List.any_eq_true.2 ⟨x, hx, by simp [q]⟩)
        simp [hp]
      · simp only [List.map_cons, List.map_nil, hn, Option.getD_none, List.singleton_append]
        congr 1
        apply List.filter_congr
        intro y hy
        have : ¬ e.place = y.place := fun q => hne y hy q.symm
        simp [List.any_append, this]

end Sys2Proof.Machine
end

