-- ==== Sys2Proof/Laws/Steady.lean ====
section
/-! SUPPORT. What the many operations of the part leave alone. `steady` is what changes only when a
commit is applied, when a request is performed, at a cycle start, or at a reset; `policing` is
what changes only when a frame is metered or a meter is refilled, written or cleared. One lemma
for each operation. -/

namespace Sys2Proof.Machine

section Steady

set_option linter.unusedSimpArgs false
set_option linter.unusedTactic false
set_option linter.unreachableTactic false
set_option linter.unnecessarySeqFocus false

/-- Reset input, openings, tables in force, Change Unit and Cycle Timer. -/
def Device.steady (d : Device) : Bool × PerBranch Nat × Tables × Change × Timer :=
  (d.inReset, d.openedAt, d.tables, d.change, d.timer)

/-- Meters and thinning accumulators. -/
def Device.policing (d : Device) : Table MeterState × PerLine Nat := (d.meters, d.accumulators)

@[simp] theorem SegmentResult.ack_dev (d : Device) : (SegmentResult.ack d).dev = d := rfl

@[simp] theorem SegmentResult.busy_dev (d : Device) : (SegmentResult.busy d).dev = d := rfl

theorem Device.steady_eta (d : Device) :
    (d.inReset, d.openedAt, d.tables, d.change, d.timer) = d.steady := rfl

theorem Device.policing_eta (d : Device) : (d.meters, d.accumulators) = d.policing := rfl

theorem Device.steady_mk (now : Nat) (inReset : Bool) (choices : Nat) (lines : PerLine LineIf)
    (trunkAdm : TrunkAdmission) (branchAdm : PerBranch BranchAdmission) (openedAt : PerBranch Nat)
    (accumulators : PerLine Nat) (meters : Table MeterState) (circuitCounters : Table (Table Nat))
    (pool : Pool) (timer : Timer) (egress : PerLine Egress) (slots : Table Nat)
    (trunkTx : Option TrunkSending) (seqs : PerBranch Sequencer) (stations : Table Station)
    (contexts : List Context) (tables : Tables) (change : Change) (endpoint : Endpoint) :
    (Device.mk now inReset choices lines trunkAdm branchAdm openedAt accumulators meters
      circuitCounters pool timer egress slots trunkTx seqs stations contexts tables change
      endpoint).steady = (inReset, openedAt, tables, change, timer) := rfl

theorem Device.policing_mk (now : Nat) (inReset : Bool) (choices : Nat) (lines : PerLine LineIf)
    (trunkAdm : TrunkAdmission) (branchAdm : PerBranch BranchAdmission) (openedAt : PerBranch Nat)
    (accumulators : PerLine Nat) (meters : Table MeterState) (circuitCounters : Table (Table Nat))
    (pool : Pool) (timer : Timer) (egress : PerLine Egress) (slots : Table Nat)
    (trunkTx : Option TrunkSending) (seqs : PerBranch Sequencer) (stations : Table Station)
    (contexts : List Context) (tables : Tables) (change : Change) (endpoint : Endpoint) :
    (Device.mk now inReset choices lines trunkAdm branchAdm openedAt accumulators meters
      circuitCounters pool timer egress slots trunkTx seqs stations contexts tables change
      endpoint).policing = (meters, accumulators) := rfl

theorem foldl_steady {α : Type} (f : Device → α → Device) (h : ∀ d x, (f d x).steady = d.steady)
    (xs : List α) (d : Device) : (xs.foldl f d).steady = d.steady := by
  induction xs generalizing d with
  | nil => rfl
  | cons x xs ih => simp [ih, h]

theorem foldl_policing {α : Type} (f : Device → α → Device)
    (h : ∀ d x, (f d x).policing = d.policing) (xs : List α) (d : Device) :
    (xs.foldl f d).policing = d.policing := by
  induction xs generalizing d with
  | nil => rfl
  | cons x xs ih => simp [ih, h]

@[simp] theorem setLineIf_steady (l : Line) (x : LineIf) (d : Device) :
    (d.setLineIf l x).steady = d.steady := rfl

@[simp] theorem setAdmission_steady (k : Branch) (a : BranchAdmission) (d : Device) :
    (d.setAdmission k a).steady = d.steady := rfl

@[simp] theorem setEgr_steady (l : Line) (x : Egress) (d : Device) :
    (d.setEgr l x).steady = d.steady := rfl

@[simp] theorem setQueue_steady (l : Line) (c : Class) (q : List Entry) (d : Device) :
    (d.setQueue l c q).steady = d.steady := rfl

@[simp] theorem setCredits_steady (l : Line) (c : Credits) (d : Device) :
    (d.setCredits l c).steady = d.steady := rfl

@[simp] theorem setRelease_steady (l : Line) (c : Class) (e : Option Nat) (d : Device) :
    (d.setRelease l c e).steady = d.steady := rfl

@[simp] theorem setSeq_steady (k : Branch) (q : Sequencer) (d : Device) :
    (d.setSeq k q).steady = d.steady := rfl

@[simp] theorem setStation_steady (k : Branch) (s : Nat) (x : Station) (d : Device) :
    (d.setStation k s x).steady = d.steady := rfl

@[simp] theorem releaseFrame_steady (ref : Nat) (d : Device) :
    (d.releaseFrame ref).steady = d.steady := rfl

@[simp] theorem takeFrame_steady (ref : Nat) (d : Device) :
    (d.takeFrame ref).steady = d.steady := rfl

@[simp] theorem bumpLineBy_steady (l : Line) (c : LineCounter) (n : Nat) (d : Device) :
    (d.bumpLineBy l c n).steady = d.steady := rfl

@[simp] theorem bumpLine_steady (l : Line) (c : LineCounter) (d : Device) :
    (d.bumpLine l c).steady = d.steady := rfl

@[simp] theorem bumpStation_steady (k : Branch) (s : Nat) (c : StationCounter) (d : Device) :
    (d.bumpStation k s c).steady = d.steady := rfl

@[simp] theorem setMeterState_steady (m : Nat) (x : MeterState) (d : Device) :
    (d.setMeterState m x).steady = d.steady := rfl

@[simp] theorem setLineIf_policing (l : Line) (x : LineIf) (d : Device) :
    (d.setLineIf l x).policing = d.policing := rfl

@[simp] theorem setAdmission_policing (k : Branch) (a : BranchAdmission) (d : Device) :
    (d.setAdmission k a).policing = d.policing := rfl

@[simp] theorem setEgr_policing (l : Line) (x : Egress) (d : Device) :
    (d.setEgr l x).policing = d.policing := rfl

@[simp] theorem setQueue_policing (l : Line) (c : Class) (q : List Entry) (d : Device) :
    (d.setQueue l c q).policing = d.policing := rfl

@[simp] theorem setCredits_policing (l : Line) (c : Credits) (d : Device) :
    (d.setCredits l c).policing = d.policing := rfl

@[simp] theorem setRelease_policing (l : Line) (c : Class) (e : Option Nat) (d : Device) :
    (d.setRelease l c e).policing = d.policing := rfl

@[simp] theorem setSeq_policing (k : Branch) (q : Sequencer) (d : Device) :
    (d.setSeq k q).policing = d.policing := rfl

@[simp] theorem setStation_policing (k : Branch) (s : Nat) (x : Station) (d : Device) :
    (d.setStation k s x).policing = d.policing := rfl

@[simp] theorem releaseFrame_policing (ref : Nat) (d : Device) :
    (d.releaseFrame ref).policing = d.policing := rfl

@[simp] theorem takeFrame_policing (ref : Nat) (d : Device) :
    (d.takeFrame ref).policing = d.policing := rfl

@[simp] theorem bumpLineBy_policing (l : Line) (c : LineCounter) (n : Nat) (d : Device) :
    (d.bumpLineBy l c n).policing = d.policing := rfl

@[simp] theorem bumpLine_policing (l : Line) (c : LineCounter) (d : Device) :
    (d.bumpLine l c).policing = d.policing := rfl

@[simp] theorem bumpStation_policing (k : Branch) (s : Nat) (c : StationCounter) (d : Device) :
    (d.bumpStation k s c).policing = d.policing := rfl

@[simp] theorem bumpCircuitBy_steady (cid : Nat) (c : CircuitCounter) (n : Nat) (d : Device) :
    (d.bumpCircuitBy cid c n).steady = d.steady := by
  unfold Device.bumpCircuitBy
  try dsimp only
  repeat' split
  all_goals first | (simp [Device.steady_mk, Device.steady_eta]; done) | rfl

@[simp] theorem bumpCircuit_steady (cid : Nat) (c : CircuitCounter) (d : Device) :
    (d.bumpCircuit cid c).steady = d.steady := by
  unfold Device.bumpCircuit
  try dsimp only
  repeat' split
  all_goals first | (simp [Device.steady_mk, Device.steady_eta]; done) | rfl

@[simp] theorem countReason_steady (l : Line) (cid : Nat) (r : Reason) (d : Device) :
    (d.countReason l cid r).steady = d.steady := by
  unfold Device.countReason
  try dsimp only
  repeat' split
  all_goals first | (simp [Device.steady_mk, Device.steady_eta]; done) | rfl

@[simp] theorem dropFrame_steady (l : Line) (ref : Nat) (r : Reason) (d : Device) :
    (d.dropFrame l ref r).steady = d.steady := by
  unfold Device.dropFrame
  try dsimp only
  repeat' split
  all_goals first | (simp [Device.steady_mk, Device.steady_eta]; done) | rfl

@[simp] theorem bumpBoth_steady (k : Branch) (s : Nat) (lc : LineCounter) (sc : StationCounter) (d : Device) :
    (d.bumpBoth k s lc sc).steady = d.steady := by
  unfold Device.bumpBoth
  try dsimp only
  repeat' split
  all_goals first | (simp [Device.steady_mk, Device.steady_eta]; done) | rfl

@[simp] theorem joinEvent_steady (e : Event) (d : Device) :
    (joinEvent e d).steady = d.steady := by
  unfold joinEvent
  try dsimp only
  repeat' split
  all_goals first | (simp [Device.steady_mk, Device.steady_eta]; done) | rfl

@[simp] theorem placeAttention_steady (d : Device) :
    (placeAttention d).steady = d.steady := by
  unfold placeAttention
  try dsimp only
  repeat' split
  all_goals first | (simp [Device.steady_mk, Device.steady_eta]; done) | rfl

@[simp] theorem startRecord_steady (d : Device) :
    (startRecord d).steady = d.steady := by
  unfold startRecord
  try dsimp only
  repeat' split
  all_goals first | (simp [Device.steady_mk, Device.steady_eta]; done) | rfl

@[simp] theorem raiseEvent_steady (kind : EventKind) (line : Option Line) (station : Option Nat) (detail : Nat) (d : Device) :
    (raiseEvent kind line station detail d).steady = d.steady := by
  unfold raiseEvent
  try dsimp only
  repeat' split
  all_goals first | (simp [Device.steady_mk, Device.steady_eta]; done) | rfl

@[simp] theorem headerErrorOn_steady (l : Line) (d : Device) :
    (headerErrorOn l d).steady = d.steady := by
  unfold headerErrorOn
  try dsimp only
  repeat' split
  all_goals first | (simp [Device.steady_mk, Device.steady_eta]; done) | rfl

@[simp] theorem payloadErrorOn_steady (l : Line) (d : Device) :
    (payloadErrorOn l d).steady = d.steady := by
  unfold payloadErrorOn
  try dsimp only
  repeat' split
  all_goals first | (simp [Device.steady_mk, Device.steady_eta]; done) | rfl

@[simp] theorem setHold_steady (l : Line) (c : Class) (n : Nat) (d : Device) :
    (setHold l c n d).steady = d.steady := by
  unfold setHold
  try dsimp only
  repeat' split
  all_goals first | (simp [Device.steady_mk, Device.steady_eta]; done) | rfl

@[simp] theorem startTrunkFrame_steady (cid ref : Nat) (d : Device) :
    (startTrunkFrame cid ref d).steady = d.steady := by
  unfold startTrunkFrame
  try dsimp only
  repeat' split
  all_goals first | (simp [Device.steady_mk, Device.steady_eta]; done) | rfl

@[simp] theorem startTrunkSlot_steady (cid ref : Nat) (d : Device) :
    (startTrunkSlot cid ref d).steady = d.steady := by
  unfold startTrunkSlot
  try dsimp only
  repeat' split
  all_goals first | (simp [Device.steady_mk, Device.steady_eta]; done) | rfl

@[simp] theorem startTrunkClass_steady (c : Class) (d : Device) :
    (startTrunkClass c d).steady = d.steady := by
  unfold startTrunkClass
  try dsimp only
  repeat' split
  all_goals first | (simp [Device.steady_mk, Device.steady_eta]; done) | rfl

@[simp] theorem trunkSelect_steady (d : Device) :
    (trunkSelect d).steady = d.steady := by
  unfold trunkSelect
  try dsimp only
  repeat' split
  all_goals first | (simp [Device.steady_mk, Device.steady_eta]; done) | rfl

@[simp] theorem trunkChoose_steady (d : Device) :
    (trunkChoose d).steady = d.steady := by
  unfold trunkChoose
  try dsimp only
  repeat' split
  all_goals first | (simp [Device.steady_mk, Device.steady_eta]; done) | rfl

@[simp] theorem dropSlot_steady (l : Line) (r : Reason) (slot : Nat × Nat) (d : Device) :
    (dropSlot l r d slot).steady = d.steady := by
  unfold dropSlot
  try dsimp only
  repeat' split
  all_goals first | (simp [Device.steady_mk, Device.steady_eta]; done) | rfl

@[simp] theorem discardLate_steady (d : Device) :
    (discardLate d).steady = d.steady := by
  unfold discardLate
  exact foldl_steady _ (fun d x => by first | (simp; done) | (split <;> simp) | rfl) _ _

@[simp] theorem flushSlots_steady (l : Line) (d : Device) :
    (flushSlots l d).steady = d.steady := by
  unfold flushSlots
  exact foldl_steady _ (fun d x => by first | (simp; done) | (split <;> simp) | rfl) _ _

@[simp] theorem flushQueue_steady (l : Line) (c : Class) (d : Device) :
    (flushQueue l d c).steady = d.steady := by
  unfold flushQueue
  exact foldl_steady _ (fun d x => by first | (simp; done) | (split <;> simp) | rfl) _ _

@[simp] theorem flushQueues_steady (l : Line) (d : Device) :
    (flushQueues l d).steady = d.steady := by
  unfold flushQueues
  exact foldl_steady _ (fun d x => by first | (simp; done) | (split <;> simp) | rfl) _ _

@[simp] theorem flushTrunk_steady (d : Device) :
    (flushTrunk d).steady = d.steady := by
  unfold flushTrunk
  try dsimp only
  repeat' split
  all_goals first | (simp [Device.steady_mk, Device.steady_eta]; done) | rfl

@[simp] theorem considerPoolEmpty_steady (l : Line) (station : Option Nat) (n : Nat) (d : Device) :
    (considerPoolEmpty l station n d).steady = d.steady := by
  unfold considerPoolEmpty
  try dsimp only
  repeat' split
  all_goals first | (simp [Device.steady_mk, Device.steady_eta]; done) | rfl

@[simp] theorem storeReceipt_steady (k : Branch) (f : BranchFrame) (d : Device) :
    (storeReceipt k f d).steady = d.steady := by
  unfold storeReceipt
  try dsimp only
  repeat' split
  all_goals first | (simp [Device.steady_mk, Device.steady_eta]; done) | rfl

@[simp] theorem rewindDelivery_steady (k : Branch) (s : Nat) (d : Device) :
    (rewindDelivery k s d).steady = d.steady := by
  unfold rewindDelivery
  try dsimp only
  repeat' split
  all_goals first | (simp [Device.steady_mk, Device.steady_eta]; done) | rfl

@[simp] theorem markResync_steady (k : Branch) (s : Nat) (d : Device) :
    (markResync k s d).steady = d.steady := by
  unfold markResync
  try dsimp only
  repeat' split
  all_goals first | (simp [Device.steady_mk, Device.steady_eta]; done) | rfl

@[simp] theorem markResyncAll_steady (k : Branch) (d : Device) :
    (markResyncAll k d).steady = d.steady := by
  unfold markResyncAll
  exact foldl_steady _ (fun d x => by first | (simp; done) | (split <;> simp) | rfl) _ _

@[simp] theorem resyncOnReply_steady (k : Branch) (s : Nat) (d : Device) :
    (resyncOnReply k s d).steady = d.steady := by
  unfold resyncOnReply
  try dsimp only
  repeat' split
  all_goals first | (simp [Device.steady_mk, Device.steady_eta]; done) | rfl

@[simp] theorem flipDown_steady (k : Branch) (s : Nat) (d : Device) :
    (flipDown k s d).steady = d.steady := by
  unfold flipDown
  try dsimp only
  repeat' split
  all_goals first | (simp [Device.steady_mk, Device.steady_eta]; done) | rfl

@[simp] theorem flipUp_steady (k : Branch) (s : Nat) (d : Device) :
    (flipUp k s d).steady = d.steady := by
  unfold flipUp
  try dsimp only
  repeat' split
  all_goals first | (simp [Device.steady_mk, Device.steady_eta]; done) | rfl

@[simp] theorem putFaulted_steady (k : Branch) (s : Nat) (d : Device) :
    (putFaulted k s d).steady = d.steady := by
  unfold putFaulted
  try dsimp only
  repeat' split
  all_goals first | (simp [Device.steady_mk, Device.steady_eta]; done) | rfl

@[simp] theorem stationSuccess_steady (k : Branch) (s : Nat) (d : Device) :
    (stationSuccess k s d).steady = d.steady := by
  unfold stationSuccess
  try dsimp only
  repeat' split
  all_goals first | (simp [Device.steady_mk, Device.steady_eta]; done) | rfl

@[simp] theorem stationFails_steady (k : Branch) (s : Nat) (d : Device) :
    (stationFails k s d).steady = d.steady := by
  unfold stationFails
  try dsimp only
  repeat' split
  all_goals first | (simp [Device.steady_mk, Device.steady_eta]; done) | rfl

@[simp] theorem stationFailure_steady (k : Branch) (s : Nat) (isProbe : Bool) (d : Device) :
    (stationFailure k s isProbe d).steady = d.steady := by
  unfold stationFailure
  try dsimp only
  repeat' split
  all_goals first | (simp [Device.steady_mk, Device.steady_eta]; done) | rfl

@[simp] theorem stationFaultReply_steady (k : Branch) (s code : Nat) (d : Device) :
    (stationFaultReply k s code d).steady = d.steady := by
  unfold stationFaultReply
  try dsimp only
  repeat' split
  all_goals first | (simp [Device.steady_mk, Device.steady_eta]; done) | rfl

@[simp] theorem reportOutcome_steady (k : Branch) (s : Nat) (isProbe : Bool) (o : Outcome) (d : Device) :
    (reportOutcome k s isProbe o d).steady = d.steady := by
  unfold reportOutcome
  try dsimp only
  repeat' split
  all_goals first | (simp [Device.steady_mk, Device.steady_eta]; done) | rfl

@[simp] theorem countDownStation_steady (k : Branch) (s : Nat) (d : Device) :
    (countDownStation k d s).steady = d.steady := by
  unfold countDownStation
  try dsimp only
  repeat' split
  all_goals first | (simp [Device.steady_mk, Device.steady_eta]; done) | rfl

@[simp] theorem countDownProbes_steady (d : Device) :
    (countDownProbes d).steady = d.steady := by
  unfold countDownProbes
  refine foldl_steady _ (fun d k => ?_) _ _
  split
  · exact foldl_steady _ (fun d s => by simp) _ _
  · rfl

@[simp] theorem clearServiced_steady (k : Branch) (d : Device) :
    (clearServiced k d).steady = d.steady := by
  unfold clearServiced
  exact foldl_steady _ (fun d x => by first | (simp; done) | (split <;> simp) | rfl) _ _

@[simp] theorem sendBranch_steady (k : Branch) (role : TxRole) (f : BranchFrame) (d : Device) :
    (sendBranch k role f d).steady = d.steady := by
  unfold sendBranch
  try dsimp only
  repeat' split
  all_goals first | (simp [Device.steady_mk, Device.steady_eta]; done) | rfl

@[simp] theorem startAttempt_steady (k : Branch) (r : InFlight) (d : Device) :
    (startAttempt k r d).steady = d.steady := by
  unfold startAttempt
  try dsimp only
  repeat' split
  all_goals first | (simp [Device.steady_mk, Device.steady_eta]; done) | rfl

@[simp] theorem startExchange_steady (k : Branch) (e : Element) (d : Device) :
    (startExchange k e d).steady = d.steady := by
  unfold startExchange
  try dsimp only
  repeat' split
  all_goals first | (simp [Device.steady_mk, Device.steady_eta]; done) | rfl

@[simp] theorem setElement_steady (k : Branch) (index : Nat) (status : ElementStatus) (d : Device) :
    (setElement k index status d).steady = d.steady := by
  unfold setElement
  try dsimp only
  repeat' split
  all_goals first | (simp [Device.steady_mk, Device.steady_eta]; done) | rfl

@[simp] theorem missElement_steady (k : Branch) (e : Element) (d : Device) :
    (missElement k d e).steady = d.steady := by
  unfold missElement
  try dsimp only
  repeat' split
  all_goals first | (simp [Device.steady_mk, Device.steady_eta]; done) | rfl

@[simp] theorem skipElement_steady (k : Branch) (e : Element) (d : Device) :
    (skipElement k d e).steady = d.steady := by
  unfold skipElement
  try dsimp only
  repeat' split
  all_goals first | (simp [Device.steady_mk, Device.steady_eta]; done) | rfl

@[simp] theorem removeHead_steady (k : Branch) (c : Class) (rest : List Entry) (d : Device) :
    (removeHead k c rest d).steady = d.steady := by
  unfold removeHead
  try dsimp only
  repeat' split
  all_goals first | (simp [Device.steady_mk, Device.steady_eta]; done) | rfl

@[simp] theorem sweepQueue_steady (k : Branch) (c : Class) (q : List Entry) (d : Device) :
    (sweepQueue k c q d).steady = d.steady := by
  induction q generalizing d with
  | nil => simp [sweepQueue]
  | cons x xs ih =>
    simp only [sweepQueue]
    repeat' split
    all_goals first | (simp [ih]; done) | rfl

@[simp] theorem sweepClass_steady (k : Branch) (c : Class) (d : Device) :
    (sweepClass k d c).steady = d.steady := by
  unfold sweepClass
  try dsimp only
  repeat' split
  all_goals first | (simp [Device.steady_mk, Device.steady_eta]; done) | rfl

@[simp] theorem sweep_steady (k : Branch) (d : Device) :
    (sweep k d).steady = d.steady := by
  unfold sweep
  exact foldl_steady _ (fun d x => by first | (simp; done) | (split <;> simp) | rfl) _ _

@[simp] theorem startDeliver_steady (k : Branch) (c : Class) (d : Device) :
    (startDeliver k c d).steady = d.steady := by
  unfold startDeliver
  try dsimp only
  repeat' split
  all_goals first | (simp [Device.steady_mk, Device.steady_eta]; done) | rfl

@[simp] theorem markServiced_steady (k : Branch) (s : Nat) (d : Device) :
    (markServiced k s d).steady = d.steady := by
  unfold markServiced
  try dsimp only
  repeat' split
  all_goals first | (simp [Device.steady_mk, Device.steady_eta]; done) | rfl

@[simp] theorem startService_steady (k : Branch) (d : Device) :
    (startService k d).steady = d.steady := by
  unfold startService
  try dsimp only
  repeat' split
  all_goals first | (simp [Device.steady_mk, Device.steady_eta]; done) | rfl

@[simp] theorem startProbe_steady (k : Branch) (s : Nat) (d : Device) :
    (startProbe k s d).steady = d.steady := by
  unfold startProbe
  try dsimp only
  repeat' split
  all_goals first | (simp [Device.steady_mk, Device.steady_eta]; done) | rfl

@[simp] theorem setSeqState_steady (k : Branch) (st : SeqState) (d : Device) :
    (setSeqState k st d).steady = d.steady := by
  unfold setSeqState
  try dsimp only
  repeat' split
  all_goals first | (simp [Device.steady_mk, Device.steady_eta]; done) | rfl

@[simp] theorem startPick_steady (k : Branch) (s : Source) (d : Device) :
    (startPick k s d).steady = d.steady := by
  unfold startPick
  try dsimp only
  repeat' split
  all_goals first | (simp [Device.steady_mk, Device.steady_eta]; done) | rfl

@[simp] theorem selectBranch_steady (k : Branch) (d : Device) :
    (selectBranch k d).steady = d.steady := by
  unfold selectBranch
  try dsimp only
  repeat' split
  all_goals first | (simp [Device.steady_mk, Device.steady_eta]; done) | rfl

@[simp] theorem aperiodicStep_steady (k : Branch) (d : Device) :
    (aperiodicStep k d).steady = d.steady := by
  unfold aperiodicStep
  try dsimp only
  repeat' split
  all_goals first | (simp [Device.steady_mk, Device.steady_eta]; done) | rfl

@[simp] theorem periodicStep_steady (k : Branch) (es : List Element) (d : Device) :
    (periodicStep k es d).steady = d.steady := by
  induction es generalizing d with
  | nil => simp [periodicStep]
  | cons x xs ih =>
    simp only [periodicStep]
    repeat' split
    all_goals first | (simp [ih]; done) | rfl

@[simp] theorem wakeBranch_steady (k : Branch) (d : Device) :
    (wakeBranch k d).steady = d.steady := by
  unfold wakeBranch
  try dsimp only
  repeat' split
  all_goals first | (simp [Device.steady_mk, Device.steady_eta]; done) | rfl

@[simp] theorem beginCycle_steady (k : Branch) (cycle : Cycle) (deadline : Nat) (d : Device) :
    (beginCycle k cycle deadline d).steady = d.steady := by
  unfold beginCycle
  exact (sendBranch_steady ..).trans ((bumpLine_steady ..).trans ((setSeq_steady ..).trans
    ((clearServiced_steady ..).trans (foldl_steady _ (fun d x => missElement_steady k x d) _ _))))

@[simp] theorem deferCycle_steady (k : Branch) (cycle : Cycle) (deadline : Nat) (d : Device) :
    (deferCycle k cycle deadline d).steady = d.steady := by
  unfold deferCycle
  try dsimp only
  repeat' split
  all_goals first | (simp [Device.steady_mk, Device.steady_eta]; done) | rfl

@[simp] theorem branchCycleStart_steady (k : Branch) (cycle : Cycle) (deadline : Nat) (d : Device) :
    (branchCycleStart cycle deadline d k).steady = d.steady := by
  unfold branchCycleStart
  try dsimp only
  repeat' split
  all_goals first | (simp [Device.steady_mk, Device.steady_eta]; done) | rfl

@[simp] theorem abandonContext_steady (reason : LineCounter) (c : Context) (d : Device) :
    (abandonContext reason d c).steady = d.steady := by
  unfold abandonContext
  try dsimp only
  repeat' split
  all_goals first | (simp [Device.steady_mk, Device.steady_eta]; done) | rfl

@[simp] theorem flushContexts_steady (k : Branch) (d : Device) :
    (flushContexts k d).steady = d.steady := by
  unfold flushContexts
  exact foldl_steady _ (fun d x => by first | (simp; done) | (split <;> simp) | rfl) _ _

@[simp] theorem resetCredits_steady (l : Line) (d : Device) :
    (resetCredits l d).steady = d.steady := by
  unfold resetCredits
  try dsimp only
  repeat' split
  all_goals first | (simp [Device.steady_mk, Device.steady_eta]; done) | rfl

@[simp] theorem cancelReleases_steady (l : Line) (d : Device) :
    (cancelReleases l d).steady = d.steady := by
  unfold cancelReleases
  try dsimp only
  repeat' split
  all_goals first | (simp [Device.steady_mk, Device.steady_eta]; done) | rfl

@[simp] theorem shutBranch_steady (k : Branch) (d : Device) :
    (shutBranch k d).steady = d.steady := by
  unfold shutBranch
  try dsimp only
  repeat' split
  all_goals first | (simp [Device.steady_mk, Device.steady_eta]; done) | rfl

@[simp] theorem discardArriving_steady (a : Arriving) (r : Reason) (d : Device) :
    (discardArriving a r d).steady = d.steady := by
  unfold discardArriving
  try dsimp only
  repeat' split
  all_goals first | (simp [Device.steady_mk, Device.steady_eta]; done) | rfl

@[simp] theorem claimTrunk_steady (a : Arriving) (c : Circuit) (payload : List Byte) (n : Nat) (d : Device) :
    (claimTrunk a c payload n d).steady = d.steady := by
  unfold claimTrunk
  try dsimp only
  repeat' split
  all_goals first | (simp [Device.steady_mk, Device.steady_eta]; done) | rfl

@[simp] theorem completeDescriptor_steady (ref : Nat) (c : Circuit) (n : Nat) (d : Device) :
    (completeDescriptor ref c n d).steady = d.steady := by
  unfold completeDescriptor
  try dsimp only
  repeat' split
  all_goals first | (simp [Device.steady_mk, Device.steady_eta]; done) | rfl

@[simp] theorem settleBlocks_steady (a : Arriving) (c : Circuit) (n : Nat) (d : Device) :
    (settleBlocks a c n d).steady = d.steady := by
  unfold settleBlocks
  try dsimp only
  repeat' split
  all_goals first | (simp [Device.steady_mk, Device.steady_eta]; done) | rfl

@[simp] theorem enqueue_steady (c : Circuit) (cid ref : Nat) (q : Class) (l : Line) (d : Device) :
    (enqueue c cid ref q d l).steady = d.steady := by
  unfold enqueue
  try dsimp only
  repeat' split
  all_goals first | (simp [Device.steady_mk, Device.steady_eta]; done) | rfl

@[simp] theorem notice_steady (l : Line) (d : Device) :
    (notice d l).steady = d.steady := by
  unfold notice
  try dsimp only
  repeat' split
  all_goals first | (simp [Device.steady_mk, Device.steady_eta]; done) | rfl

@[simp] theorem placeAperiodic_steady (c : Circuit) (cid ref : Nat) (q : Class) (lines : List Line) (d : Device) :
    (placeAperiodic c cid ref q lines d).steady = d.steady := by
  unfold placeAperiodic
  rw [foldl_steady _ (fun d x => by simp), foldl_steady _ (fun d x => by simp)]

@[simp] theorem placePeriodic_steady (cid ref : Nat) (l : Line) (d : Device) :
    (placePeriodic cid ref l d).steady = d.steady := by
  unfold placePeriodic
  try dsimp only
  repeat' split
  all_goals first | (simp [Device.steady_mk, Device.steady_eta]; done) | rfl

@[simp] theorem acceptFrame_steady (a : Arriving) (c : Circuit) (d : Device) :
    (acceptFrame a c d).steady = d.steady := by
  unfold acceptFrame
  try dsimp only
  repeat' split
  all_goals first | (simp [Device.steady_mk, Device.steady_eta]; done) | rfl

@[simp] theorem colourFrame_steady (m n : Nat) (d : Device) :
    (colourFrame m n d).steady = d.steady := by
  unfold colourFrame
  try dsimp only
  repeat' split
  all_goals first | (simp [Device.steady_mk, Device.steady_eta]; done) | rfl

@[simp] theorem thinLine_steady (l : Line) (d : Device) :
    (thinLine l d).steady = d.steady := by
  unfold thinLine
  try dsimp only
  repeat' split
  all_goals first | (simp [Device.steady_mk, Device.steady_eta]; done) | rfl

@[simp] theorem refillMeter_steady (m : Nat) (d : Device) :
    (refillMeter d m).steady = d.steady := by
  unfold refillMeter
  try dsimp only
  repeat' split
  all_goals first | (simp [Device.steady_mk, Device.steady_eta]; done) | rfl

@[simp] theorem refillMeters_steady (d : Device) :
    (refillMeters d).steady = d.steady := by
  unfold refillMeters
  exact foldl_steady _ (fun d x => by first | (simp; done) | (split <;> simp) | rfl) _ _

@[simp] theorem fillMeter_steady (m : Nat) (d : Device) :
    (fillMeter m d).steady = d.steady := by
  unfold fillMeter
  try dsimp only
  repeat' split
  all_goals first | (simp [Device.steady_mk, Device.steady_eta]; done) | rfl

@[simp] theorem meterFrame_steady (a : Arriving) (c : Circuit) (d : Device) :
    (meterFrame a c d).steady = d.steady := by
  unfold meterFrame
  try dsimp only
  repeat' split
  all_goals first | (simp [Device.steady_mk, Device.steady_eta]; done) | rfl

@[simp] theorem classify_steady (a : Arriving) (d : Device) :
    (classify a d).steady = d.steady := by
  unfold classify
  try dsimp only
  repeat' split
  all_goals first | (simp [Device.steady_mk, Device.steady_eta]; done) | rfl

@[simp] theorem classifyTrunk_steady (cid priority : Nat) (payload : List Byte) (d : Device) :
    (classifyTrunk cid priority payload d).steady = d.steady := by
  unfold classifyTrunk
  try dsimp only
  repeat' split
  all_goals first | (simp [Device.steady_mk, Device.steady_eta]; done) | rfl

@[simp] theorem handOver_steady (ref : Nat) (o : Origin) (d : Device) :
    (handOver ref o d).steady = d.steady := by
  unfold handOver
  try dsimp only
  repeat' split
  all_goals first | (simp [Device.steady_mk, Device.steady_eta]; done) | rfl

@[simp] theorem openContext_steady (k : Branch) (s : Nat) (f : BranchFrame) (d : Device) :
    (openContext k s f d).steady = d.steady := by
  unfold openContext
  try dsimp only
  repeat' split
  all_goals first | (simp [Device.steady_mk, Device.steady_eta]; done) | rfl

@[simp] theorem takeFirst_steady (k : Branch) (s : Nat) (f : BranchFrame) (d : Device) :
    ((takeFirst k s f d).dev).steady = d.steady := by
  unfold takeFirst
  try dsimp only
  repeat' split
  all_goals first | (simp [Device.steady_mk, Device.steady_eta]; done) | rfl

@[simp] theorem appendMiddle_steady (c : Context) (f : BranchFrame) (d : Device) :
    (appendMiddle c f d).steady = d.steady := by
  unfold appendMiddle
  try dsimp only
  repeat' split
  all_goals first | (simp [Device.steady_mk, Device.steady_eta]; done) | rfl

@[simp] theorem completeContext_steady (c : Context) (f : BranchFrame) (d : Device) :
    (completeContext c f d).steady = d.steady := by
  unfold completeContext
  try dsimp only
  repeat' split
  all_goals first | (simp [Device.steady_mk, Device.steady_eta]; done) | rfl

@[simp] theorem takeNext_steady (k : Branch) (s : Nat) (f : BranchFrame) (d : Device) :
    ((takeNext k s f d).dev).steady = d.steady := by
  unfold takeNext
  try dsimp only
  repeat' split
  all_goals first | (simp [Device.steady_mk, Device.steady_eta]; done) | rfl

@[simp] theorem takeSegment_steady (k : Branch) (s : Nat) (f : BranchFrame) (d : Device) :
    ((takeSegment k s f d).dev).steady = d.steady := by
  unfold takeSegment
  try dsimp only
  repeat' split
  all_goals first | (simp [Device.steady_mk, Device.steady_eta]; done) | rfl

@[simp] theorem ageContexts_steady (d : Device) :
    (ageContexts d).steady = d.steady := by
  unfold ageContexts
  exact foldl_steady _ (fun d x => by first | (simp; done) | (split <;> simp) | rfl) _ _

@[simp] theorem readyResponse_steady (k : Branch) (d : Device) :
    (readyResponse k d).steady = d.steady := by
  unfold readyResponse
  try dsimp only
  repeat' split
  all_goals first | (simp [Device.steady_mk, Device.steady_eta]; done) | rfl

@[simp] theorem becomeShut_steady (k : Branch) (d : Device) :
    (becomeShut k d).steady = d.steady := by
  unfold becomeShut
  try dsimp only
  repeat' split
  all_goals first | (simp [Device.steady_mk, Device.steady_eta]; done) | rfl

@[simp] theorem nextStep_steady (k : Branch) (d : Device) :
    (nextStep k d).steady = d.steady := by
  unfold nextStep
  try dsimp only
  repeat' split
  all_goals first | (simp [Device.steady_mk, Device.steady_eta]; done) | rfl

@[simp] theorem setInFlight_steady (k : Branch) (r : Option InFlight) (d : Device) :
    (setInFlight k r d).steady = d.steady := by
  unfold setInFlight
  try dsimp only
  repeat' split
  all_goals first | (simp [Device.steady_mk, Device.steady_eta]; done) | rfl

@[simp] theorem handOverReceived_steady (k : Branch) (r : InFlight) (d : Device) :
    (handOverReceived k r d).steady = d.steady := by
  unfold handOverReceived
  try dsimp only
  repeat' split
  all_goals first | (simp [Device.steady_mk, Device.steady_eta]; done) | rfl

@[simp] theorem emptyDeliveredSlot_steady (o : Option Nat) (ref : Nat) (d : Device) :
    (emptyDeliveredSlot o ref d).steady = d.steady := by
  unfold emptyDeliveredSlot
  try dsimp only
  repeat' split
  all_goals first | (simp [Device.steady_mk, Device.steady_eta]; done) | rfl

@[simp] theorem finishExchange_steady (o f : Option Nat) (x : Bool) (d : Device) :
    (finishExchange o f x d).steady = d.steady := by
  unfold finishExchange
  try dsimp only
  repeat' split
  all_goals first | (simp [Device.steady_mk, Device.steady_eta]; done) | rfl

@[simp] theorem holdClass_steady (k : Branch) (c : Class) (d : Device) :
    (holdClass k c d).steady = d.steady := by
  unfold holdClass
  try dsimp only
  repeat' split
  all_goals first | (simp [Device.steady_mk, Device.steady_eta]; done) | rfl

@[simp] theorem settleTransaction_steady (k : Branch) (r : InFlight) (o : Outcome) (d : Device) :
    (settleTransaction k r o d).steady = d.steady := by
  unfold settleTransaction
  try dsimp only
  repeat' split
  all_goals first | (simp [Device.steady_mk, Device.steady_eta]; done) | rfl

@[simp] theorem endTransaction_steady (k : Branch) (r : InFlight) (o : Outcome) (d : Device) :
    (endTransaction k r o d).steady = d.steady := by
  unfold endTransaction
  try dsimp only
  repeat' split
  all_goals first | (simp [Device.steady_mk, Device.steady_eta]; done) | rfl

@[simp] theorem failAttempt_steady (k : Branch) (r : InFlight) (d : Device) :
    (failAttempt k r d).steady = d.steady := by
  unfold failAttempt
  try dsimp only
  repeat' split
  all_goals first | (simp [Device.steady_mk, Device.steady_eta]; done) | rfl

@[simp] theorem erroredArrival_steady (k : Branch) (d : Device) :
    (erroredArrival k d).steady = d.steady := by
  unfold erroredArrival
  try dsimp only
  repeat' split
  all_goals first | (simp [Device.steady_mk, Device.steady_eta]; done) | rfl

@[simp] theorem exchangeData_steady (k : Branch) (f : BranchFrame) (d : Device) :
    ((exchangeData k f d).2).steady = d.steady := by
  unfold exchangeData
  try dsimp only
  repeat' split
  all_goals first | (simp [Device.steady_mk, Device.steady_eta]; done) | rfl

@[simp] theorem exchangeReply_steady (k : Branch) (r : InFlight) (f : BranchFrame) (d : Device) :
    (exchangeReply k r f d).steady = d.steady := by
  unfold exchangeReply
  try dsimp only
  repeat' split
  all_goals first | (simp [Device.steady_mk, Device.steady_eta]; done) | rfl

@[simp] theorem deliverAck_steady (k : Branch) (s : Nat) (c : Class) (n : Nat) (d : Device) :
    (deliverAck k s c n d).steady = d.steady := by
  unfold deliverAck
  try dsimp only
  repeat' split
  all_goals first | (simp [Device.steady_mk, Device.steady_eta]; done) | rfl

@[simp] theorem deliverBusy_steady (k : Branch) (s : Nat) (c : Class) (d : Device) :
    (deliverBusy k s c d).steady = d.steady := by
  unfold deliverBusy
  try dsimp only
  repeat' split
  all_goals first | (simp [Device.steady_mk, Device.steady_eta]; done) | rfl

@[simp] theorem deliverReply_steady (k : Branch) (r : InFlight) (c : Class) (n : Nat) (f : BranchFrame) (d : Device) :
    (deliverReply k r c n f d).steady = d.steady := by
  unfold deliverReply
  try dsimp only
  repeat' split
  all_goals first | (simp [Device.steady_mk, Device.steady_eta]; done) | rfl

@[simp] theorem sendAnswer_steady (k : Branch) (r : InFlight) (kind : BranchKind) (d : Device) :
    (sendAnswer k r kind d).steady = d.steady := by
  unfold sendAnswer
  try dsimp only
  repeat' split
  all_goals first | (simp [Device.steady_mk, Device.steady_eta]; done) | rfl

@[simp] theorem answerAck_steady (k : Branch) (r : InFlight) (x : Option Nat) (d : Device) :
    (answerAck k r x d).steady = d.steady := by
  unfold answerAck
  try dsimp only
  repeat' split
  all_goals first | (simp [Device.steady_mk, Device.steady_eta]; done) | rfl

@[simp] theorem answerBusy_steady (k : Branch) (r : InFlight) (d : Device) :
    (answerBusy k r d).steady = d.steady := by
  unfold answerBusy
  try dsimp only
  repeat' split
  all_goals first | (simp [Device.steady_mk, Device.steady_eta]; done) | rfl

@[simp] theorem serviceData_steady (k : Branch) (r : InFlight) (f : BranchFrame) (d : Device) :
    (serviceData k r f d).steady = d.steady := by
  unfold serviceData
  try dsimp only
  repeat' split
  all_goals first | (simp [Device.steady_mk, Device.steady_eta]; done) | rfl

@[simp] theorem serviceReply_steady (k : Branch) (r : InFlight) (f : BranchFrame) (d : Device) :
    (serviceReply k r f d).steady = d.steady := by
  unfold serviceReply
  try dsimp only
  repeat' split
  all_goals first | (simp [Device.steady_mk, Device.steady_eta]; done) | rfl

@[simp] theorem acceptReply_steady (k : Branch) (r : InFlight) (f : BranchFrame) (d : Device) :
    (acceptReply k r f d).steady = d.steady := by
  unfold acceptReply
  try dsimp only
  repeat' split
  all_goals first | (simp [Device.steady_mk, Device.steady_eta]; done) | rfl

@[simp] theorem unexpectedFrame_steady (k : Branch) (f : BranchFrame) (d : Device) :
    (unexpectedFrame k f d).steady = d.steady := by
  unfold unexpectedFrame
  try dsimp only
  repeat' split
  all_goals first | (simp [Device.steady_mk, Device.steady_eta]; done) | rfl

@[simp] theorem validArrival_steady (k : Branch) (f : BranchFrame) (d : Device) :
    (validArrival k f d).steady = d.steady := by
  unfold validArrival
  try dsimp only
  repeat' split
  all_goals first | (simp [Device.steady_mk, Device.steady_eta]; done) | rfl

@[simp] theorem startWait_steady (k : Branch) (r : InFlight) (d : Device) :
    (startWait k r d).steady = d.steady := by
  unfold startWait
  try dsimp only
  repeat' split
  all_goals first | (simp [Device.steady_mk, Device.steady_eta]; done) | rfl

@[simp] theorem afterBranchFrame_steady (k : Branch) (role : TxRole) (d : Device) :
    (afterBranchFrame k role d).steady = d.steady := by
  unfold afterBranchFrame
  try dsimp only
  repeat' split
  all_goals first | (simp [Device.steady_mk, Device.steady_eta]; done) | rfl

@[simp] theorem collect_steady (l : Line) (n : Nat) (bs : List Byte) (d : Device) :
    (collect l n bs d).steady = d.steady := by
  unfold collect
  try dsimp only
  repeat' split
  all_goals first | (simp [Device.steady_mk, Device.steady_eta]; done) | rfl

@[simp] theorem branchChecked_steady (k : Branch) (c : Checked BranchFrame) (d : Device) :
    (branchChecked k c d).steady = d.steady := by
  unfold branchChecked
  try dsimp only
  repeat' split
  all_goals first | (simp [Device.steady_mk, Device.steady_eta]; done) | rfl

@[simp] theorem branchArrival_steady (k : Branch) (n : Nat) (bs : List Byte) (d : Device) :
    (branchArrival k n bs d).steady = d.steady := by
  unfold branchArrival
  try dsimp only
  repeat' split
  all_goals first | (simp [Device.steady_mk, Device.steady_eta]; done) | rfl

@[simp] theorem handOut_steady (d : Device) :
    (handOut d).steady = d.steady := by
  simp [handOut, foldl_steady]

@[simp] theorem bumpCircuitBy_policing (cid : Nat) (c : CircuitCounter) (n : Nat) (d : Device) :
    (d.bumpCircuitBy cid c n).policing = d.policing := by
  unfold Device.bumpCircuitBy
  try dsimp only
  repeat' split
  all_goals first | (simp [Device.policing_mk, Device.policing_eta]; done) | rfl

@[simp] theorem bumpCircuit_policing (cid : Nat) (c : CircuitCounter) (d : Device) :
    (d.bumpCircuit cid c).policing = d.policing := by
  unfold Device.bumpCircuit
  try dsimp only
  repeat' split
  all_goals first | (simp [Device.policing_mk, Device.policing_eta]; done) | rfl

@[simp] theorem countReason_policing (l : Line) (cid : Nat) (r : Reason) (d : Device) :
    (d.countReason l cid r).policing = d.policing := by
  unfold Device.countReason
  try dsimp only
  repeat' split
  all_goals first | (simp [Device.policing_mk, Device.policing_eta]; done) | rfl

@[simp] theorem dropFrame_policing (l : Line) (ref : Nat) (r : Reason) (d : Device) :
    (d.dropFrame l ref r).policing = d.policing := by
  unfold Device.dropFrame
  try dsimp only
  repeat' split
  all_goals first | (simp [Device.policing_mk, Device.policing_eta]; done) | rfl

@[simp] theorem bumpBoth_policing (k : Branch) (s : Nat) (lc : LineCounter) (sc : StationCounter) (d : Device) :
    (d.bumpBoth k s lc sc).policing = d.policing := by
  unfold Device.bumpBoth
  try dsimp only
  repeat' split
  all_goals first | (simp [Device.policing_mk, Device.policing_eta]; done) | rfl

@[simp] theorem joinEvent_policing (e : Event) (d : Device) :
    (joinEvent e d).policing = d.policing := by
  unfold joinEvent
  try dsimp only
  repeat' split
  all_goals first | (simp [Device.policing_mk, Device.policing_eta]; done) | rfl

@[simp] theorem placeAttention_policing (d : Device) :
    (placeAttention d).policing = d.policing := by
  unfold placeAttention
  try dsimp only
  repeat' split
  all_goals first | (simp [Device.policing_mk, Device.policing_eta]; done) | rfl

@[simp] theorem startRecord_policing (d : Device) :
    (startRecord d).policing = d.policing := by
  unfold startRecord
  try dsimp only
  repeat' split
  all_goals first | (simp [Device.policing_mk, Device.policing_eta]; done) | rfl

@[simp] theorem raiseEvent_policing (kind : EventKind) (line : Option Line) (station : Option Nat) (detail : Nat) (d : Device) :
    (raiseEvent kind line station detail d).policing = d.policing := by
  unfold raiseEvent
  try dsimp only
  repeat' split
  all_goals first | (simp [Device.policing_mk, Device.policing_eta]; done) | rfl

@[simp] theorem headerErrorOn_policing (l : Line) (d : Device) :
    (headerErrorOn l d).policing = d.policing := by
  unfold headerErrorOn
  try dsimp only
  repeat' split
  all_goals first | (simp [Device.policing_mk, Device.policing_eta]; done) | rfl

@[simp] theorem payloadErrorOn_policing (l : Line) (d : Device) :
    (payloadErrorOn l d).policing = d.policing := by
  unfold payloadErrorOn
  try dsimp only
  repeat' split
  all_goals first | (simp [Device.policing_mk, Device.policing_eta]; done) | rfl

@[simp] theorem setHold_policing (l : Line) (c : Class) (n : Nat) (d : Device) :
    (setHold l c n d).policing = d.policing := by
  unfold setHold
  try dsimp only
  repeat' split
  all_goals first | (simp [Device.policing_mk, Device.policing_eta]; done) | rfl

@[simp] theorem startTrunkFrame_policing (cid ref : Nat) (d : Device) :
    (startTrunkFrame cid ref d).policing = d.policing := by
  unfold startTrunkFrame
  try dsimp only
  repeat' split
  all_goals first | (simp [Device.policing_mk, Device.policing_eta]; done) | rfl

@[simp] theorem startTrunkSlot_policing (cid ref : Nat) (d : Device) :
    (startTrunkSlot cid ref d).policing = d.policing := by
  unfold startTrunkSlot
  try dsimp only
  repeat' split
  all_goals first | (simp [Device.policing_mk, Device.policing_eta]; done) | rfl

@[simp] theorem startTrunkClass_policing (c : Class) (d : Device) :
    (startTrunkClass c d).policing = d.policing := by
  unfold startTrunkClass
  try dsimp only
  repeat' split
  all_goals first | (simp [Device.policing_mk, Device.policing_eta]; done) | rfl

@[simp] theorem trunkSelect_policing (d : Device) :
    (trunkSelect d).policing = d.policing := by
  unfold trunkSelect
  try dsimp only
  repeat' split
  all_goals first | (simp [Device.policing_mk, Device.policing_eta]; done) | rfl

@[simp] theorem trunkChoose_policing (d : Device) :
    (trunkChoose d).policing = d.policing := by
  unfold trunkChoose
  try dsimp only
  repeat' split
  all_goals first | (simp [Device.policing_mk, Device.policing_eta]; done) | rfl

@[simp] theorem dropSlot_policing (l : Line) (r : Reason) (slot : Nat × Nat) (d : Device) :
    (dropSlot l r d slot).policing = d.policing := by
  unfold dropSlot
  try dsimp only
  repeat' split
  all_goals first | (simp [Device.policing_mk, Device.policing_eta]; done) | rfl

@[simp] theorem discardLate_policing (d : Device) :
    (discardLate d).policing = d.policing := by
  unfold discardLate
  exact foldl_policing _ (fun d x => by first | (simp; done) | (split <;> simp) | rfl) _ _

@[simp] theorem flushSlots_policing (l : Line) (d : Device) :
    (flushSlots l d).policing = d.policing := by
  unfold flushSlots
  exact foldl_policing _ (fun d x => by first | (simp; done) | (split <;> simp) | rfl) _ _

@[simp] theorem flushQueue_policing (l : Line) (c : Class) (d : Device) :
    (flushQueue l d c).policing = d.policing := by
  unfold flushQueue
  exact foldl_policing _ (fun d x => by first | (simp; done) | (split <;> simp) | rfl) _ _

@[simp] theorem flushQueues_policing (l : Line) (d : Device) :
    (flushQueues l d).policing = d.policing := by
  unfold flushQueues
  exact foldl_policing _ (fun d x => by first | (simp; done) | (split <;> simp) | rfl) _ _

@[simp] theorem flushTrunk_policing (d : Device) :
    (flushTrunk d).policing = d.policing := by
  unfold flushTrunk
  try dsimp only
  repeat' split
  all_goals first | (simp [Device.policing_mk, Device.policing_eta]; done) | rfl

@[simp] theorem considerPoolEmpty_policing (l : Line) (station : Option Nat) (n : Nat) (d : Device) :
    (considerPoolEmpty l station n d).policing = d.policing := by
  unfold considerPoolEmpty
  try dsimp only
  repeat' split
  all_goals first | (simp [Device.policing_mk, Device.policing_eta]; done) | rfl

@[simp] theorem storeReceipt_policing (k : Branch) (f : BranchFrame) (d : Device) :
    (storeReceipt k f d).policing = d.policing := by
  unfold storeReceipt
  try dsimp only
  repeat' split
  all_goals first | (simp [Device.policing_mk, Device.policing_eta]; done) | rfl

@[simp] theorem rewindDelivery_policing (k : Branch) (s : Nat) (d : Device) :
    (rewindDelivery k s d).policing = d.policing := by
  unfold rewindDelivery
  try dsimp only
  repeat' split
  all_goals first | (simp [Device.policing_mk, Device.policing_eta]; done) | rfl

@[simp] theorem markResync_policing (k : Branch) (s : Nat) (d : Device) :
    (markResync k s d).policing = d.policing := by
  unfold markResync
  try dsimp only
  repeat' split
  all_goals first | (simp [Device.policing_mk, Device.policing_eta]; done) | rfl

@[simp] theorem markResyncAll_policing (k : Branch) (d : Device) :
    (markResyncAll k d).policing = d.policing := by
  unfold markResyncAll
  exact foldl_policing _ (fun d x => by first | (simp; done) | (split <;> simp) | rfl) _ _

@[simp] theorem resyncOnReply_policing (k : Branch) (s : Nat) (d : Device) :
    (resyncOnReply k s d).policing = d.policing := by
  unfold resyncOnReply
  try dsimp only
  repeat' split
  all_goals first | (simp [Device.policing_mk, Device.policing_eta]; done) | rfl

@[simp] theorem flipDown_policing (k : Branch) (s : Nat) (d : Device) :
    (flipDown k s d).policing = d.policing := by
  unfold flipDown
  try dsimp only
  repeat' split
  all_goals first | (simp [Device.policing_mk, Device.policing_eta]; done) | rfl

@[simp] theorem flipUp_policing (k : Branch) (s : Nat) (d : Device) :
    (flipUp k s d).policing = d.policing := by
  unfold flipUp
  try dsimp only
  repeat' split
  all_goals first | (simp [Device.policing_mk, Device.policing_eta]; done) | rfl

@[simp] theorem putFaulted_policing (k : Branch) (s : Nat) (d : Device) :
    (putFaulted k s d).policing = d.policing := by
  unfold putFaulted
  try dsimp only
  repeat' split
  all_goals first | (simp [Device.policing_mk, Device.policing_eta]; done) | rfl

@[simp] theorem stationSuccess_policing (k : Branch) (s : Nat) (d : Device) :
    (stationSuccess k s d).policing = d.policing := by
  unfold stationSuccess
  try dsimp only
  repeat' split
  all_goals first | (simp [Device.policing_mk, Device.policing_eta]; done) | rfl

@[simp] theorem stationFails_policing (k : Branch) (s : Nat) (d : Device) :
    (stationFails k s d).policing = d.policing := by
  unfold stationFails
  try dsimp only
  repeat' split
  all_goals first | (simp [Device.policing_mk, Device.policing_eta]; done) | rfl

@[simp] theorem stationFailure_policing (k : Branch) (s : Nat) (isProbe : Bool) (d : Device) :
    (stationFailure k s isProbe d).policing = d.policing := by
  unfold stationFailure
  try dsimp only
  repeat' split
  all_goals first | (simp [Device.policing_mk, Device.policing_eta]; done) | rfl

@[simp] theorem stationFaultReply_policing (k : Branch) (s code : Nat) (d : Device) :
    (stationFaultReply k s code d).policing = d.policing := by
  unfold stationFaultReply
  try dsimp only
  repeat' split
  all_goals first | (simp [Device.policing_mk, Device.policing_eta]; done) | rfl

@[simp] theorem reportOutcome_policing (k : Branch) (s : Nat) (isProbe : Bool) (o : Outcome) (d : Device) :
    (reportOutcome k s isProbe o d).policing = d.policing := by
  unfold reportOutcome
  try dsimp only
  repeat' split
  all_goals first | (simp [Device.policing_mk, Device.policing_eta]; done) | rfl

@[simp] theorem countDownStation_policing (k : Branch) (s : Nat) (d : Device) :
    (countDownStation k d s).policing = d.policing := by
  unfold countDownStation
  try dsimp only
  repeat' split
  all_goals first | (simp [Device.policing_mk, Device.policing_eta]; done) | rfl

@[simp] theorem countDownProbes_policing (d : Device) :
    (countDownProbes d).policing = d.policing := by
  unfold countDownProbes
  refine foldl_policing _ (fun d k => ?_) _ _
  split
  · exact foldl_policing _ (fun d s => by simp) _ _
  · rfl

@[simp] theorem clearServiced_policing (k : Branch) (d : Device) :
    (clearServiced k d).policing = d.policing := by
  unfold clearServiced
  exact foldl_policing _ (fun d x => by first | (simp; done) | (split <;> simp) | rfl) _ _

@[simp] theorem sendBranch_policing (k : Branch) (role : TxRole) (f : BranchFrame) (d : Device) :
    (sendBranch k role f d).policing = d.policing := by
  unfold sendBranch
  try dsimp only
  repeat' split
  all_goals first | (simp [Device.policing_mk, Device.policing_eta]; done) | rfl

@[simp] theorem startAttempt_policing (k : Branch) (r : InFlight) (d : Device) :
    (startAttempt k r d).policing = d.policing := by
  unfold startAttempt
  try dsimp only
  repeat' split
  all_goals first | (simp [Device.policing_mk, Device.policing_eta]; done) | rfl

@[simp] theorem startExchange_policing (k : Branch) (e : Element) (d : Device) :
    (startExchange k e d).policing = d.policing := by
  unfold startExchange
  try dsimp only
  repeat' split
  all_goals first | (simp [Device.policing_mk, Device.policing_eta]; done) | rfl

@[simp] theorem setElement_policing (k : Branch) (index : Nat) (status : ElementStatus) (d : Device) :
    (setElement k index status d).policing = d.policing := by
  unfold setElement
  try dsimp only
  repeat' split
  all_goals first | (simp [Device.policing_mk, Device.policing_eta]; done) | rfl

@[simp] theorem missElement_policing (k : Branch) (e : Element) (d : Device) :
    (missElement k d e).policing = d.policing := by
  unfold missElement
  try dsimp only
  repeat' split
  all_goals first | (simp [Device.policing_mk, Device.policing_eta]; done) | rfl

@[simp] theorem skipElement_policing (k : Branch) (e : Element) (d : Device) :
    (skipElement k d e).policing = d.policing := by
  unfold skipElement
  try dsimp only
  repeat' split
  all_goals first | (simp [Device.policing_mk, Device.policing_eta]; done) | rfl

@[simp] theorem removeHead_policing (k : Branch) (c : Class) (rest : List Entry) (d : Device) :
    (removeHead k c rest d).policing = d.policing := by
  unfold removeHead
  try dsimp only
  repeat' split
  all_goals first | (simp [Device.policing_mk, Device.policing_eta]; done) | rfl

@[simp] theorem sweepQueue_policing (k : Branch) (c : Class) (q : List Entry) (d : Device) :
    (sweepQueue k c q d).policing = d.policing := by
  induction q generalizing d with
  | nil => simp [sweepQueue]
  | cons x xs ih =>
    simp only [sweepQueue]
    repeat' split
    all_goals first | (simp [ih]; done) | rfl

@[simp] theorem sweepClass_policing (k : Branch) (c : Class) (d : Device) :
    (sweepClass k d c).policing = d.policing := by
  unfold sweepClass
  try dsimp only
  repeat' split
  all_goals first | (simp [Device.policing_mk, Device.policing_eta]; done) | rfl

@[simp] theorem sweep_policing (k : Branch) (d : Device) :
    (sweep k d).policing = d.policing := by
  unfold sweep
  exact foldl_policing _ (fun d x => by first | (simp; done) | (split <;> simp) | rfl) _ _

@[simp] theorem startDeliver_policing (k : Branch) (c : Class) (d : Device) :
    (startDeliver k c d).policing = d.policing := by
  unfold startDeliver
  try dsimp only
  repeat' split
  all_goals first | (simp [Device.policing_mk, Device.policing_eta]; done) | rfl

@[simp] theorem markServiced_policing (k : Branch) (s : Nat) (d : Device) :
    (markServiced k s d).policing = d.policing := by
  unfold markServiced
  try dsimp only
  repeat' split
  all_goals first | (simp [Device.policing_mk, Device.policing_eta]; done) | rfl

@[simp] theorem startService_policing (k : Branch) (d : Device) :
    (startService k d).policing = d.policing := by
  unfold startService
  try dsimp only
  repeat' split
  all_goals first | (simp [Device.policing_mk, Device.policing_eta]; done) | rfl

@[simp] theorem startProbe_policing (k : Branch) (s : Nat) (d : Device) :
    (startProbe k s d).policing = d.policing := by
  unfold startProbe
  try dsimp only
  repeat' split
  all_goals first | (simp [Device.policing_mk, Device.policing_eta]; done) | rfl

@[simp] theorem setSeqState_policing (k : Branch) (st : SeqState) (d : Device) :
    (setSeqState k st d).policing = d.policing := by
  unfold setSeqState
  try dsimp only
  repeat' split
  all_goals first | (simp [Device.policing_mk, Device.policing_eta]; done) | rfl

@[simp] theorem startPick_policing (k : Branch) (s : Source) (d : Device) :
    (startPick k s d).policing = d.policing := by
  unfold startPick
  try dsimp only
  repeat' split
  all_goals first | (simp [Device.policing_mk, Device.policing_eta]; done) | rfl

@[simp] theorem selectBranch_policing (k : Branch) (d : Device) :
    (selectBranch k d).policing = d.policing := by
  unfold selectBranch
  try dsimp only
  repeat' split
  all_goals first | (simp [Device.policing_mk, Device.policing_eta]; done) | rfl

@[simp] theorem aperiodicStep_policing (k : Branch) (d : Device) :
    (aperiodicStep k d).policing = d.policing := by
  unfold aperiodicStep
  try dsimp only
  repeat' split
  all_goals first | (simp [Device.policing_mk, Device.policing_eta]; done) | rfl

@[simp] theorem periodicStep_policing (k : Branch) (es : List Element) (d : Device) :
    (periodicStep k es d).policing = d.policing := by
  induction es generalizing d with
  | nil => simp [periodicStep]
  | cons x xs ih =>
    simp only [periodicStep]
    repeat' split
    all_goals first | (simp [ih]; done) | rfl

@[simp] theorem wakeBranch_policing (k : Branch) (d : Device) :
    (wakeBranch k d).policing = d.policing := by
  unfold wakeBranch
  try dsimp only
  repeat' split
  all_goals first | (simp [Device.policing_mk, Device.policing_eta]; done) | rfl

@[simp] theorem beginCycle_policing (k : Branch) (cycle : Cycle) (deadline : Nat) (d : Device) :
    (beginCycle k cycle deadline d).policing = d.policing := by
  unfold beginCycle
  exact (sendBranch_policing ..).trans ((bumpLine_policing ..).trans ((setSeq_policing ..).trans
    ((clearServiced_policing ..).trans (foldl_policing _ (fun d x => missElement_policing k x d) _ _))))

@[simp] theorem deferCycle_policing (k : Branch) (cycle : Cycle) (deadline : Nat) (d : Device) :
    (deferCycle k cycle deadline d).policing = d.policing := by
  unfold deferCycle
  try dsimp only
  repeat' split
  all_goals first | (simp [Device.policing_mk, Device.policing_eta]; done) | rfl

@[simp] theorem branchCycleStart_policing (k : Branch) (cycle : Cycle) (deadline : Nat) (d : Device) :
    (branchCycleStart cycle deadline d k).policing = d.policing := by
  unfold branchCycleStart
  try dsimp only
  repeat' split
  all_goals first | (simp [Device.policing_mk, Device.policing_eta]; done) | rfl

@[simp] theorem abandonContext_policing (reason : LineCounter) (c : Context) (d : Device) :
    (abandonContext reason d c).policing = d.policing := by
  unfold abandonContext
  try dsimp only
  repeat' split
  all_goals first | (simp [Device.policing_mk, Device.policing_eta]; done) | rfl

@[simp] theorem flushContexts_policing (k : Branch) (d : Device) :
    (flushContexts k d).policing = d.policing := by
  unfold flushContexts
  exact foldl_policing _ (fun d x => by first | (simp; done) | (split <;> simp) | rfl) _ _

@[simp] theorem resetCredits_policing (l : Line) (d : Device) :
    (resetCredits l d).policing = d.policing := by
  unfold resetCredits
  try dsimp only
  repeat' split
  all_goals first | (simp [Device.policing_mk, Device.policing_eta]; done) | rfl

@[simp] theorem cancelReleases_policing (l : Line) (d : Device) :
    (cancelReleases l d).policing = d.policing := by
  unfold cancelReleases
  try dsimp only
  repeat' split
  all_goals first | (simp [Device.policing_mk, Device.policing_eta]; done) | rfl

@[simp] theorem shutBranch_policing (k : Branch) (d : Device) :
    (shutBranch k d).policing = d.policing := by
  unfold shutBranch
  try dsimp only
  repeat' split
  all_goals first | (simp [Device.policing_mk, Device.policing_eta]; done) | rfl

@[simp] theorem discardArriving_policing (a : Arriving) (r : Reason) (d : Device) :
    (discardArriving a r d).policing = d.policing := by
  unfold discardArriving
  try dsimp only
  repeat' split
  all_goals first | (simp [Device.policing_mk, Device.policing_eta]; done) | rfl

@[simp] theorem claimTrunk_policing (a : Arriving) (c : Circuit) (payload : List Byte) (n : Nat) (d : Device) :
    (claimTrunk a c payload n d).policing = d.policing := by
  unfold claimTrunk
  try dsimp only
  repeat' split
  all_goals first | (simp [Device.policing_mk, Device.policing_eta]; done) | rfl

@[simp] theorem completeDescriptor_policing (ref : Nat) (c : Circuit) (n : Nat) (d : Device) :
    (completeDescriptor ref c n d).policing = d.policing := by
  unfold completeDescriptor
  try dsimp only
  repeat' split
  all_goals first | (simp [Device.policing_mk, Device.policing_eta]; done) | rfl

@[simp] theorem settleBlocks_policing (a : Arriving) (c : Circuit) (n : Nat) (d : Device) :
    (settleBlocks a c n d).policing = d.policing := by
  unfold settleBlocks
  try dsimp only
  repeat' split
  all_goals first | (simp [Device.policing_mk, Device.policing_eta]; done) | rfl

@[simp] theorem enqueue_policing (c : Circuit) (cid ref : Nat) (q : Class) (l : Line) (d : Device) :
    (enqueue c cid ref q d l).policing = d.policing := by
  unfold enqueue
  try dsimp only
  repeat' split
  all_goals first | (simp [Device.policing_mk, Device.policing_eta]; done) | rfl

@[simp] theorem notice_policing (l : Line) (d : Device) :
    (notice d l).policing = d.policing := by
  unfold notice
  try dsimp only
  repeat' split
  all_goals first | (simp [Device.policing_mk, Device.policing_eta]; done) | rfl

@[simp] theorem placeAperiodic_policing (c : Circuit) (cid ref : Nat) (q : Class) (lines : List Line) (d : Device) :
    (placeAperiodic c cid ref q lines d).policing = d.policing := by
  unfold placeAperiodic
  rw [foldl_policing _ (fun d x => by simp), foldl_policing _ (fun d x => by simp)]

@[simp] theorem placePeriodic_policing (cid ref : Nat) (l : Line) (d : Device) :
    (placePeriodic cid ref l d).policing = d.policing := by
  unfold placePeriodic
  try dsimp only
  repeat' split
  all_goals first | (simp [Device.policing_mk, Device.policing_eta]; done) | rfl

@[simp] theorem acceptFrame_policing (a : Arriving) (c : Circuit) (d : Device) :
    (acceptFrame a c d).policing = d.policing := by
  unfold acceptFrame
  try dsimp only
  repeat' split
  all_goals first | (simp [Device.policing_mk, Device.policing_eta]; done) | rfl


end Steady

end Sys2Proof.Machine
end

