-- ==== Sys2Proof/Laws/Wire.lean ====
section
/-! SUPPORT. The laws of the wire layouts: bytes and fields, the two checks, and that every frame
the layouts build passes the checks of R8 with the values it was built from. -/

namespace Sys2Proof.Machine

theorem byteOf_toNat {n : Nat} (h : n < 256) : (byteOf n).toNat = n := by
  simp [byteOf]
  omega

@[simp] theorem byteOf_toNat_mod (n : Nat) : (byteOf n).toNat = n % 256 := by simp [byteOf]

@[simp] theorem be2_length (n : Nat) : (be2 n).length = 2 := rfl

@[simp] theorem be4_length (n : Nat) : (be4 n).length = 4 := rfl

theorem sumBytes_append (a b : List Byte) : sumBytes (a ++ b) = sumBytes a + sumBytes b := by
  induction a with
  | nil => simp [sumBytes]
  | cons x xs ih =>
    simp only [List.cons_append, sumBytes, ih]
    omega

/-- A sealed header sums to a multiple of 256 (R6). -/
theorem headerSumOk_sealHeader (h : List Byte) : headerSumOk (sealHeader h) = true := by
  simp only [headerSumOk, sealHeader, sumBytes_append, headerCheck, sumBytes, byteOf_toNat_mod,
    beq_iff_eq]
  omega

/-- Reading at an offset in the second of two runs of bytes. -/
theorem rd1_append_right (a b : List Byte) (i : Nat) : rd1 (a ++ b) (a.length + i) = rd1 b i := by
  simp [rd1, List.getD_eq_getElem?_getD, List.getElem?_append_right]

theorem rd2_append_right (a b : List Byte) (i : Nat) : rd2 (a ++ b) (a.length + i) = rd2 b i := by
  simp only [rd2, Nat.add_assoc, rd1_append_right]

theorem rd2_be2 {n : Nat} (h : n < 65536) : rd2 (be2 n) 0 = n := by
  simp [rd2, rd1, be2]
  omega

/-- The bytes of a trunk DATA frame, header first. -/
theorem trunkData_eq (cid priority : Nat) (payload : List Byte) :
    trunkData cid priority payload =
      byteOf 2 :: byteOf (cid / 256) :: byteOf cid :: byteOf priority ::
        byteOf (payload.length / 256) :: byteOf payload.length ::
        headerCheck ([byteOf 2] ++ be2 cid ++ [byteOf priority] ++ be2 payload.length) ::
        withCheck payload := rfl

theorem withCheck_length (payload : List Byte) :
    (withCheck payload).length = if payload.length = 0 then 0 else payload.length + 2 := by
  unfold withCheck
  split <;> simp

theorem trunkData_length (cid priority : Nat) (payload : List Byte) :
    (trunkData cid priority payload).length = frameSize payload.length := by
  rw [trunkData_eq]
  simp only [List.length_cons, withCheck_length, frameSize]
  split <;> omega

/-- The payload check of a run of bytes that ends in a payload with its check (R7). -/
theorem rd2_withCheck (payload : List Byte) (h : payload.length ≠ 0) :
    rd2 (withCheck payload) payload.length = (crc16 payload).toNat := by
  have := rd2_append_right payload (be2 (crc16 payload).toNat) 0
  simp only [withCheck, h, if_false, Nat.add_zero] at this ⊢
  rw [this]
  exact rd2_be2 (crc16 payload).isLt

theorem take_withCheck (payload : List Byte) :
    (withCheck payload).take payload.length = payload := by
  unfold withCheck
  split
  · simp_all
  · simp

/-- The byte count and the payload check of a frame with a seven-byte header hold (R8). -/
theorem checkPayload_header {α : Type} (h : List Byte) (payload : List Byte)
    (frame : List Byte → α) (hl : h.length = 7) :
    checkPayload { stored := h ++ withCheck payload, count := (h ++ withCheck payload).length }
      payload.length frame = .passed (frame payload) := by
  have hdrop : (h ++ withCheck payload).drop 7 = withCheck payload := by
    rw [← hl]
    simp
  have hcount : (h ++ withCheck payload).length = frameSize payload.length := by
    simp only [List.length_append, hl, withCheck_length, frameSize]
    split <;> omega
  have hread (hne : payload.length ≠ 0) :
      rd2 (h ++ withCheck payload) (7 + payload.length) = (crc16 payload).toNat := by
    rw [← hl, rd2_append_right, rd2_withCheck payload hne]
  unfold checkPayload
  simp only [hdrop, take_withCheck, hcount, ne_eq, not_true, if_false]
  split
  · rename_i hbad
    exact absurd (hread hbad.1) hbad.2
  · rfl

/-- A trunk DATA frame the layout builds passes the checks with its own values (R3, R8). -/
theorem checkTrunk_trunkData {cid priority : Nat} {payload : List Byte} (hc : cid ≤ 4095)
    (hp : priority ≤ 7) (hl : payload.length ≤ Config.maxPayload) :
    checkTrunk { stored := (trunkData cid priority payload).take Config.trunkBuffer,
                 count := (trunkData cid priority payload).length } =
      .passed (.data cid priority payload) := by
  have hl' : payload.length ≤ 1024 := hl
  have hlen := trunkData_length cid priority payload
  have htake : (trunkData cid priority payload).take Config.trunkBuffer =
      trunkData cid priority payload := by
    apply List.take_of_length_le
    rw [hlen]
    unfold frameSize
    split <;> simp [Config.trunkBuffer] <;> omega
  rw [htake]
  have hsplit : trunkData cid priority payload =
      sealHeader ([byteOf 2] ++ be2 cid ++ [byteOf priority] ++ be2 payload.length) ++
        withCheck payload := rfl
  have hh7 : (sealHeader ([byteOf 2] ++ be2 cid ++ [byteOf priority] ++
      be2 payload.length)).length = 7 := rfl
  have h7 : 7 ≤ (trunkData cid priority payload).length := by
    rw [hlen]
    unfold frameSize
    split <;> omega
  have r0 : rd1 (trunkData cid priority payload) 0 = 2 := by simp [trunkData_eq, rd1]
  have r1 : rd2 (trunkData cid priority payload) 1 = cid := by
    simp [trunkData_eq, rd2, rd1]
    omega
  have r3 : rd1 (trunkData cid priority payload) 3 = priority := by
    simp [trunkData_eq, rd1]
    omega
  have r4 : rd2 (trunkData cid priority payload) 4 = payload.length := by
    simp [trunkData_eq, rd2, rd1]
    omega
  have hsum : headerSumOk ((trunkData cid priority payload).take 7) = true := by
    rw [hsplit, ← hh7, List.take_left]
    exact headerSumOk_sealHeader _
  have hpay := checkPayload_header _ payload (fun p => TrunkFrame.data cid priority p) hh7
  rw [← hsplit] at hpay
  unfold checkTrunk
  have hm : Config.maxPayload = 1024 := rfl
  simp only [r0, r1, r3, r4, hsum, hm]
  rw [if_neg (by omega), if_neg (by omega), if_pos trivial, if_neg, if_neg, hpay]
  · simp
    omega
  · simp
    omega

/-- A trunk CYCLE frame the layout builds passes the checks with its own number (R3, R8). -/
theorem checkTrunk_trunkCycle (number : Cycle) :
    checkTrunk { stored := (trunkCycle number).take Config.trunkBuffer,
                 count := (trunkCycle number).length } = .passed (.cycle number) := by
  have hb : trunkCycle number = [byteOf 1, byteOf (number.toNat / 256), byteOf number.toNat,
      headerCheck ([byteOf 1] ++ be2 number.toNat)] := rfl
  have hlen : (trunkCycle number).length = 4 := rfl
  have htake : (trunkCycle number).take Config.trunkBuffer = trunkCycle number := rfl
  have h4 : (trunkCycle number).take 4 = trunkCycle number := rfl
  have hsum : headerSumOk (trunkCycle number) = true := headerSumOk_sealHeader _
  have r0 : rd1 (trunkCycle number) 0 = 1 := by simp [hb, rd1]
  have r1 : rd2 (trunkCycle number) 1 = number.toNat := by
    have := number.isLt
    simp [hb, rd2, rd1]
    omega
  unfold checkTrunk
  simp [htake, hlen, h4, hsum, r0, r1]

end Sys2Proof.Machine
end

