-- ==== Sys2Proof/Laws/Settle.lean ====
section
/-! SUPPORT. What the end of an event does: nothing on a quiet part, the sending of an ATTENTION
after an event is raised on one, and the performing and answering of a request that finds the
Endpoint with nothing in hand. -/

namespace Sys2Proof.Machine

/-! ### Nothing to do -/

theorem greatest_nil (credit : Source → Nat) : greatest credit [] = none := rfl

/-- A selection with no eligible source chooses nothing (R93). -/
theorem selectSource_none (ls : LineSettings) (credits : Credits) {eligible : Source → Bool}
    (h : ∀ s, eligible s = false) : selectSource ls credits eligible = none := by
  unfold selectSource
  split
  · have : strictRank.find? eligible = none := by simp [h]
    rw [this]
    rfl
  · have : weightedRank.filter eligible = [] := by simp [h]
    simp [this, greatest]

/-- With its four queues empty T selects nothing (R93, R98). -/
theorem trunkSelect_empty {d : Device} (h : ∀ c, d.queue .t c = []) : trunkSelect d = d := by
  have hn : ∀ s, d.trunkEligible s = false := by
    intro s
    cases s <;> simp [Device.trunkEligible, h]
  unfold trunkSelect
  rw [selectSource_none _ _ hn]

theorem trunkChoose_quiet {d : Device} (hs : d.endpoint.slot = none) (hq : d.trunkQuiet) :
    trunkChoose d = d := by
  unfold trunkChoose
  rcases htx : d.trunkTx with _ | tx
  · rw [hs]
    dsimp only
    split
    · rename_i hopen
      rcases hq with h | h | ⟨h1, h2⟩
      · exact absurd htx h
      · rw [hopen] at h
        cases h
      · rw [h1]
        exact trunkSelect_empty h2
    · rfl
  · rfl

theorem trunkChoose_sending {d : Device} {tx : TrunkSending} (h : d.trunkTx = some tx) :
    trunkChoose d = d := by
  unfold trunkChoose
  rw [h]

theorem fillSlot_full {d : Device} {r : MgmtRecord} (h : d.endpoint.slot = some r) :
    fillSlot d = d := by
  unfold fillSlot
  rw [h]

/-- While T sends and the slot is full the end of an event changes nothing. -/
theorem settle_full {d : Device} {r : MgmtRecord} {tx : TrunkSending}
    (hs : d.endpoint.slot = some r) (ht : d.trunkTx = some tx) : settle d = d := by
  have h1 := fillSlot_full hs
  have h2 := trunkChoose_sending ht
  unfold settle
  rw [h1, h2, h1, h2]

/-- An Endpoint with nothing in hand, but for a request in progress that is not ready, fills no
slot (R171). -/
theorem fillSlot_idle {d : Device} (hs : d.endpoint.slot = none)
    (hr : ∀ b, d.endpoint.inProgress ≠ some (.ready b)) (hq : d.endpoint.queue = [])
    (ha : d.endpoint.attnPending = false) : fillSlot d = d := by
  unfold fillSlot
  rw [hs]
  rcases hp : d.endpoint.inProgress with _ | p
  · dsimp only
    rw [if_neg (by simp [ha]), hq]
    unfold takeHead
    rw [← hq]
  · cases p with
    | setLine k op tag =>
      dsimp only
      unfold placeAttention
      rw [hs, hp]
      simp [ha]
    | ready b => exact absurd hp (hr b)
    | restart => rfl

/-- A ready response goes into the empty slot before anything else, and the request is then no longer
in progress (R171, step 1). -/
theorem fillSlot_response {d : Device} {response : List Byte} (hs : d.endpoint.slot = none)
    (hp : d.endpoint.inProgress = some (.ready response)) :
    fillSlot d = { d with endpoint := { d.endpoint with
      slot := some { bytes := response, isRestart := false }, inProgress := none } } := by
  unfold fillSlot
  rw [hs, hp]

theorem fillSlot_ready {d : Device} (h : d.mgmtReady) : fillSlot d = d :=
  fillSlot_idle h.1 (by simp [h.2.1]) h.2.2.1 h.2.2.2

/-- The end of an event leaves a quiet part as it is. -/
theorem settle_quiet {d : Device} (hm : d.mgmtReady) (hq : d.trunkQuiet) : settle d = d := by
  unfold settle
  rw [fillSlot_ready hm, trunkChoose_quiet hm.1 hq, fillSlot_ready hm, trunkChoose_quiet hm.1 hq]

/-! ### An event raised on a quiet part -/

theorem joinEvent_slot (e : Event) (d : Device) :
    (joinEvent e d).endpoint.slot = d.endpoint.slot := by
  unfold joinEvent
  dsimp only
  split <;> rfl

theorem joinEvent_inProgress (e : Event) (d : Device) :
    (joinEvent e d).endpoint.inProgress = d.endpoint.inProgress := by
  unfold joinEvent
  dsimp only
  split <;> rfl

theorem joinEvent_queue (e : Event) (d : Device) :
    (joinEvent e d).endpoint.queue = d.endpoint.queue := by
  unfold joinEvent
  dsimp only
  split <;> rfl

theorem joinEvent_trunkTx (e : Event) (d : Device) : (joinEvent e d).trunkTx = d.trunkTx := by
  unfold joinEvent
  dsimp only
  split <;> rfl

theorem joinEvent_trunkQuiet (e : Event) {d : Device} (h : d.trunkQuiet) :
    (joinEvent e d).trunkQuiet := by
  unfold joinEvent
  dsimp only
  split <;> exact h

/-! ### A request that finds the Endpoint with nothing in hand -/

/-- A record that comes into the empty slot goes to an idle transmitter at once, and the slot rule
then finds nothing more to do (R98, R171). -/
theorem settle_answered {d : Device} (bytes : List Byte) (isRestart : Bool)
    (hr : ∀ b, d.endpoint.inProgress ≠ some (.ready b)) (hs : d.endpoint.slot = none)
    (hq : d.endpoint.queue = []) (ha : d.endpoint.attnPending = false) :
    trunkChoose (fillSlot (trunkChoose { d with endpoint := { d.endpoint with
      slot := some { bytes := bytes, isRestart := isRestart } } })) =
      d.answered bytes isRestart := by
  rcases Option.eq_none_or_eq_some d.trunkTx with htx | ⟨tx, htx⟩
  · have h1 : trunkChoose { d with endpoint := { d.endpoint with
        slot := some { bytes := bytes, isRestart := isRestart } } } =
        d.answered bytes isRestart := by
      unfold trunkChoose startRecord Device.answered
      simp only [htx]
      rw [← hs]
    have h2 : d.answered bytes isRestart =
        { d with trunkTx := some { holds := .record isRestart,
                                   wire := trunkData Config.managementCid 0 bytes } } := by
      unfold Device.answered
      rw [htx]
    rw [h1, fillSlot_idle, trunkChoose_sending (tx := _) (by rw [h2])]
    · rw [h2]
      exact hs
    · rw [h2]
      exact hr
    · rw [h2]
      exact hq
    · rw [h2]
      exact ha
  · have h1 : d.answered bytes isRestart = { d with endpoint := { d.endpoint with
        slot := some { bytes := bytes, isRestart := isRestart } } } := by
      unfold Device.answered
      rw [htx]
    rw [← h1]
    have h2 : trunkChoose (d.answered bytes isRestart) = d.answered bytes isRestart :=
      trunkChoose_sending (tx := tx) (by rw [h1]; exact htx)
    have h3 : fillSlot (d.answered bytes isRestart) = d.answered bytes isRestart :=
      fillSlot_full (by rw [h1])
    rw [h2, h3, h2]

/-! ### The end of an event that may have called for an ATTENTION -/

/-- An Endpoint with nothing in hand but a pending ATTENTION places it (R171). -/
theorem fillSlot_attention {d : Device} (hs : d.endpoint.slot = none)
    (hp : d.endpoint.inProgress = none) (ha : d.endpoint.attnPending = true) :
    fillSlot d = { d with endpoint := { d.endpoint with
      slot := some { bytes := attentionRecord d, isRestart := false }, attnPending := false } } := by
  unfold fillSlot placeAttention
  simp [hs, hp, ha]

/-- The end of an event that leaves the Endpoint with at most a pending ATTENTION: the ATTENTION is
built, and an idle transmitter sends it at once (R98, R171, R176). -/
theorem settle_attention {d : Device} (hs : d.endpoint.slot = none)
    (hp : d.endpoint.inProgress = none) (hq : d.endpoint.queue = []) (ht : d.trunkQuiet) :
    settle d = d.attended := by
  unfold Device.attended
  split
  · rename_i ha
    unfold settle
    rw [fillSlot_attention hs hp ha]
    exact settle_answered (d := { d with endpoint := { d.endpoint with attnPending := false } })
      (attentionRecord d) false (by simp [hp]) hs hq rfl
  · rename_i ha
    exact settle_quiet ⟨hs, hp, hq, Bool.eq_false_iff.2 ha⟩ ht

/-- An event raised on a part with nothing in hand: its record joins the list, and the ATTENTION it
calls for is placed at the end of the event (R171, R175, R176). -/
theorem settle_raiseEvent (kind : EventKind) (line : Option Line) (station : Option Nat)
    (detail : Nat) {d : Device} (hm : d.mgmtReady) (hq : d.trunkQuiet) :
    settle (raiseEvent kind line station detail d) =
      (raiseEvent kind line station detail d).attended :=
  settle_attention ((joinEvent_slot _ _).trans hm.1) ((joinEvent_inProgress _ _).trans hm.2.1)
    ((joinEvent_queue _ _).trans hm.2.2.1) (joinEvent_trunkQuiet _ hq)

/-! ### Reading a request's record -/

theorem requestRecord_length (op : Op) (r : Request) :
    (requestRecord op r).length = 11 + r.entries.length := by
  simp [requestRecord]
  omega

theorem requestRecord_eq (op : Op) (r : Request) :
    requestRecord op r = r.node :: byteOf op.code :: byteOf (r.tag.toNat / 256) ::
      byteOf r.tag.toNat :: r.unit :: byteOf (r.index.toNat / 256) :: byteOf r.index.toNat ::
      r.count :: r.argA :: byteOf (r.argB.toNat / 256) :: byteOf r.argB.toNat :: r.entries := rfl

theorem opCode_lt (op : Op) : op.code < 256 := by cases op <;> decide

theorem ofCode_code (op : Op) : Op.ofCode op.code = some op := by cases op <;> rfl

section Fields

variable (op : Op) (r : Request)

@[simp] theorem requestRecord_node : rd1 (requestRecord op r) 0 = r.node.toNat := by
  simp [requestRecord_eq, rd1]

@[simp] theorem requestRecord_op : rd1 (requestRecord op r) 1 = op.code := by
  cases op <;> simp [requestRecord_eq, rd1, Op.code]

@[simp] theorem requestRecord_tag : rdN (requestRecord op r) 2 2 = be2 r.tag.toNat := by
  simp [requestRecord_eq, rdN, be2]

@[simp] theorem requestRecord_unit : rd1 (requestRecord op r) 4 = r.unit.toNat := by
  simp [requestRecord_eq, rd1]

@[simp] theorem requestRecord_index : rd2 (requestRecord op r) 5 = r.index.toNat := by
  have := r.index.isLt
  simp [requestRecord_eq, rd2, rd1]
  omega

@[simp] theorem requestRecord_count : rd1 (requestRecord op r) 7 = r.count.toNat := by
  simp [requestRecord_eq, rd1]

@[simp] theorem requestRecord_argA : rd1 (requestRecord op r) 8 = r.argA.toNat := by
  simp [requestRecord_eq, rd1]

@[simp] theorem requestRecord_argB : rd2 (requestRecord op r) 9 = r.argB.toNat := by
  have := r.argB.isLt
  simp [requestRecord_eq, rd2, rd1]
  omega

@[simp] theorem requestRecord_entries : (requestRecord op r).drop 11 = r.entries := by
  simp [requestRecord_eq]

/-- The format checks of a request's record in terms of its fields (R172). -/
theorem requestCheck_requestRecord :
    requestCheck (requestRecord op r) =
      if !countOk op r.count.toNat then .error .badFormat
      else match requestSize op r.unit.toNat r.count.toNat with
        | none => .ok op
        | some n => if 11 + r.entries.length = n then .ok op else .error .badFormat := by
  unfold requestCheck
  rw [if_neg (by simp [requestRecord_length])]
  simp only [requestRecord_op, ofCode_code, requestRecord_count, requestRecord_unit,
    requestRecord_length] <;>
  · split
    · rfl
    · cases requestSize op r.unit.toNat r.count.toNat <;> rfl

end Fields

/-! ### The arrival of a request -/

/-- The record of a request fits the payload of a trunk frame (R3). -/
theorem requestRecord_fits (op : Op) {r : Request} (h : r.fits = true) :
    (requestRecord op r).length ≤ Config.maxPayload := by
  rw [requestRecord_length]
  simp only [Request.fits, decide_eq_true_eq] at h
  omega

/-- A request frame passes the line checks, and its record reaches the Endpoint (R8, R33). -/
theorem trunkArrival_requestFrame (op : Op) {r : Request} (h : r.fits = true) (now : Nat)
    (d : Device) :
    trunkArrival (requestFrame op r) { d with now := now } =
      requestArrival (requestRecord op r) (d.arrived now (requestFrame op r)) := by
  have hc : checkTrunk ((collect .t Config.trunkBuffer (requestFrame op r)
      { d with now := now }).lineIf .t).rx =
      .passed (.data Config.managementCid 0 (requestRecord op r)) := by
    have := checkTrunk_trunkData (cid := Config.managementCid) (priority := 0)
      (payload := requestRecord op r) (by decide) (by decide) (requestRecord_fits op h)
    exact this
  unfold trunkArrival
  dsimp only
  rw [hc]
  rfl

theorem addressed_requestRecord (op : Op) (r : Request) (d : Device) :
    d.addressed (requestRecord op r) = true ↔ d.hears r := by
  unfold Device.addressed Device.hears
  rw [requestRecord_node]
  simp [requestRecord_eq]

/-- An empty slot with nothing before the queue takes the queue's head (R171). -/
theorem fillSlot_take {d : Device} (hs : d.endpoint.slot = none)
    (hp : d.endpoint.inProgress = none) (ha : d.endpoint.attnPending = false) :
    fillSlot d = takeHead d.endpoint.queue d := by
  unfold fillSlot
  rw [hs, hp]
  simp [ha]

/-- A record that joins the queue of an Endpoint with nothing in hand is performed (R171). -/
theorem fillSlot_queued {d : Device} (bs : List Byte) (h : d.mgmtReady)
    (ha : d.addressed bs = true) :
    fillSlot { d with endpoint := { d.endpoint with queue := d.endpoint.queue ++ [bs] } } =
      performHead bs d := by
  obtain ⟨h1, h2, h3, h4⟩ := h
  have hd : { d with endpoint := { d.endpoint with queue := [] } } = d := by rw [← h3]
  rw [fillSlot_take (by exact h1) (by exact h2) (by exact h4)]
  have hq : d.endpoint.queue ++ [bs] = [bs] := by rw [h3]; rfl
  have ht : takeHead [bs] { d with endpoint := { d.endpoint with queue := [bs] } } =
      if d.addressed bs then performHead bs { d with endpoint := { d.endpoint with queue := [] } }
      else takeHead [] (countNotMine { d with endpoint := { d.endpoint with queue := [] } }) := rfl
  rw [if_pos ha, hd] at ht
  dsimp only
  rw [hq]
  exact ht

/-- A request that is for a part whose Endpoint has nothing in hand is performed in the event of
its arrival (R170, R171). -/
theorem requestEvent_ready (now : Nat) (op : Op) (r : Request) {d : Device}
    (hin : d.inReset = false) (hm : d.mgmtReady) (ha : d.hears r) (hf : r.fits = true) :
    requestEvent now op r d =
      trunkChoose (fillSlot (trunkChoose
        (performHead (requestRecord op r) (d.arrived now (requestFrame op r))))) := by
  obtain ⟨h1, h2, h3, h4⟩ := hm
  have hadr : (d.arrived now (requestFrame op r)).addressed (requestRecord op r) = true :=
    (addressed_requestRecord op r _).2 ha
  unfold requestEvent Device.event
  rw [if_neg (by simp [hin]), trunkArrival_requestFrame op hf]
  have hj : requestArrival (requestRecord op r) (d.arrived now (requestFrame op r)) =
      { d.arrived now (requestFrame op r) with
        endpoint := { (d.arrived now (requestFrame op r)).endpoint with
          queue := (d.arrived now (requestFrame op r)).endpoint.queue ++ [requestRecord op r] } } := by
    have hq : ¬ Config.maxRequests ≤ (d.arrived now (requestFrame op r)).endpoint.queue.length := by
      have : (d.arrived now (requestFrame op r)).endpoint.queue = [] := h3
      rw [this]
      simp [Config.maxRequests]
    unfold requestArrival
    rw [hadr, if_neg (by simp), if_neg hq]
  have hf := fillSlot_queued (d := d.arrived now (requestFrame op r)) (requestRecord op r)
    ⟨h1, h2, h3, h4⟩ hadr
  unfold settle
  rw [hj]
  exact congrArg (fun x => trunkChoose (fillSlot (trunkChoose x))) hf

end Sys2Proof.Machine
end

