-- ==== Sys2Proof/Tests/Slice0.lean ====
section
/-! SUPPORT. Small tests of the model: ill-formed commands are refused by the check, the spec's own
wire examples, one step of several commands, and for every statement with hypotheses a state and
operands that meet them, clause by clause. -/

namespace Sys2Proof.Tests

open Sys2Proof Sys2Proof.Machine

/-! ### States the tests start from -/

/-- The part right after reset: T is in MGMT_ONLY and every branch is SHUT. -/
def part : Device := State.reset.dev

/-- A part with no command waiting. -/
def st (d : Device) : State := { dev := d, pending := [] }

/-- The part while the reset input is asserted. -/
def held : Device := { part with inReset := true }

/-- A record in transmission on T. -/
def record : TrunkSending := { holds := .record false, wire := [] }

/-- The part with T in OPEN and sending. -/
def open1 : Device := { part with trunkAdm := .opened, trunkTx := some record }

/-- A request for every part, without entries. -/
def ask : Request :=
  { node := 63, tag := 7, unit := 0, index := 0, count := 1, argA := 0, argB := 0, entries := [] }

/-- A branch DATA frame of one byte from station 1. -/
def data1 : BranchFrame :=
  { kind := .data, station := 1, toggle := false, resync := false, fresh := false,
    position := .only, field := 5, payload := [0x31] }

/-- A branch DATA frame of 128 bytes from station 30 with the largest CID. -/
def data128 (p : Position) : BranchFrame :=
  { kind := .data, station := 30, toggle := false, resync := false, fresh := false,
    position := p, field := 61439, payload := List.replicate 128 0 }

/-- An APERIODIC circuit from T to station 1 of B0. -/
def down : Circuit :=
  { kind := .aperiodic, ingressLine := .t, ingressStation := none,
    egress := { PerLine.all false with b0 := true }, egressStation := some 1,
    classSource := .fixed, fixedClass := .c1, meter := none, egressCid := none,
    maxLength := 1024 }

/-- A PERIODIC circuit from T to station 1 of B0. -/
def downPeriodic : Circuit := { down with kind := .periodic, maxLength := 128 }

/-- A PERIODIC circuit from station 1 of B0 to T. -/
def upPeriodic : Circuit :=
  { downPeriodic with
    ingressLine := .b0, ingressStation := some 1, egressStation := none,
    egress := { PerLine.all false with t := true } }

/-- An APERIODIC circuit from station 1 of B0 to T. -/
def up : Circuit := { upPeriodic with kind := .aperiodic }

/-- A part with the last circuit of the table present. -/
def withCircuit (c : Circuit) (d : Device) : Device :=
  { d with tables := { d.tables with circuits := ⟨[(4094, c)]⟩ } }

/-- A part with B0 in OPEN. -/
def withB0 (d : Device) : Device := d.setAdmission .b0 .opened

/-- An ACK and a BUSY frame from station 1. -/
def ack1 : BranchFrame := BranchFrame.bare .ack 1 false 0

def busy1 : BranchFrame := BranchFrame.bare .busy 1 false 0

/-- An EMPTY and a FAULT frame from station 1. -/
def empty1 : BranchFrame := BranchFrame.bare .empty 1 false 0

def fault1 : BranchFrame := { empty1 with kind := .fault, payload := [7] }

/-- A part with a meter's settings and levels at index 63. -/
def withMeter (s : MeterSettings) (m : MeterState) (d : Device) : Device :=
  { d with
    tables := { d.tables with meters := ⟨[(63, s)]⟩ },
    meters := ⟨[(63, m)]⟩ }

/-- A held frame of one byte in block 0. -/
def frame0 (refs : Nat) : Frame :=
  { chain := [{ number := 0, data := [0x31] }], length := 1, cid := 4094, priority := 0,
    ingress := .t, refs := refs, shared := false, fillCycle := some 0 }

/-- A part that holds one frame. -/
def withFrame (refs : Nat) (d : Device) : Device :=
  { d with pool := { d.pool with
      free := [1, 2, 3], frames := ⟨[(0, frame0 refs)]⟩, usage := { PerLine.all 0 with t := 1 } } }

/-- A class queue entry of the held frame for station 1. -/
def entry0 : Entry := { frame := 0, egressCid := 4094, station := some 1, busy := 0, nextSegment := 1 }

/-- A timer that is LOCKED at cycle 65535, with its early threshold and lock-window expiry. -/
def locked : Timer :=
  { state := .locked, cycle := 65535, miss := 0, lastStart := some 0,
    expiry := some (.lockWindow 950000 1050000) }

/-- A timer in COASTING or FREE. -/
def coasting (s : TimerState) : Timer :=
  { state := s, cycle := 65535, miss := 65535, lastStart := some 0,
    expiry := some (.localCycle 1000000) }

def withTimer (t : Timer) (d : Device) : Device := { d with timer := t }

/-- An attempt of a SERVICE to station 1. -/
def service (replyWait : Option Nat) : InFlight :=
  { txn := .service, station := 1, worst := 65100, attempt := 1, replyWait := replyWait,
    received := none }

/-- A part whose B0 has a transaction in flight. -/
def inFlight (r : InFlight) (d : Device) : Device :=
  d.setSeq .b0 { d.seq .b0 with inFlight := some r, deadline := some 980000 }

/-- A request in transmission on B0. -/
def request0 : BranchSending := { role := .request, starts := 0, ends := 700, wire := [] }

/-- A part whose B0 sends. -/
def sendingB0 (d : Device) : Device := d.setSeq .b0 { d.seq .b0 with sending := some request0 }

/-- A part whose station 1 of B0 is in a state. -/
def withStation (x : StationState) (d : Device) : Device :=
  d.setStation .b0 1 { d.station .b0 1 with state := x }

def event0 : Event :=
  { kind := .cycleFree, cycle := 0, line := some .t, station := none, detail := 4 }

/-- A part whose event list holds n records. -/
def withEvents (n : Nat) (d : Device) : Device :=
  { d with endpoint := { d.endpoint with events := List.replicate n event0 } }

/-- A part with an armed list that holds B0's Line Settings. -/
def armed (target : Cycle) (d : Device) : Device :=
  { d with change := { state := .armed, target := some target, generation := 0,
                       list := [{ unit := 5, index := 1, action := .content [] }] } }

/-- A response that waits in the slot. -/
def slot0 : MgmtRecord := { bytes := [], isRestart := false }

theorem quiet_part : part.quiet := ⟨rfl, ⟨rfl, rfl, rfl, rfl⟩, .inr (.inl rfl)⟩

/-! ### Well-formedness -/

theorem test_wellFormed_commands :
    (Instr.trunkCycleArrival 0 (trunkCycle 5)).wellFormed = true ∧
    (Instr.trunkCycleArrival 0 []).wellFormed = true ∧
    (Instr.trunkDataArrival 0 (trunkData 5 0 [1])).wellFormed = true ∧
    (Instr.read 0 ask).wellFormed = true ∧
    (Instr.stage 0 { ask with entries := List.replicate 1013 0 }).wellFormed = true ∧
    (Instr.branchFrameArrival .b0 3 3 []).wellFormed = true := by decide +kernel

theorem test_illFormed_trunkCycleArrival :
    (Instr.trunkCycleArrival 0 (trunkData 5 0 [1])).wellFormed = false := by decide

theorem test_illFormed_trunkDataArrival :
    (Instr.trunkDataArrival 0 (trunkCycle 5)).wellFormed = false := by decide

theorem test_illFormed_stage :
    (Instr.stage 0 { ask with entries := List.replicate 1014 0 }).wellFormed = false := by
  decide +kernel

theorem test_illFormed_requests :
    ((requestCommand 0 .read { ask with entries := [1] }).wellFormed = false ∧
      (requestCommand 0 .discard { ask with entries := [1] }).wellFormed = false ∧
      (requestCommand 0 .commit { ask with entries := [1] }).wellFormed = false ∧
      (requestCommand 0 .setLine { ask with entries := [1] }).wellFormed = false) ∧
    (requestCommand 0 .clear { ask with entries := [1] }).wellFormed = false ∧
      (requestCommand 0 .takeEvents { ask with entries := [1] }).wellFormed = false ∧
      (requestCommand 0 .restart { ask with entries := [1] }).wellFormed = false := by decide

theorem test_illFormed_branchFrameArrival :
    (Instr.branchFrameArrival .b0 4 3 []).wellFormed = false := by decide

/-! ### The spec's own examples -/

/-- The CRC of R7's nine characters. -/
theorem test_crc16_example :
    crc16 [0x31, 0x32, 0x33, 0x34, 0x35, 0x36, 0x37, 0x38, 0x39] = 0x29B1#16 := by
  decide +kernel

/-- The header of R6: 02 01 05 03 00 40 has the check B5. -/
theorem test_header_example :
    headerSumOk [0x02, 0x01, 0x05, 0x03, 0x00, 0x40, 0xB5] = true := by decide +kernel

/-! ### One step of some commands -/

def dev? : Host.Outcome State Fault Refusal → Option Device
  | .next t => some t.dev
  | _ => none

theorem test_release_reads_63_as_0 :
    (dev? (exec (.resetRelease 5 63) (st held))).map
      (fun d => (d.inReset, d.tables.device.nodeAddress)) = some (false, 0) := by decide +kernel

theorem test_cycle_frame_locks :
    (dev? (exec (.trunkCycleArrival 1000 (trunkCycle 9)) (st part))).map (fun d => d.timer) =
      some { state := .locked, cycle := 9, miss := 0, lastStart := some 1000,
             expiry := some (.lockWindow 951000 1051000) } := by decide +kernel

theorem test_lock_window_coasts :
    (dev? (exec .lockWindowExpiry (st (withTimer locked part)))).map
        (fun d => (d.timer.state, d.timer.cycle, d.timer.miss, d.endpoint.events.length)) =
      some (.coasting, 0, 1, 1) := by decide +kernel

theorem test_bad_unit_is_answered :
    (dev? (exec (.read 0 { ask with unit := 9 }) (st part))).bind
        (fun d => d.trunkTx.map fun t => (t.wire.drop 7).take 5) =
      some [0x00, 0x01, 0x00, 0x07, byteOf Status.badUnit.code] := by
  decide +kernel

theorem test_trunk_opens :
    (dev? (exec (.setLine 0 { ask with argB := 1 }) (st part))).map (fun d => d.trunkAdm) =
      some .opened := by decide +kernel

theorem test_branch_frame_is_ignored_when_shut :
    (dev? (exec (.branchFrameArrival .b0 0 9 data1.wire) (st part))).map
      (fun d => d.lineCount .b0 .ignoredBytes) = some 10 := by decide +kernel

/-- A frame that began on a SHUT branch is counted as ignored even if its end falls while the
interface sends (R20). -/
theorem test_branch_frame_is_ignored_when_sending :
    (dev? (exec (.branchFrameArrival .b0 0 9 data1.wire) (st (sendingB0 part)))).map
      (fun d => d.lineCount .b0 .ignoredBytes) = some 10 := by decide +kernel

/-- A frame whose end falls at the start of a transmission was received before it; one whose end
falls later in the transmission was not (R2, R128). -/
theorem test_branch_frame_at_transmission_start :
    (dev? (exec (.branchFrameArrival .b0 0 0 data1.wire) (st (withB0 (sendingB0 part))))).map
        (fun d => d.lineCount .b0 .unexpected) = some 1 ∧
    (dev? (exec (.branchFrameArrival .b0 0 9 data1.wire) (st (withB0 (sendingB0 part))))).map
        (fun d => d.lineCount .b0 .unexpected) = some 0 := by decide +kernel

/-- A part that COASTS with miss count 2 at an expiry that applies a commit of a new N. -/
def changesN (old new : Nat) : Device :=
  let d := withTimer { coasting .coasting with miss := 2 } part
  let settings := { d.tables.device with n := new }
  { d with
    tables := { d.tables with device := { d.tables.device with n := old } },
    change := { state := .armed, target := some 0, generation := 0,
                list := [{ unit := 8, index := 0,
                           action := .content (encodeDeviceSettings settings) }] } }

/-- The start that applies a lower N does not go FREE by it; the next local start does. One that
applies a higher N is judged by that (R74, log 11). -/
theorem test_lower_n_waits_for_the_next_local_start :
    (dev? (exec .localCycleExpiry (st (changesN 9 2)))).map
        (fun d => (d.timer.state, d.timer.miss, d.tables.device.n)) = some (.coasting, 3, 2) ∧
    ((dev? (exec .localCycleExpiry (st (changesN 9 2)))).bind
        fun d => dev? (exec .localCycleExpiry (st d))).map
        (fun d => (d.timer.state, d.timer.miss)) = some (.free, 4) ∧
    (dev? (exec .localCycleExpiry (st (changesN 3 9)))).map
        (fun d => (d.timer.state, d.tables.device.n)) = some (.coasting, 9) := by decide +kernel

/-- A part whose SHUTTING B0 waits for a reply of station 1, with the SET_LINE held. -/
def shutting0 : Device :=
  let d := (inFlight (service (some 9)) (withStation .active part)).setAdmission .b0 .shutting
  { d with endpoint := { d.endpoint with inProgress := some (.setLine .b0 5 [0, 7]) } }

/-- The FAULT reply that ends the transaction raises STATION_FAULTED before B0 is SHUT, and the
SET_LINE's response is still sent before the ATTENTION (R171). -/
theorem test_ready_response_comes_before_the_attention :
    (dev? (exec (.branchFrameArrival .b0 0 5 fault1.wire) (st shutting0))).map
      (fun d => (d.endpoint.events.map Event.kind, d.trunkTx.map fun t => t.wire.getD 8 0x00,
        d.endpoint.slot.map fun r => r.bytes.getD 1 0x00)) =
    some ([.stationFaulted, .lineShut], some 0x05, some 0x09) := by decide +kernel

/-! ### States and operands that meet the hypotheses of the statements -/

theorem test_meets_StepTakesTheFrontOfTheQueue : (st part).pending = [] := rfl

theorem test_meets_EveryCommandAnswersANextState :
    (st held).dev.inReset = true ∧ (∀ now, Instr.lockWindowExpiry ≠ .powerOnReset now) ∧
      ∀ now straps, Instr.lockWindowExpiry ≠ .resetRelease now straps :=
  ⟨rfl, nofun, nofun⟩

theorem test_meets_ResetReleaseReadsTheStraps :
    (st held).dev.inReset = true ∧ (st part).dev.inReset = false := ⟨rfl, rfl⟩

/-- The part after a RESTART has been answered, with n event records. -/
def restarting (n : Nat) : Device :=
  withEvents n { part with trunkTx := some { holds := .record true, wire := [] } }

theorem takes_ask : part.takes ask := ⟨rfl, quiet_part.2.1, .inl rfl, rfl⟩

theorem test_meets_RestartIsAnsweredThenTakesPlace :
    (part.takes ask ∧ ask.entries = []) ∧
    (∀ n, (restarting n).inReset = false ∧
      (restarting n).trunkTx = some { holds := .record true, wire := [] }) ∧
    ((restarting 0).endpoint.slot = none ∧ (restarting 0).endpoint.events = [] ∧
      (restarting 0).tables.device.attentionEnable = true) ∧
    (restarting 31).endpoint.events.length < 32 ∧
    32 ≤ (restarting 32).endpoint.events.length :=
  ⟨⟨takes_ask, rfl⟩, fun _ => ⟨rfl, rfl⟩, ⟨rfl, rfl, rfl⟩, by decide, by decide⟩

theorem data1_inRange : data1.inRange :=
  ⟨by decide, by decide, by decide, fun _ => by decide, .inl rfl⟩

theorem test_meets_TwoChecksProtectEveryFrame :
    (rd1 data1.wire 0 = BranchKind.data.code ∧
      ∀ kind : BranchKind, rd1 [0x55] 0 ≠ kind.code) ∧
    part.inReset = false ∧
    (checkTrunk (received 1033 []) = .headerError ∧
      checkTrunk (received 1033 (trunkCycle 7 ++ [0])) = .payloadError ∧
      checkTrunk (received 1033 (trunkCycle 7)) = .passed (.cycle 7) ∧
      checkTrunk (received 1033 (trunkData 4095 7 [])) = .passed (.data 4095 7 []) ∧
      checkTrunk (received 1033 (trunkData 4094 0 [0x31])) = .passed (.data 4094 0 [0x31])) ∧
    ((withB0 part).inReset = false ∧ (withB0 part).admission .b0 ≠ .shut ∧
      (withB0 part).openedAt.get .b0 < 1 ∧ ((withB0 part).seq .b0).sending = none) ∧
    (checkBranch (received 137 []) = .headerError ∧
      checkBranch (received 137 (data1.wire.dropLast ++ [0])) = .payloadError ∧
      checkBranch (received 137 data1.wire) = .passed data1) :=
  ⟨⟨by decide +kernel, fun kind => by cases kind <;> decide⟩, rfl, by decide +kernel,
    ⟨rfl, by decide, by decide, rfl⟩, by decide +kernel⟩

theorem test_meets_BranchFrameReadsBackAsItWasSent :
    data1.inRange ∧ (cycleFrame 65535).inRange ∧ (data128 .last).inRange :=
  ⟨data1_inRange, ⟨by decide, by decide, by decide, by decide, .inl rfl⟩,
    ⟨by decide +kernel, by decide, by decide, fun _ => by decide, .inr (.inr rfl)⟩⟩

theorem test_meets_EntryInForceReadsBackAsStaged :
    part.tables.sized ∧
    (isLoadable 1 = true ∧ unitShape 1 = some (4095, 13) ∧
      (encodeCircuit (some down)).length = 13 ∧ entryOk 1 (encodeCircuit (some down)) = true) ∧
    ((encodeCircuit none).length = 13 ∧ entryOk 1 (encodeCircuit none) = true) ∧
    (isLoadable 8 = true ∧ unitShape 8 = some (1, 11) ∧
      (encodeDeviceSettings part.tables.device).length = 11 ∧
      entryOk 8 (encodeDeviceSettings part.tables.device) = true) :=
  ⟨⟨rfl, rfl⟩, by decide +kernel, by decide +kernel, by decide +kernel⟩

theorem quiet_withB0 : (withB0 part).quiet := ⟨rfl, ⟨rfl, rfl, rfl, rfl⟩, .inr (.inl rfl)⟩

theorem test_meets_ErroredFrameIsCountedAndCaptured :
    part.quiet ∧ checkTrunk (received 1033 []) = .headerError ∧
    checkTrunk (received 1033 ((trunkData 1 0 [0x31]).dropLast ++ [0])) = .payloadError ∧
    ((withB0 part).quiet ∧ (withB0 part).admission .b0 ≠ .shut ∧
      (withB0 part).openedAt.get .b0 ≤ 0 ∧ ((withB0 part).seq .b0).sending = none ∧
      ((withB0 part).seq .b0).inFlight = none) ∧
    checkBranch (received 137 []) = .headerError ∧
    checkBranch (received 137 (data1.wire.dropLast ++ [0])) = .payloadError :=
  ⟨quiet_part, by decide +kernel, by decide +kernel,
    ⟨quiet_withB0, by decide, by decide, rfl, rfl⟩, by decide +kernel, by decide +kernel⟩

theorem test_meets_UnwantedBranchFrameIsOnlyCounted :
    (part.quiet ∧ part.admission .b0 = .shut) ∧
    ((sendingB0 part).quiet ∧ (sendingB0 part).admission .b0 = .shut) ∧
    (({ withB0 part with openedAt := PerBranch.all 5 } : Device).quiet ∧
      4 < ({ withB0 part with openedAt := PerBranch.all 5 } : Device).openedAt.get .b0) ∧
    ((withB0 (sendingB0 part)).quiet ∧ (withB0 (sendingB0 part)).admission .b0 ≠ .shut ∧
      (withB0 (sendingB0 part)).openedAt.get .b0 ≤ 0 ∧
      ((withB0 (sendingB0 part)).seq .b0).sending = some request0 ∧
      ((withB0 (sendingB0 part)).seq .b0).inFlight = none ∧
      request0.starts ≠ 1 ∧ request0.starts = 0) ∧
    ((withB0 part).quiet ∧ ((withB0 part).seq .b0).sending = none ∧
      ((withB0 part).seq .b0).inFlight = none ∧
      checkBranch (received 137 data1.wire) = .passed data1 ∧
      checkBranch (received 137 (cycleFrame 5).wire) = .passed (cycleFrame 5)) :=
  ⟨⟨quiet_part, rfl⟩, ⟨⟨rfl, ⟨rfl, rfl, rfl, rfl⟩, .inr (.inl rfl)⟩, rfl⟩,
    ⟨⟨rfl, ⟨rfl, rfl, rfl, rfl⟩, .inr (.inl rfl)⟩, by decide⟩,
    ⟨⟨rfl, ⟨rfl, rfl, rfl, rfl⟩, .inr (.inl rfl)⟩, by decide, by decide, rfl, rfl, by decide,
      rfl⟩,
    ⟨quiet_withB0, rfl, rfl, by decide +kernel, by decide +kernel⟩⟩

theorem quiet_open : open1.quiet := ⟨rfl, ⟨rfl, rfl, rfl, rfl⟩, .inl nofun⟩

/-- A part that holds a frame of the last circuit, which a branch hands over. -/
def handing (c : Circuit) : Device := withFrame 1 (withCircuit c open1)

theorem test_meets_FirstFailingCheckDiscardsTheFrame :
    (List.replicate 1024 (0 : Byte)).length ≤ 1024 ∧
    (part.quiet ∧ part.trunkAdm = .mgmtOnly) ∧
    (open1.quiet ∧ open1.trunkAdm = .opened ∧
      open1.trunkRefusal 4094 1024 = some .unknown) ∧
    ((withCircuit upPeriodic open1).quiet ∧
      (withCircuit upPeriodic open1).trunkRefusal 4094 0 = some .wrongLine) ∧
    ((withCircuit downPeriodic open1).trunkRefusal 4094 129 = some .oversize ∧
      (withCircuit downPeriodic open1).trunkRefusal 4094 128 = some .egressClosed) ∧
    (open1.branchRefusal .b0 1 none 4094 1 = some .unknown ∧
      (handing up).branchRefusal .b1 1 none 4094 1 = some .wrongLine ∧
      (handing up).branchRefusal .b0 2 none 4094 1 = some .wrongStation ∧
      (handing up).branchRefusal .b0 1 (some (some 4094)) 4094 1 = some .wrongKind ∧
      (handing upPeriodic).branchRefusal .b0 1 none 4094 1 = some .wrongKind ∧
      (handing upPeriodic).branchRefusal .b0 1 (some none) 4094 1 = some .wrongKind ∧
      (handing up).branchRefusal .b0 1 none 4094 129 = some .oversize ∧
      ({ handing up with trunkAdm := .mgmtOnly } : Device).branchRefusal .b0 1 none 4094 128 =
        some .egressClosed) ∧
    ({ (handing { up with egress := { PerLine.all true with b0 := false } }).setAdmission .b1
        .opened with pool := { part.pool with sharedCount := 128 } } : Device).branchRefusal .b0 1
      none 4094 1 = some .sharedLimit :=
  ⟨by rw [List.length_replicate], ⟨quiet_part, rfl⟩, ⟨quiet_open, rfl, by decide +kernel⟩,
    ⟨⟨rfl, ⟨rfl, rfl, rfl, rfl⟩, .inl nofun⟩, by decide +kernel⟩, by decide +kernel,
    by decide +kernel, by decide +kernel⟩

theorem test_meets_ReasonIsCountedOnLineAndCircuit :
    (withCircuit down part).circuit? 4094 ≠ none ∧
    Reason.circuitCounter .admission = some .admission ∧
    Reason.circuitCounter .unknown ≠ some .admission ∧ part.circuit? 4094 = none := by decide

/-- A part that accepts frames of the last circuit from T. -/
def accepting (c : Circuit) : Device := withB0 (withCircuit c open1)

theorem quiet_accepting (c : Circuit) : (accepting c).quiet :=
  ⟨rfl, ⟨rfl, rfl, rfl, rfl⟩, .inl nofun⟩

theorem test_meets_AcceptedAperiodicFrameIsHeldAndQueued :
    (accepting down).quiet ∧ (accepting down).trunkAdm = .opened ∧
    (accepting down).circuit? 4094 = some down ∧
    (accepting down).trunkRefusal 4094 1024 = none ∧ down.kind = .aperiodic ∧
    down.meter = none ∧ .t ∉ (accepting down).reducedSet down ∧
    (∀ k : Branch, k.line ∈ (accepting down).reducedSet down →
      ((accepting down).seq k).state ≠ .done) ∧
    8 < (accepting down).pool.free.length ∧
    (let d := { accepting down with pool := { (accepting down).pool with free := [0] } }
     d.trunkRefusal 4094 128 = none ∧ d.pool.free.length = 1 ∧ d.pool.emptyArmed = true) ∧
    (accepting down).mgmtReady ∧
    ((handing up).frame? 0 = some (frame0 1) ∧ (handing up).circuit? 4094 = some up ∧
      (handing up).branchRefusal .b0 1 none 4094 1 = none ∧ up.meter = none) :=
  ⟨quiet_accepting _, rfl, by decide, by decide +kernel, rfl, rfl, by decide,
    by intro k; cases k <;> decide, by decide +kernel, by decide +kernel, ⟨rfl, rfl, rfl, rfl⟩,
    by decide +kernel⟩

theorem test_meets_AcceptedPeriodicFrameTakesItsSlot :
    (accepting downPeriodic).quiet ∧ (accepting downPeriodic).trunkAdm = .opened ∧
    (accepting downPeriodic).circuit? 4094 = some downPeriodic ∧
    (accepting downPeriodic).trunkRefusal 4094 128 = none ∧ downPeriodic.kind = .periodic ∧
    downPeriodic.meter = none ∧
    (accepting downPeriodic).reducedSet downPeriodic = [Branch.b0.line] ∧
    1 < (accepting downPeriodic).pool.free.length ∧
    ((handing upPeriodic).frame? 0 = some (frame0 1) ∧
      (handing upPeriodic).circuit? 4094 = some upPeriodic ∧
      (handing upPeriodic).branchRefusal .b0 1 (some (some 4094)) 4094 1 = none ∧
      (handing upPeriodic).reducedSet upPeriodic = [.t] ∧ upPeriodic.meter = none) ∧
    (handing upPeriodic).mgmtReady :=
  ⟨quiet_accepting _, rfl, by decide, by decide +kernel, rfl, rfl, by decide, by decide +kernel,
    by decide +kernel, ⟨rfl, rfl, rfl, rfl⟩⟩

/-- A part whose last circuit is metered by meter 63 with buckets of 10 bytes, 0 and 5 of which are
filled. -/
def metered (yellow : YellowPolicy) (red : RedPolicy) : Device :=
  withMeter { mode := .meter, cir := 1, cbs := 10, ebs := 10, yellow := yellow, red := red }
    { committed := 0, excess := 5, green := 0, yellow := 0, red := 0 }
    (accepting { down with meter := some 63 })

/-- A part that holds a frame of one byte of a metered circuit from B0, with the meter's levels. -/
def meteredUp (committed excess : Nat) (yellow : YellowPolicy) (red : RedPolicy) : Device :=
  withMeter { mode := .meter, cir := 1, cbs := 10, ebs := 10, yellow := yellow, red := red }
    { committed := committed, excess := excess, green := 0, yellow := 0, red := 0 }
    (handing { up with meter := some 63 })

theorem test_meets_MeterColoursAndDecides :
    (∀ y r, (metered y r).quiet ∧ (metered y r).trunkAdm = .opened) ∧
    (∀ y r, (metered y r).circuit? 4094 = some { down with meter := some 63 }) ∧
    ((metered .thin .drop).trunkRefusal 4094 0 = none ∧
      (metered .thin .drop).trunkRefusal 4094 6 = none) ∧
    ((accepting { down with meter := some 63 }).meterSettings 63).mode = .pass ∧
    (∀ y r, ((metered y r).meterSettings 63).mode = .meter ∧
      ((metered y r).meterSettings 63).yellow = y ∧ ((metered y r).meterSettings 63).red = r ∧
      0 ≤ ((metered y r).meterState 63).committed ∧
      ((metered y r).meterState 63).committed < 5 ∧
      5 ≤ ((metered y r).meterState 63).excess ∧ ((metered y r).meterState 63).excess < 6) ∧
    (metered .thin .drop).accumulators.get .t +
      (metered .thin .drop).tables.thinning.getD 0 0 < 1024 ∧
    1024 ≤ ({ metered .thin .drop with accumulators := PerLine.all 1024 } :
      Device).accumulators.get .t ∧
    (∀ n m y r, (meteredUp n m y r).circuit? 4094 = some { up with meter := some 63 } ∧
      ((meteredUp n m y r).meterSettings 63).mode = .meter ∧
      ((meteredUp n m y r).meterSettings 63).yellow = y ∧
      ((meteredUp n m y r).meterSettings 63).red = r ∧
      ((meteredUp n m y r).meterState 63).committed = n ∧
      ((meteredUp n m y r).meterState 63).excess = m) ∧
    (meteredUp 0 1 .thin .drop).branchRefusal .b0 1 none 4094 1 = none ∧
    (handing { up with meter := some 63 }).branchRefusal .b0 1 none 4094 1 = none ∧
    (meteredUp 0 1 .thin .drop).accumulators.get .b0 +
      (meteredUp 0 1 .thin .drop).tables.thinning.getD 0 0 < 1024 ∧
    1024 ≤ ({ meteredUp 0 1 .thin .drop with accumulators := PerLine.all 1024 } :
      Device).accumulators.get .b0 ∧
    ((1 : Nat) ≤ 1 ∧ (0 : Nat) < 1) :=
  ⟨fun _ _ => ⟨⟨rfl, ⟨rfl, rfl, rfl, rfl⟩, .inl nofun⟩, rfl⟩,
    by intro y r; cases y <;> cases r <;> decide, by decide +kernel, by decide,
    by intro y r; cases y <;> cases r <;> decide, by decide, by decide,
    fun _ _ _ _ => ⟨rfl, rfl, rfl, rfl, rfl, rfl⟩, by decide +kernel, by decide +kernel,
    by decide, by decide, by decide⟩

theorem test_meets_MetersAreRefilled :
    (part.meterSettings 63).mode = .pass ∧
    (let d := metered .thin .drop
     (d.meterSettings 63).mode = .meter ∧
      (d.meterState 63).committed + (d.meterSettings 63).cir ≤ (d.meterSettings 63).cbs) ∧
    (let d := withMeter { MeterSettings.powerOn with mode := .meter, cir := 1 }
      MeterState.powerOn part
     (d.meterSettings 63).mode = .meter ∧
      (d.meterSettings 63).cbs < (d.meterState 63).committed + (d.meterSettings 63).cir) := by
  decide

theorem test_meets_ThinningDiscardsItsShare :
    ({ part with accumulators := PerLine.all 1023 } : Device).accumulators.get .b3 ≤ 1023 ∧
    (List.replicate 16 1024).getD 15 0 ≤ 1024 := by decide

theorem test_meets_LastReleaseFreesTheFrame :
    ((withFrame 1 part).pool.frames.find? 0 = some (frame0 1) ∧ (frame0 1).refs ≤ 1) ∧
    ((withFrame 2 part).pool.frames.find? 0 = some (frame0 2) ∧ 1 < (frame0 2).refs) := by
  decide

theorem accepts_locked : locked.accepts 950000 := Nat.le_refl _

theorem test_meets_CycleFrameStartsACycle :
    ((withTimer locked part).inReset = false ∧ (withTimer locked part).timer.accepts 950000) ∧
    (part.inReset = false ∧ part.timer.accepts 0) ∧
    ((withTimer locked part).quiet ∧ (withTimer locked part).timer.state = .locked ∧
      (withTimer locked part).timer.expiry = some (.lockWindow 950000 1050000) ∧
      949999 < 950000) :=
  ⟨⟨rfl, accepts_locked⟩, ⟨rfl, trivial⟩,
    ⟨rfl, ⟨rfl, rfl, rfl, rfl⟩, .inr (.inl rfl)⟩, rfl, rfl, by decide⟩

theorem consistent_coasting : (coasting .coasting).consistent :=
  show 1 ≤ 65535 ∧ 65535 ≤ 65535 from ⟨by decide, Nat.le_refl _⟩

theorem consistent_free : (coasting .free).consistent :=
  show 1 ≤ 65535 ∧ 65535 ≤ 65535 from ⟨by decide, Nat.le_refl _⟩

theorem consistent_locked : locked.consistent := show 0 = 0 from rfl

theorem consistent_unlocked : part.timer.consistent := show 0 = 0 from rfl

theorem test_meets_ExpiryStartsALocalCycle :
    (locked.consistent ∧ locked.expiry = some (.lockWindow 950000 1050000)) ∧
    ((coasting .free).consistent ∧ (coasting .coasting).consistent ∧
      (coasting .free).expiry = some (.localCycle 1000000)) ∧
    (part.quiet ∧ part.timer.consistent ∧ part.timer.state = .unlocked) ∧
    ((withTimer (coasting .free) part).quiet ∧
      (withTimer (coasting .free) part).timer.state ≠ .locked) ∧
    ((withTimer locked part).quiet ∧ (withTimer locked part).timer.state = .locked) :=
  ⟨⟨consistent_locked, rfl⟩, ⟨consistent_free, consistent_coasting, rfl⟩,
    ⟨quiet_part, consistent_unlocked, rfl⟩,
    ⟨⟨rfl, ⟨rfl, rfl, rfl, rfl⟩, .inr (.inl rfl)⟩, by decide⟩,
    ⟨⟨rfl, ⟨rfl, rfl, rfl, rfl⟩, .inr (.inl rfl)⟩, rfl⟩⟩

theorem test_meets_CycleEventsJoinInOrder :
    (∀ t, (withEvents 30 (withTimer t part)).inReset = false ∧
      (withEvents 30 (withTimer t part)).mgmtReady ∧
      (withEvents 30 (withTimer t part)).change.state ≠ .armed ∧
      (withEvents 30 (withTimer t part)).endpoint.events.length ≤ 30) ∧
    (locked.consistent ∧ locked.accepts 950000 ∧ locked.state = .locked) ∧
    (coasting .coasting).consistent ∧ (coasting .free).consistent :=
  ⟨fun _ => ⟨rfl, ⟨rfl, rfl, rfl, rfl⟩, nofun, by simp [withEvents]⟩,
    ⟨consistent_locked, accepts_locked, rfl⟩, consistent_coasting, consistent_free⟩

theorem test_meets_CycleStartReachesEveryBranch :
    (∀ t, (withTimer t (withB0 part)).inReset = false ∧ (withTimer t (withB0 part)).mgmtReady ∧
      (withTimer t (withB0 part)).change.state ≠ .armed ∧
      (withTimer t (withB0 part)).tables.schedule.sorted) ∧
    (part.timer.accepts 0 ∧ locked.expiry = some (.lockWindow 950000 1050000) ∧
      (coasting .free).expiry = some (.localCycle 1000000)) ∧
    ((withB0 part).admission .b0 = .opened ∧ ((withB0 part).seq .b0).inFlight = none ∧
      ((withB0 part).seq .b0).sending = none) ∧
    ((withB0 (sendingB0 part)).mgmtReady ∧ (withB0 (sendingB0 part)).admission .b0 = .opened ∧
      ((withB0 (sendingB0 part)).seq .b0).sending ≠ none) ∧
    part.admission .b0 ≠ .opened :=
  ⟨fun _ => ⟨rfl, ⟨rfl, rfl, rfl, rfl⟩, nofun, List.Pairwise.nil⟩, ⟨trivial, rfl, rfl⟩,
    ⟨rfl, rfl, rfl⟩, ⟨⟨rfl, rfl, rfl, rfl⟩, rfl, by decide⟩, by decide⟩

theorem test_meets_SlipAbandonsTheArmedCommit :
    let d := withEvents 29 (armed 5 (withTimer locked part))
    d.inReset = false ∧ d.mgmtReady ∧ d.timer.accepts 950000 ∧ d.timer.state ≠ .unlocked ∧
      5 ≠ d.timer.cycle + 1 ∧ d.change.state = .armed ∧ d.change.target = some 5 ∧
      d.endpoint.events.length ≤ 29 :=
  ⟨rfl, ⟨rfl, rfl, rfl, rfl⟩, accepts_locked, nofun, by decide, rfl, rfl, by decide⟩

/-- The local starts of the same statement: armed for a later cycle, and for the cycle that starts. -/
theorem test_meets_SlipAbandonsTheArmedCommit_local :
    (∀ n t, (armed n (withTimer t part)).inReset = false ∧
      (armed n (withTimer t part)).mgmtReady ∧ (armed n (withTimer t part)).timer = t ∧
      (armed n (withTimer t part)).change.state = .armed ∧
      (armed n (withTimer t part)).change.target = some n) ∧
    (locked.consistent ∧ locked.state = .locked ∧ locked.cycle + 1 = 0) ∧
    ((coasting .coasting).consistent ∧ (coasting .free).consistent ∧
      (coasting .coasting).state = .coasting ∧ (coasting .free).state = .free) ∧
    (some 5 : Option Cycle) ≠ some 0 :=
  ⟨fun _ _ => ⟨rfl, ⟨rfl, rfl, rfl, rfl⟩, rfl, rfl, rfl⟩, ⟨consistent_locked, rfl, by decide⟩,
    ⟨consistent_coasting, consistent_free, rfl, rfl⟩, by decide⟩

/-- A list that removes the last circuit, writes meter 63 and T's settings, configures station 1 of
B0 and unconfigures station 30 of B3. -/
def changes : List Staged :=
  [{ unit := 1, index := 4094, action := .remove },
    { unit := 2, index := 63, action := .content (encodeMeter MeterSettings.powerOn) },
    { unit := 5, index := 0, action := .content (encodeLineSettings (LineSettings.powerOn 1)) },
    { unit := 4, index := 0, action := .content [1, 0] },
    { unit := 4, index := 119, action := .content [0, 0] }]

/-- A part with that list staged, a frame in the last circuit's slot, and station 30 of B3
configured. -/
def changing : Device :=
  let d := withCircuit downPeriodic part
  { d with
    slots := ⟨[(4094, 0)]⟩,
    tables := { d.tables with stations := ⟨[(119, { configured := true, service := true })]⟩ },
    change := { state := .staging, list := changes, target := none, generation := 0 } }

theorem consistent_changing : changing.change.consistent := by
  refine ⟨by decide, by decide, by decide, ?_⟩
  intro e he
  fin_cases he <;> exact ⟨_, _, rfl, rfl, by decide, by first | exact .inl rfl | decide +kernel⟩

theorem test_meets_ArmedCommitIsAppliedAtItsTarget :
    (∀ t, (withEvents 29 (armed 0 (withTimer t part))).inReset = false ∧
      (withEvents 29 (armed 0 (withTimer t part))).mgmtReady ∧
      (withEvents 29 (armed 0 (withTimer t part))).change.state = .armed ∧
      (withEvents 29 (armed 0 (withTimer t part))).change.target = some 0 ∧
      (withEvents 29 (armed 0 (withTimer t part))).endpoint.events.length ≤ 29) ∧
    (locked.consistent ∧ locked.state = .locked ∧ locked.accepts 950000 ∧
      locked.cycle + 1 = 0) ∧
    ((coasting .free).consistent ∧ (coasting .free).state ≠ .unlocked ∧
      (coasting .free).state ≠ .locked ∧ (coasting .free).cycle + 1 = 0) ∧
    (changing.change.consistent ∧ changing.slots.sorted ∧ changing.tables.sized) ∧
    (isLoadable 2 = true ∧ (unitShape 2).map Prod.fst = some 64 ∧ 0 < 64) ∧
    ((∃ e ∈ changes, e.unit = 2 ∧ e.index = 63) ∧
      ¬ (∃ e ∈ changes, e.unit = 2 ∧ e.index = 0)) ∧
    ((∃ e ∈ changes, e.unit = 5 ∧ e.index = Line.t.toNat) ∧
      ¬ (∃ e ∈ changes, e.unit = 5 ∧ e.index = Line.b3.toNat)) ∧
    (changing.circuit? 4094 = some downPeriodic ∧
      (applyList changing).circuit? 4094 = none) ∧
    ((changing.stationConfig .b0 1).configured = false ∧
      ((applyList changing).stationConfig .b0 1).configured = true) ∧
    (changing.stationConfig .b3 30).configured = true ∧
      ((applyList changing).stationConfig .b3 30).configured = false :=
  ⟨fun _ => ⟨rfl, ⟨rfl, rfl, rfl, rfl⟩, rfl, rfl, by simp [withEvents]⟩,
    ⟨consistent_locked, rfl, accepts_locked, by decide⟩,
    ⟨consistent_free, nofun, nofun, by decide⟩,
    ⟨consistent_changing, List.pairwise_singleton _ _, rfl, rfl⟩, by decide, by decide, by decide,
    by decide +kernel, by decide +kernel, by decide +kernel⟩

theorem test_meets_StrictPickTakesTheHighestEligible :
    ({ LineSettings.powerOn 128 with egressMode := .strict } : LineSettings).egressMode =
      .strict := rfl

theorem test_meets_WeightedPickTakesTheGreatestCredit :
    (LineSettings.powerOn 128).egressMode = .weighted ∧
    (∀ s : Source, (fun _ => false) s = false) ∧
    (∀ s : Source, (fun _ => true) s = true →
      ({ cls := PerClass.all 0, service := 0 } : Credits).of s = 0) ∧
    ∃ s : Source, (fun _ => true) s = true ∧
      ({ cls := PerClass.all 1, service := 0 } : Credits).of s ≠ 0 :=
  ⟨rfl, fun _ => rfl, fun s _ => by cases s with
    | cls c => cases c <;> rfl
    | service => rfl, .cls .c0, rfl, by decide⟩

theorem test_meets_RoundPicksEachSourceByItsWeight :
    (LineSettings.powerOn 256).egressMode = .weighted := rfl

/-- An idle transmitter of an OPEN trunk whose class 1 queue holds one frame. -/
def idleQueued : Device :=
  (withFrame 1 { part with trunkAdm := .opened }).setQueue .t .c1 [entry0]

/-- An idle transmitter of an OPEN trunk with one frame in the last circuit's slot. -/
def idleSlot : Device :=
  { withFrame 1 (withCircuit upPeriodic part) with trunkAdm := .opened, slots := ⟨[(4094, 0)]⟩ }

theorem test_meets_IdleTransmitterStartsTheFirstSource :
    (part.trunkTx = none ∧ part.slots.sorted ∧ part.endpoint.slot = none ∧
      part.trunkAdm = .mgmtOnly) ∧
    (let d : Device := { part with endpoint := { part.endpoint with slot := some slot0 } }
     d.trunkTx = none ∧ d.endpoint.slot = some slot0) ∧
    (idleSlot.trunkTx = none ∧ idleSlot.slots.sorted ∧ idleSlot.endpoint.slot = none ∧
      idleSlot.trunkAdm = .opened ∧ (4094, 0) ∈ idleSlot.slotsAt .t ∧
      (∀ x ∈ idleSlot.slotsAt .t, 4094 ≤ x.1) ∧ idleSlot.circuit? 4094 = some upPeriodic ∧
      idleSlot.frame? 0 = some (frame0 1)) ∧
    (let d : Device := { part with trunkAdm := .opened }
     d.trunkAdm = .opened ∧ d.slotsAt .t = [] ∧ ∀ c, d.queue .t c = []) ∧
    (idleQueued.trunkAdm = .opened ∧ idleQueued.slots.sorted ∧ idleQueued.slotsAt .t = [] ∧
      selectSource (idleQueued.settings .t) (idleQueued.egr .t).credits
        idleQueued.trunkEligible =
          some (.cls .c1, { cls := ⟨1, 1, 4, 8⟩, service := 2 }) ∧
      idleQueued.queue .t .c1 = [entry0] ∧ idleQueued.frame? 0 = some (frame0 1)) :=
  ⟨⟨rfl, List.Pairwise.nil, rfl, rfl⟩, ⟨rfl, rfl⟩,
    ⟨rfl, List.pairwise_singleton _ _, rfl, rfl, by decide, by decide, by decide, by decide⟩,
    ⟨rfl, rfl, by intro c; cases c <;> rfl⟩,
    ⟨rfl, List.Pairwise.nil, rfl, by decide, by decide, by decide⟩⟩

/-- A part with a record in the slot behind one in transmission, with requests queued. -/
def queued (progress : Option InProgress) (pending : Bool) (queue : List (List Byte)) : Device :=
  { part with
    trunkTx := some record,
    endpoint := { part.endpoint with
      slot := some slot0, inProgress := progress, attnPending := pending, queue := queue } }

/-- What filling the slot that a record leaves empty asks for, in each case of R171; the two heads
before the part's own are for other nodes. -/
theorem test_meets_TrunkCompletionReleasesTheFrame_slot :
    (∀ progress pending queue, let d := queued progress pending queue
      d.inReset = false ∧ d.trunkTx = some record ∧ record.holds = .record false ∧
        d.endpoint.slot = some slot0 ∧ d.endpoint.inProgress = progress ∧
        d.endpoint.attnPending = pending ∧ d.endpoint.queue = queue) ∧
    (let others : List (List Byte) := [[], requestRecord .read { ask with node := 62 }]
     ∀ bs ∈ others, ¬ ∃ node, bs.head? = some node ∧
      (node.toNat = 63 ∨ node.toNat = part.tables.device.nodeAddress)) ∧
    (∃ node, (requestRecord .read ask).head? = some node ∧ node.toNat = 63) ∧
    (performRequest (requestRecord .read ask) (queued none false [])).2 =
      some { status := .badUnit } ∧
    (performRequest (requestRecord .setLine { ask with argA := 1 })
      (withB0 (inFlight (service none) (queued none false [])))).2 = none :=
  ⟨fun _ _ _ => ⟨rfl, rfl, rfl, rfl, rfl, rfl, rfl⟩, by
      intro others bs h
      simp only [others, List.mem_cons, List.not_mem_nil, or_false] at h
      rcases h with rfl | rfl
      · exact nofun
      · rintro ⟨node, h, hn⟩
        cases h
        exact absurd hn (by decide),
    ⟨63, rfl, rfl⟩, by decide +kernel, by decide +kernel⟩

theorem test_meets_TrunkCompletionReleasesTheFrame :
    (let d : Device := { withFrame 1 part with trunkTx := some { holds := .frame 0, wire := [] } }
     d.inReset = false ∧ d.trunkTx = some { holds := .frame 0, wire := [] } ∧ d.mgmtReady ∧
      d.trunkEmpty) ∧
    (let d : Device := { idleSlot with trunkTx := some { holds := .frame 0, wire := [] } }
     d.inReset = false ∧ d.trunkTx = some { holds := .frame 0, wire := [] } ∧ d.mgmtReady ∧
      d.trunkAdm = .opened ∧ d.slotsAt .t = [(4094, 0)]) ∧
    (let d : Device := { part with
      trunkTx := some record, endpoint := { part.endpoint with slot := some slot0 } }
     d.inReset = false ∧ d.trunkTx = some record ∧ record.holds = .record false ∧
      d.endpoint.slot = some slot0) :=
  ⟨⟨rfl, rfl, ⟨rfl, rfl, rfl, rfl⟩, .inl rfl⟩,
    ⟨rfl, rfl, ⟨rfl, rfl, rfl, rfl⟩, rfl, by decide⟩, ⟨rfl, rfl, rfl, rfl⟩⟩

/-- A part with class 3 of B0 held by its shaper. -/
def shaped (d : Device) : Device := d.setRelease .b0 .c3 (some 9)

/-- A part whose B0 runs a cycle with time left, its station 1 ACTIVE and configured for service. -/
def running (d : Device) : Device :=
  let d' := withStation .active (withB0 d)
  { d'.setSeq .b0 { d'.seq .b0 with state := .aperiodic, deadline := some 980000 } with
    tables := { d.tables with stations := ⟨[(0, { configured := true, service := true })]⟩ } }

/-- The part that runs a cycle with one frame for station 1 in class 1 of B0. -/
def runningQueued : Device := (running (withFrame 1 part)).setQueue .b0 .c1 [entry0]

/-- The selection that a part's B0 would make after its sweep. -/
def pick0 (d : Device) : Option (Source × Credits) :=
  let d' := sweep .b0 d
  selectSource (d'.settings .b0) (d'.egr .b0).credits (d'.branchEligible .b0)

theorem test_meets_ShaperReleaseMakesASelection :
    ((shaped part).quiet ∧ (shaped part).release .b0 .c3 = some 9 ∧
      (shaped part).admission .b0 ≠ .opened) ∧
    (let d := shaped (setSeqState .b0 .done (withB0 part))
     d.quiet ∧ d.release .b0 .c3 = some 9 ∧ d.admission .b0 = .opened ∧
      (d.seq .b0).state = .done) ∧
    (part.quiet ∧ part.release .t .c0 = none) ∧
    (let d := { part with trunkAdm := .opened }.setRelease .t .c1 (some 9)
     d.inReset = false ∧ d.mgmtReady ∧ d.release .t .c1 = some 9 ∧ d.trunkTx = none ∧
      d.trunkAdm = .opened ∧ d.slotsAt .t = []) ∧
    pick0 part = none ∧
    ((pick0 (running part)).map Prod.fst = some .service ∧
      (running part).serviceCandidate .b0 = some 1) ∧
    ((pick0 { runningQueued with tables := part.tables }).map Prod.fst = some (.cls .c1) ∧
      (sweep .b0 runningQueued).queue .b0 .c1 = [entry0] ∧
      (sweep .b0 runningQueued).frame? 0 = some (frame0 1) ∧ entry0.station = some 1) :=
  ⟨⟨⟨rfl, ⟨rfl, rfl, rfl, rfl⟩, .inr (.inl rfl)⟩, rfl, by decide⟩,
    ⟨⟨rfl, ⟨rfl, rfl, rfl, rfl⟩, .inr (.inl rfl)⟩, rfl, rfl, rfl⟩, ⟨quiet_part, rfl⟩,
    ⟨rfl, ⟨rfl, rfl, rfl, rfl⟩, rfl, rfl, rfl, rfl⟩, by decide +kernel,
    by decide +kernel, by decide +kernel⟩

/-- An element for station 1. -/
def element0 : Element :=
  { index := 0, station := 1, output := some 4094, input := none, status := .pending }

theorem test_meets_BranchCompletionTakesTheNextStep :
    (let d := sendingB0 (inFlight (service none) part)
     d.quiet ∧ (d.seq .b0).sending = some request0 ∧
      (d.seq .b0).inFlight = some (service none)) ∧
    (let d (start : Option (Cycle × Nat)) (x : SeqState) : Device :=
       (withB0 part).setSeq .b0 { part.seq .b0 with
         state := x, sending := some request0, pendingStart := start }
     (∀ start x, (d start x).quiet ∧ (d start x).admission .b0 = .opened ∧
      ((d start x).seq .b0).sending = some request0 ∧ ((d start x).seq .b0).inFlight = none ∧
      ((d start x).seq .b0).pendingStart = start ∧ ((d start x).seq .b0).state = x)) ∧
    ((sendingB0 part).quiet ∧ (sendingB0 part).admission .b0 ≠ .opened ∧
      ((sendingB0 part).seq .b0).inFlight = none) ∧
    (let d := part.setSeq .b0 { part.seq .b0 with
       sending := some { request0 with role := .answer }, inFlight := some (service none) }
     d.quiet ∧ (d.seq .b0).sending = some { request0 with role := .answer } ∧
      (d.seq .b0).inFlight = some (service none)) ∧
    (part.quiet ∧ (part.seq .b0).sending = none) ∧
    ((service none).received = none ∧
      ({ service none with received := some 0 } : InFlight).received = some 0 ∧
      (withFrame 1 part).frame? 0 = some (frame0 1)) ∧
    (part.setAdmission .b0 .shutting).admission .b0 = .shutting ∧
    ((part.station .b0 1).state ≠ .active ∧ (part.station .b0 1).state ≠ .suspect ∧
      ((running part).station .b0 1).state = .active) ∧
    (((running part).seq .b0).deadline.map fun due =>
      decide ((running part).now + (running part).elementWorst .b0 element0 ≤ due)) =
        some true ∧
    (let d := (running part).setStation .b0 30
       { part.station .b0 30 with state := .faulted }
     (d.station .b0 30).state = .faulted ∧ (d.station .b0 30).probeCountdown = 0 ∧
      (d.station .b0 30).serviced = false ∧
      ∀ lower, 1 ≤ lower → lower < 30 → (d.station .b0 lower).state ≠ .faulted) :=
  ⟨⟨⟨rfl, ⟨rfl, rfl, rfl, rfl⟩, .inr (.inl rfl)⟩, rfl, rfl⟩,
    fun _ _ => ⟨⟨rfl, ⟨rfl, rfl, rfl, rfl⟩, .inr (.inl rfl)⟩, rfl, rfl, rfl, rfl, rfl⟩,
    ⟨⟨rfl, ⟨rfl, rfl, rfl, rfl⟩, .inr (.inl rfl)⟩, by decide, rfl⟩,
    ⟨⟨rfl, ⟨rfl, rfl, rfl, rfl⟩, .inr (.inl rfl)⟩, rfl, rfl⟩, ⟨quiet_part, rfl⟩,
    ⟨rfl, rfl, by decide⟩, rfl, ⟨nofun, nofun, rfl⟩, by decide +kernel, by decide, by decide,
    by decide, by decide +kernel⟩

/-- A part whose OPEN B0 waits for the reply of an attempt. -/
def waiting0 (r : InFlight) : Device := withB0 (inFlight r part)

theorem awaits0 {r : InFlight} (h : r.replyWait ≠ none) : (waiting0 r).awaitsReply .b0 0 r :=
  ⟨rfl, nofun, Nat.le_refl 0, rfl, rfl, h⟩

theorem test_meets_FailedAttemptIsRetriedOrEnds :
    (let d := withB0 (inFlight (service (some 914900)) part)
     d.quiet ∧ (d.seq .b0).inFlight = some (service (some 914900)) ∧
      (service (some 914900)).attempt < 1 + (d.settings .b0).retryLimit ∧
      d.admission .b0 = .opened ∧ (d.seq .b0).pendingStart = none ∧
      (d.seq .b0).deadline = some 980000 ∧
      914900 + (service (some 914900)).worst ≤ 980000 ∧ d.openedAt.get .b0 ≤ 914000) ∧
    checkBranch (received 137 data1.wire) = .passed data1 ∧
    (part.quiet ∧ (part.seq .b0).inFlight = none) ∧
    (waiting0 (service (some 9))).awaitsReply .b0 0 (service (some 9)) ∧
    (checkBranch (received 137 []) = .headerError ∧
      checkBranch (received 137 (data1.wire.dropLast ++ [0])) = .payloadError) ∧
    (checkBranch (received 137 { ack1 with station := 30 }.wire) =
        .passed { ack1 with station := 30 } ∧
      checkBranch (received 137 ack1.wire) = .passed ack1 ∧ ack1.kind = .ack) ∧
    ((service none).attempt < 1 + (part.settings .b0).retryLimit ∧
      ¬ { service none with attempt := 2 }.attempt < 1 + (part.settings .b0).retryLimit) :=
  ⟨⟨⟨rfl, ⟨rfl, rfl, rfl, rfl⟩, .inr (.inl rfl)⟩, rfl, by decide, rfl, rfl, rfl, by decide,
    by decide⟩, by decide +kernel, ⟨quiet_part, rfl⟩, awaits0 nofun, by decide +kernel,
    by decide +kernel, by decide⟩

theorem test_meets_ShuttingBranchShutsAtTheTransactionsEnd :
    let d0 := (inFlight (service (some 9)) part).setAdmission .b0 .shutting
    let d : Device := withEvents 31 { d0 with
      trunkTx := some record,
      endpoint := { part.endpoint with inProgress := some (.setLine .b0 5 [0, 7]) } }
    d.inReset = false ∧ d.admission .b0 = .shutting ∧
      (d.seq .b0).inFlight = some (service (some 9)) ∧
      (service (some 9)).received = none ∧
      d.endpoint.inProgress = some (.setLine .b0 5 [0, 7]) ∧ d.endpoint.slot = none ∧
      d.trunkTx = some record ∧ d.endpoint.events.length < 32 :=
  ⟨rfl, rfl, rfl, rfl, rfl, rfl, rfl, by decide⟩

theorem test_meets_OutcomeActsOnTheStation :
    (withEvents 31 part).endpoint.events.length < 32 ∧
    (∀ x, ((withB0 (withStation x part)).station .b0 1).state = x ∧
      (withB0 (withStation x part)).admission .b0 = .opened ∧
      ((withB0 (withStation x part)).station .b0 1).failureCount + 1 <
        ((withB0 (withStation x part)).settings .b0).faultThreshold) ∧
    (let d := withB0 (part.setStation .b0 1
      { part.station .b0 1 with state := .suspect, failureCount := 2 })
     d.admission .b0 = .opened ∧ (d.station .b0 1).state = .suspect ∧
      (d.settings .b0).faultThreshold ≤ (d.station .b0 1).failureCount + 1) ∧
    part.admission .b0 ≠ .opened := by
  refine ⟨by decide, ?_, by decide, by decide⟩
  intro x
  cases x <;> decide

theorem test_meets_ProbeCountdownsRunOnOpenBranches :
    let d := withB0 (part.setStation .b0 30
      { part.station .b0 30 with state := .faulted, probeCountdown := 1 })
    d.admission .b0 = .opened ∧ (d.station .b0 30).state = .faulted := by decide

/-- A held frame of two blocks. -/
def frame2 : Frame :=
  { frame0 1 with
    chain := [{ number := 0, data := List.replicate 128 0 }, { number := 1, data := [0x31] }],
    length := 129 }

/-- A part whose class 1 queue of B0 holds one frame for station 1, with the segment to be sent
next and the times it was answered BUSY. -/
def delivering (f : Frame) (next busy : Nat) : Device :=
  let d := withStation .active (withFrame 1 part)
  { d with pool := { d.pool with frames := ⟨[(0, f)]⟩ } }.setQueue .b0 .c1
    [{ entry0 with nextSegment := next, busy := busy }]

/-- An attempt of a DELIVER to station 1. -/
def deliver1 (segment : Nat) : InFlight :=
  { service (some 9) with txn := .deliver .c1 segment }

theorem test_meets_DeliverReplyActsOnTheEntry :
    (∀ n, (waiting0 (deliver1 n)).awaitsReply .b0 0 (deliver1 n) ∧
      (deliver1 n).txn = .deliver .c1 n ∧ (deliver1 n).station = 1) ∧
    (checkBranch (received 137 ack1.wire) = .passed ack1 ∧
      checkBranch (received 137 busy1.wire) = .passed busy1 ∧
      checkBranch (received 137 fault1.wire) = .passed fault1 ∧ ack1.station = 1 ∧
      busy1.station = 1 ∧ fault1.station = 1) ∧
    (∀ f n b, (delivering f n b).queue .b0 .c1 =
        [{ entry0 with nextSegment := n, busy := b }] ∧
      (delivering f n b).frame? 0 = some f) ∧
    (1 < frame2.chain.length ∧ frame2.chain.length ≤ 2 ∧ (frame0 1).chain.length ≤ 1 ∧
      (1 : Nat) ≠ 2) ∧
    14 + 1 ≠ ((delivering frame2 1 14).settings .b0).busyLimit ∧
    15 + 1 = ((delivering frame2 1 15).settings .b0).busyLimit :=
  ⟨fun _ => ⟨awaits0 nofun, rfl, rfl⟩, by decide +kernel, fun _ _ _ => ⟨rfl, rfl⟩, by decide,
    by decide, by decide⟩

/-- The ACK of a segment whose entry R131 has returned to segment 1 leaves it there; the ACK of the
segment to be sent next goes on to the next one (R135, R145). -/
theorem test_ack_after_the_entry_was_returned :
    (dev? (exec (.branchFrameArrival .b0 0 5 ack1.wire)
        (st (withB0 (inFlight (deliver1 2) (delivering frame2 1 0)))))).map
      (fun d => (d.queue .b0 .c1).map Entry.nextSegment) = some [1] ∧
    (dev? (exec (.branchFrameArrival .b0 0 5 ack1.wire)
        (st (withB0 (inFlight (deliver1 1) (delivering frame2 1 0)))))).map
      (fun d => (d.queue .b0 .c1).map Entry.nextSegment) = some [2] := by decide +kernel

/-- A part whose B0 waits for the reply of a SERVICE to its ACTIVE station 1. -/
def serving : Device :=
  withStation .active (withB0 (inFlight (service (some 9)) part))

/-- A part whose B0 waits for the reply of an EXCHANGE with its station 1. -/
def exchange0 : InFlight :=
  { txn := .exchange 0 (some 4094) none (some 0) 4094 0, station := 1, worst := 52000,
    attempt := 1, replyWait := some 9, received := none }

def exchanging : Device := withStation .active (withB0 (inFlight exchange0 (withFrame 2 part)))

theorem test_meets_DataRepliesAreStoredAndAnswered :
    serving.quiet ∧ serving.awaitsReply .b0 0 (service (some 9)) ∧
    serving.admission .b0 = .opened ∧
    checkBranch (received 137 data1.wire) = .passed data1 ∧ data1.station = 1 ∧
    data1.kind = .data ∧ data1.position = .only ∧ (serving.station .b0 1).state ≠ .absent ∧
    (serving.station .b0 1).resyncPending = false ∧
    data1.toggle = (serving.station .b0 1).upExpected ∧
    serving.pool.usage.get .b0 + 1 ≤ (serving.settings .b0).dropLevel ∧
    (serving.pool.free = 0 :: List.range' 1 511 ∧ List.range' 1 511 ≠ []) ∧
    (exchanging.awaitsReply .b0 0 exchange0 ∧ exchange0.station = 1) ∧
    (serving.pool.free ≠ [] ∧ ({ serving.pool with free := [] } : Pool).free = [] ∧
      { data1 with toggle := true }.toggle ≠ (serving.station .b0 1).upExpected ∧
      (data128 .last).position ≠ .only ∧
      (takeSegment .b0 1 (data128 .last) serving).acknowledged = true ∧
      (takeSegment .b0 1 (data128 .first)
        { serving with pool := { serving.pool with free := [] } }).acknowledged = false) ∧
    (checkBranch (received 137 empty1.wire) = .passed empty1 ∧
      checkBranch (received 137 fault1.wire) = .passed fault1) ∧
    ((serving.setAdmission .b0 .shutting).admission .b0 = .shutting ∧
      serving.admission .b0 ≠ .shutting ∧
      (serving.settings .b0).dropLevel < 128 + 1 ∧
      ¬ (serving.settings .b0).dropLevel < serving.pool.usage.get .b0 + 1) ∧
    (idleSlot.slots.find? 4094 = some 0 ∧ exchange0.txn = .exchange 0 (some 4094) none (some 0)
      4094 0) ∧
    (Outcome.failed ≠ .success ∧ (some 4094 : Option Nat).bind part.slots.find? ≠ some 0) :=
  ⟨⟨rfl, ⟨rfl, rfl, rfl, rfl⟩, .inr (.inl rfl)⟩,
    ⟨rfl, nofun, Nat.le_refl 0, rfl, rfl, nofun⟩, rfl, by decide +kernel, rfl, rfl, rfl,
    by decide, by decide, by decide, by decide,
    by decide +kernel,
    ⟨⟨rfl, nofun, Nat.le_refl 0, rfl, rfl, nofun⟩, rfl⟩, by decide +kernel,
    by decide +kernel, by decide, by decide,
    by decide⟩

/-- A context of station 30 of B0 with n blocks. -/
def context (n : Nat) : Context :=
  { branch := .b0, station := 30, cid := 4095, priority := 7, startCycle := 0,
    blocks := (List.range n).map fun i => { number := 100 + i, data := List.replicate 128 0 } }

/-- A part with the station ACTIVE, three free blocks, and some contexts. -/
def collecting (contexts : List Context) : Device :=
  { part.setStation .b0 30 { part.station .b0 30 with state := .active } with
    pool := { part.pool with free := [1, 2, 3] }, contexts := contexts }

theorem test_meets_SegmentsAreReassembled :
    (∀ cs, (collecting cs).pool.free = [1, 2, 3] ∧
      (collecting cs).pool.usage.get .b0 + 1 ≤ ((collecting cs).settings .b0).dropLevel ∧
      ((collecting cs).station .b0 30).state ≠ .absent) ∧
    ((data128 .first).payload.length = 128 ∧ (collecting []).context? .b0 30 = none ∧
      (collecting []).contexts.length < 16) ∧
    (let cs := List.replicate 16 { context 1 with station := 1 }
     (collecting cs).context? .b0 30 = none ∧ 16 ≤ (collecting cs).contexts.length) ∧
    ((collecting [context 7]).context? .b0 30 = some (context 7) ∧
      (data128 .middle).cid = (context 7).cid ∧ (context 7).blocks.length < 8 ∧
      (data128 .last).payload.length ≠ 0) ∧
    ((part.station .b0 30).state = .absent ∧
      { data128 .first with payload := [] }.payload.length < 128 ∧
      (collecting []).settings .b0 = part.settings .b0 ∧
      ({ collecting [] with pool := { part.pool with free := [] } } : Device).pool.free = [] ∧
      (collecting [context 8]).context? .b0 30 = some (context 8) ∧
      8 ≤ (context 8).blocks.length ∧ { data128 .middle with field := 0 }.cid ≠ (context 1).cid ∧
      { data128 .last with payload := [] }.payload.length = 0) :=
  ⟨fun _ => ⟨rfl, show 0 + 1 ≤ 128 from by decide, nofun⟩, by decide +kernel,
    by decide +kernel, by decide +kernel, by decide +kernel⟩

/-- A part without transactions whose only frame is `frame0 1` meets `refsOk`. -/
theorem refs_oneFrame {d : Device} (hr : d.references = [0])
    (hf : d.pool.frames = ⟨[(0, frame0 1)]⟩) (hs : d.pool.sharedCount = 0)
    (hq : ∀ k, (d.seq k).inFlight = none := by intro k; cases k <;> rfl) : d.refsOk := by
  refine ⟨?_, ?_, ?_, fun k _ _ _ h => nomatch (hq k).symm.trans h⟩
  · intro ref h
    rw [hr, List.mem_singleton] at h
    subst h
    unfold Device.frame?
    rw [hf]
    rfl
  · rw [hf, hr]
    decide
  · rw [hf, hs]
    rfl

theorem test_meets_LateSlotsAndOldContextsAreGivenUp :
    (let d := withTimer { locked with cycle := 2 } idleSlot
     d.slots.sorted ∧ d.slots.find? 4094 = some 0 ∧ d.slotLine? 4094 = some .t ∧
      (d.frame? 0).bind Frame.fillCycle = some (d.timer.cycle - 2)) ∧
    (let d := withTimer { locked with cycle := 1 } idleSlot
     d.slots.find? 4094 = some 0 ∧ Cycle.ahead (d.timer.cycle - 2) 0 = false) ∧
    (idleSlot.pool.frames.sorted ∧ idleSlot.refsOk) ∧
    (((collecting [context 7]).contexts.map fun c => (c.branch, c.station)).Nodup) ∧
    (∀ t, (withTimer t (collecting [context 7])).quiet ∧
      (withTimer t (collecting [context 7])).change.state ≠ .armed) ∧
    (part.timer.accepts 0 ∧ locked.expiry = some (.lockWindow 950000 1050000) ∧
      (coasting .coasting).expiry = some (.localCycle 1000000)) :=
  ⟨⟨List.pairwise_singleton _ _, by decide, by decide, by decide⟩, by decide,
    ⟨List.pairwise_singleton _ _, refs_oneFrame (by decide) (by decide) rfl⟩, by decide,
    fun _ => ⟨⟨rfl, ⟨rfl, rfl, rfl, rfl⟩, .inr (.inl rfl)⟩, nofun⟩, trivial, rfl, rfl⟩

theorem test_meets_ArrivingRequestIsQueued :
    (part.quiet ∧ ¬ part.hears { ask with node := 62 } ∧
      ({ ask with node := 62 } : Request).fits = true) ∧
    (∀ q, let d : Device := { part with
        trunkTx := some record,
        endpoint := { part.endpoint with slot := some slot0, queue := q } }
      d.hears { ask with node := 0 } ∧ d.endpoint.slot ≠ none ∧ d.trunkTx ≠ none) ∧
    4 ≤ (List.replicate 4 (requestRecord .read ask)).length ∧
    (List.replicate 3 (requestRecord .read ask)).length < 4 ∧
    (part.hears ask ∧ part.mgmtReady ∧ ask.fits = true ∧
      (performRequest (requestRecord .read ask) (part.arrived 0 (requestFrame .read ask))).2 =
        some { status := .badUnit }) ∧
    (let req := { ask with argA := 1 }
     let d := withB0 (inFlight (service none) part)
     d.hears req ∧ d.mgmtReady ∧ (performRequest (requestRecord .setLine req)
      (d.arrived 0 (requestFrame .setLine req))).2 = none) :=
  ⟨⟨quiet_part, by unfold Device.hears; decide, by decide⟩,
    fun _ => ⟨.inr rfl, nofun, nofun⟩, by decide, by decide,
    ⟨.inl rfl, quiet_part.2.1, rfl, by decide +kernel⟩,
    ⟨.inl rfl, ⟨rfl, rfl, rfl, rfl⟩, by decide +kernel⟩⟩

theorem test_meets_RaisedEventJoinsAndCallsAttention :
    (∀ n, (withEvents n part).mgmtReady) ∧
    32 ≤ (withEvents 32 part).endpoint.events.length ∧
    ((withEvents 31 part).endpoint.events.length < 32 ∧
      (withEvents 31 part).endpoint.events ≠ []) ∧
    (part.endpoint.events = [] ∧ part.tables.device.attentionEnable = true ∧
      part.endpoint.attnOutstanding = false) ∧
    (let d : Device := { part with
      endpoint := { part.endpoint with inProgress := some (.ready [1]) } }
     d.endpoint.slot = none ∧ d.endpoint.inProgress = some (.ready [1]) ∧
      d.endpoint.events = [] ∧ d.tables.device.attentionEnable = true ∧
      d.endpoint.attnOutstanding = false) :=
  ⟨fun _ => ⟨rfl, rfl, rfl, rfl⟩, by decide, by decide, by decide, by decide⟩

theorem test_meets_BadFormatIsRefused :
    part.takes { ask with count := 17 } ∧ part.takes { ask with count := 0 } ∧
    part.takes { ask with entries := [0] } ∧
    (part.takes { ask with unit := 6 } ∧ isLoadable 6 = true ∧ unitShape 6 = some (40, 1) ∧
      ask.entries.length ≠ 1 * 1) ∧
    (part.inReset = false ∧ part.mgmtReady ∧
      (∃ node, ([0] : List Byte).head? = some node ∧
        (node.toNat = 63 ∨ node.toNat = part.tables.device.nodeAddress)) ∧
      ([0] : List Byte).length < 11) ∧
    (∀ op : Byte,
      (∃ node, (63 :: op :: List.replicate 1022 0 : List Byte).head? = some node ∧
        node.toNat = 63) ∧
      11 ≤ (63 :: op :: List.replicate 9 0 : List Byte).length ∧
      (63 :: op :: List.replicate 1022 0 : List Byte).length ≤ 1024) ∧
    ((0 : Byte).toNat = 0 ∧ 8 < (9 : Byte).toNat) :=
  ⟨⟨rfl, quiet_part.2.1, .inl rfl, rfl⟩, ⟨rfl, quiet_part.2.1, .inl rfl, rfl⟩,
    ⟨rfl, quiet_part.2.1, .inl rfl, rfl⟩,
    ⟨⟨rfl, quiet_part.2.1, .inl rfl, rfl⟩, rfl, rfl, by decide⟩,
    ⟨rfl, quiet_part.2.1, ⟨0, rfl, .inr rfl⟩, by decide⟩,
    fun _ => ⟨⟨63, rfl, rfl⟩, by simp,
      Nat.le_of_eq (by rw [List.length_cons, List.length_cons, List.length_replicate])⟩, by decide⟩

theorem test_meets_ReadReturnsTheEntries :
    (∀ n : BitVec 8, part.takes { ask with count := n }) ∧ ask.entries = [] ∧
      1 ≤ (1 : BitVec 8).toNat ∧ (16 : BitVec 8).toNat ≤ 16 ∧
      changing.change.list[0]? = some { unit := 1, index := 4094, action := .remove } ∧
      changing.change.list.length ≤ 5 :=
  ⟨fun _ => ⟨rfl, quiet_part.2.1, .inl rfl, rfl⟩, rfl, by decide, by decide, by decide,
    by decide⟩

theorem test_meets_TakeEventsReturnsTheOldest :
    (∀ n : BitVec 8, part.takes { ask with count := n }) ∧ ask.entries = [] ∧
      1 ≤ (1 : BitVec 8).toNat ∧ (16 : BitVec 8).toNat ≤ 16 :=
  ⟨fun _ => ⟨rfl, quiet_part.2.1, .inl rfl, rfl⟩, rfl, by decide, by decide⟩

theorem test_meets_StageIsTakenWholeOrRefused :
    (∀ u : BitVec 8, part.takes { ask with unit := u, entries := [3] }) ∧
    unitShape 9 = none ∧ (isLoadable 6 = true ∧ unitShape 6 = some (40, 1) ∧
      ([3] : List Byte).length = 1 * 1) :=
  ⟨fun _ => ⟨rfl, quiet_part.2.1, .inl rfl, rfl⟩, by decide, by decide⟩

theorem test_meets_DiscardEmptiesTheList :
    (armed 5 part).takes ask ∧ ask.entries = [] := ⟨⟨rfl, quiet_part.2.1, .inl rfl, rfl⟩, rfl⟩

theorem test_meets_CommitIsJudgedInOrder :
    part.takes { ask with argA := 2, argB := 4096 } ∧
      ({ ask with argA := 2, argB := 4096 } : Request).entries = [] :=
  ⟨⟨rfl, quiet_part.2.1, .inl rfl, rfl⟩, rfl⟩

/-- A part with its station 1 of B0 configured and one schedule entry for a station of B0, the
periodic reserve of B0, and W. -/
def scheduled (station reserve w : Nat) : Device :=
  { part with tables := { part.tables with
      stations := ⟨[(0, { configured := true, service := false })]⟩,
      schedule :=
        ⟨[(0, { station := station, period := 128, phase := 127, output := none, input := none })]⟩,
      lines := part.tables.lines.set .b0 { part.settings .b0 with reserve := reserve },
      device := { part.tables.device with w := w } } }

/-- Tables that fail each of the five checks, and the entry that CONFLICT names: a circuit of no
egress line, an entry of an unconfigured station, one whose sum goes over the limit in residue 127,
a Line Settings entry of an OPEN branch, and W above D ÷ 4. -/
theorem test_meets_ValidationMakesEveryCheck :
    (∀ s r w, (scheduled s r w).tables.ordered) ∧
    (let c := { down with egress := PerLine.all false }
     egressLines c.egress = [] ∧ (withCircuit c part).conflict = some (1, 4094)) ∧
    (let d := scheduled 2 50 50
     d.tables.circuits.cells = [] ∧ (d.stationConfig .b0 2).configured = false ∧
      d.conflict = some (3, 0)) ∧
    (exchangeWorst ((scheduled 1 5 50).settings .b0) 0 0 = 51400 ∧
      (5 * ((1000 : Int) - 20) * 10 - 7 * 100 : Int) < 51400 ∧
      (scheduled 1 5 50).conflict = some (3, 0)) ∧
    (let d := withB0 { scheduled 1 50 50 with change := { part.change with
        list := [{ unit := 5, index := 1,
                   action := .content (encodeLineSettings (part.settings .b0)) }] } }
     d.admission .b0 ≠ .shut ∧ (∃ e ∈ d.change.list, e.unit = 5 ∧ e.index = 1) ∧
      d.conflict = some (5, 1)) ∧
    (scheduled 1 50 251).conflict = some (8, 0) ∧ (scheduled 1 50 250).conflict = none :=
  ⟨fun _ _ _ => ⟨List.Pairwise.nil, List.Pairwise.nil, List.pairwise_singleton _ _,
      List.pairwise_singleton _ _⟩, by decide +kernel, by decide +kernel, by decide +kernel,
    by decide +kernel, by decide +kernel, by decide +kernel⟩

theorem test_meets_SetLineActsOnTheTrunk :
    (∀ (a : BitVec 8) (b : BitVec 16), part.takes { ask with argA := a, argB := b }) ∧
    open1.takes ask ∧ ask.argA.toNat = 0 ∧ part.trunkAdm = .mgmtOnly ∧
    open1.trunkAdm = .opened ∧ 4 < (5 : BitVec 8).toNat ∧ 1 < (2 : BitVec 16).toNat ∧
    (idleQueued.takes ask ∧ idleQueued.trunkAdm = .opened ∧ idleQueued.queue .t .c1 = [entry0] ∧
      idleQueued.pool.frames.sorted ∧ idleQueued.refsOk) :=
  ⟨fun _ _ => ⟨rfl, quiet_part.2.1, .inl rfl, rfl⟩, ⟨rfl, quiet_open.2.1, .inl rfl, rfl⟩, rfl,
    rfl, rfl, by decide, by decide,
    ⟨⟨rfl, ⟨rfl, rfl, rfl, rfl⟩, .inl rfl, rfl⟩, rfl, rfl, List.pairwise_singleton _ _,
      refs_oneFrame (by decide) rfl rfl⟩⟩

theorem test_meets_SetLineActsOnABranch :
    (∀ b : BitVec 16, (withB0 part).takes { ask with argA := 1, argB := b }) ∧
    (1 : BitVec 8).toNat = Branch.b0.line.toNat ∧
    ((withB0 part).admission .b0 = .opened ∧ ((withB0 part).seq .b0).inFlight = none) ∧
    (part.takes { ask with argA := 1, argB := 1 } ∧ part.admission .b0 = .shut ∧
      part.change.state ≠ .armed) ∧
    ((armed 5 part).takes { ask with argA := 1, argB := 1 } ∧
      (armed 5 part).change.state = .armed ∧
      ∃ e ∈ (armed 5 part).change.list, e.unit = 5 ∧ e.index = Branch.b0.line.toNat) ∧
    (let d := withB0 (inFlight (service none) part)
     d.takes { ask with argA := 1 } ∧ d.admission .b0 = .opened ∧
      (d.seq .b0).inFlight ≠ none ∧ d.trunkQuiet) ∧
    (runningQueued.takes { ask with argA := 1 } ∧ runningQueued.admission .b0 = .opened ∧
      (runningQueued.seq .b0).inFlight = none ∧ runningQueued.queue .b0 .c1 = [entry0] ∧
      runningQueued.pool.frames.sorted ∧ runningQueued.refsOk) :=
  ⟨fun _ => ⟨rfl, quiet_part.2.1, .inl rfl, rfl⟩, rfl, ⟨rfl, rfl⟩,
    ⟨⟨rfl, quiet_part.2.1, .inl rfl, rfl⟩, rfl, by decide⟩,
    ⟨⟨rfl, quiet_part.2.1, .inl rfl, rfl⟩, rfl, _, List.mem_singleton.2 rfl, rfl, rfl⟩,
    ⟨⟨rfl, quiet_part.2.1, .inl rfl, rfl⟩, rfl, by decide, .inr (.inl rfl)⟩,
    ⟨⟨rfl, ⟨rfl, rfl, rfl, rfl⟩, .inl rfl, rfl⟩, rfl, rfl, rfl, List.pairwise_singleton _ _,
      refs_oneFrame (by decide) rfl rfl⟩⟩

theorem test_meets_ClearSetsTheRangeToZero :
    (∀ (u : BitVec 8) (i : BitVec 16), part.takes { ask with unit := u, index := i }) ∧
    unitShape 16 = some (120, 45) ∧ 119 + 1 ≤ 120 ∧ 120 < 120 + 1 ∧
    unitShape 21 = some (1, 28) ∧ ¬ (16 ≤ 22 ∧ 22 ≤ 21) :=
  ⟨fun _ _ => ⟨rfl, quiet_part.2.1, .inl rfl, rfl⟩, by decide, by decide, by decide, by decide,
    by decide⟩

/-! ### The invariants' hypotheses, met while the reset input is asserted -/

theorem checked_held : held.tablesChecked :=
  ⟨⟨fun _ h => (List.not_mem_nil h).elim, fun _ h => (List.not_mem_nil h).elim⟩,
    fun h => ((show ChangeState.empty ≠ .armed by decide) h).elim⟩

theorem transactions_held : held.transactionsOk :=
  fun k => by cases k <;> exact ⟨fun _ => rfl, fun _ h => nomatch h⟩

theorem test_meets_EveryStepKeeps : step (st held) = .next (st held) := rfl

theorem test_meets_EveryStepKeepsBoundsAndBranches :
    held.bounded ∧ held.branchesOk ∧ held.transactionsOk :=
  ⟨⟨by decide, by decide, by decide, by decide⟩,
    fun k => by cases k <;> exact ⟨fun _ => rfl, nofun⟩, transactions_held⟩

theorem test_meets_EveryStepKeepsTimerAndChange :
    held.timer.consistent ∧ held.change.consistent ∧ held.settingsOk ∧ held.tables.sized ∧
    held.tables.ordered ∧ held.tablesChecked :=
  ⟨show 0 = 0 from rfl, ⟨by decide, by decide, List.nodup_nil, nofun⟩, ⟨by decide, nofun⟩,
    ⟨rfl, rfl⟩, ⟨List.Pairwise.nil, List.Pairwise.nil, List.Pairwise.nil, List.Pairwise.nil⟩,
    checked_held⟩

theorem test_meets_EveryStepKeepsTheSlots : held.slotServed ∧ held.slots.sorted :=
  ⟨fun _ => rfl, List.Pairwise.nil⟩

theorem test_meets_EveryStepKeepsThePool : held.poolOk :=
  ⟨by
      rw [show held.heldBlocks = [] from rfl, List.append_nil,
        show held.pool = Pool.allFree from rfl]
      unfold Pool.allFree
      dsimp only
      exact List.Perm.refl _,
    fun l => by cases l <;> rfl, List.Pairwise.nil, nofun, nofun, List.nodup_nil⟩

theorem test_meets_EveryStepKeepsMetersAndAccumulators : held.metersOk ∧ held.accumulatorsOk :=
  ⟨fun _ => nofun, fun l => by cases l <;> exact Nat.zero_le _, by decide, nofun⟩

theorem test_meets_EveryStepKeepsTheReferences :
    held.poolOk ∧ held.slots.sorted ∧ held.tablesChecked ∧ held.transactionsOk ∧ held.refsOk :=
  ⟨test_meets_EveryStepKeepsThePool, List.Pairwise.nil, checked_held, transactions_held,
    ⟨by decide, fun _ h => (List.not_mem_nil h).elim, rfl, fun k _ _ _ h => by cases k <;> exact nomatch h⟩⟩

end Sys2Proof.Tests
end

section
/-! Proofs about the Buffer Pool: what freeing a frame and power-on reset leave in each part of
the pool. -/

namespace Sys2Proof.Machine

/-! ### Freeing a frame (R65, R70) -/

namespace Pool

variable (p : Pool) (ref : Nat) (f : Frame)

@[simp] theorem freeFrame_free :
    (p.freeFrame ref f).free = f.chain.map Block.number ++ p.free := rfl

@[simp] theorem freeFrame_frames : (p.freeFrame ref f).frames = p.frames.erase ref := rfl

@[simp] theorem freeFrame_usage :
    (p.freeFrame ref f).usage =
      p.usage.set f.ingress (p.usage.get f.ingress - f.chain.length) := rfl

@[simp] theorem freeFrame_sharedCount :
    (p.freeFrame ref f).sharedCount =
      if f.shared then p.sharedCount - f.chain.length else p.sharedCount := rfl

/-- A free arms POOL_EMPTY by the number of blocks free after it, the frame's own among them. -/
theorem freeFrame_emptyArmed_iff :
    (p.freeFrame ref f).emptyArmed = true ↔
      p.emptyArmed = true ∨ Config.rearmBlocks ≤ f.chain.length + p.free.length := by
  rw [freeFrame, giveBack_eq, Bool.or_eq_true, decide_eq_true_iff, List.length_append,
    List.length_map]

end Pool

/-- Settles O19: the last release is a `freeFrame`, read off field by field; an earlier one is
`Pool.release_held`. -/
theorem lastReleaseFreesTheFrame : Obligations.LastReleaseFreesTheFrame := by
  intro p ref f hf
  refine ⟨fun hlast => ?_, Pool.release_held hf⟩
  rw [Pool.release_last hf (Nat.not_lt.2 hlast)]
  refine ⟨?blocks, ?gone, ?others, ?usage, ?otherLines, ?shared, ?armed⟩
  case blocks => rw [Pool.freeFrame_free]
  case gone => rw [Pool.freeFrame_frames, Table.find?_erase_self]
  case others =>
    intro other hne
    rw [Pool.freeFrame_frames, Table.find?_erase_of_ne _ hne]
  case usage => rw [Pool.freeFrame_usage, PerLine.get_set_self]
  case otherLines =>
    intro l hne
    rw [Pool.freeFrame_usage, PerLine.get_set_of_ne _ _ hne]
  case shared => rw [Pool.freeFrame_sharedCount]
  case armed => exact Pool.freeFrame_emptyArmed_iff p ref f

/-! ### The pool at power-on (R67, R71) -/

theorem exec_powerOnReset (now : Nat) (s : State) :
    exec (.powerOnReset now) s =
      .next { s with dev := { Device.powerOn now true 0 with choices := s.dev.choices } } := rfl

@[simp] theorem Pool.allFree_free : Pool.allFree.free = List.range 512 := by
  rw [Pool.allFree, Config.poolBlocks]

@[simp] theorem Pool.allFree_usage_get (l : Line) : Pool.allFree.usage.get l = 0 :=
  PerLine.get_all 0 l

/-- T's drop level at power-on is 256, whatever the node address. -/
@[simp] theorem Tables.powerOn_dropLevel_trunk (node : Nat) :
    ((Tables.powerOn node).lines.get .t).dropLevel = 256 := rfl

/-- Each branch's drop level at power-on is 128, whatever the node address. -/
@[simp] theorem Tables.powerOn_dropLevel_branch (node : Nat) (k : Branch) :
    ((Tables.powerOn node).lines.get k.line).dropLevel = 128 := by
  cases k <;> rfl

/-- Settles O3: the part after POWER_ON_RESET has the pool `Pool.allFree` and the tables
`Tables.powerOn`. -/
theorem powerOnResetFreesThePool : Obligations.PowerOnResetFreesThePool := by
  intro now s
  refine ⟨_, exec_powerOnReset now s, ?free, ?frames, ?contexts, ?usage, ?shared, ?armed,
    ?trunkLevel, ?branchLevels, ?sharedLevel⟩
  case free => exact List.Perm.of_eq Pool.allFree_free
  case frames => rfl
  case contexts => rfl
  case usage => exact Pool.allFree_usage_get
  case shared => rfl
  case armed => rfl
  case trunkLevel => exact Tables.powerOn_dropLevel_trunk 0
  case branchLevels => exact Tables.powerOn_dropLevel_branch 0
  case sharedLevel => rfl

end Sys2Proof.Machine
end

section
/-! Proofs about the selection between the sources of a line: what a STRICT and a WEIGHTED selection
pick, and what a pick leaves of the credits. -/

namespace Sys2Proof.Machine

/-! ### The selection by mode (R94, R95) -/

/-- The credits a WEIGHTED selection goes by: the weights where it starts a new round, else those
it finds (R94). -/
def roundCredits (ls : LineSettings) (credits : Credits) (eligible : Source → Bool) : Credits :=
  if (weightedRank.filter eligible).all fun s => credits.of s == 0 then Credits.ofWeights ls
  else credits

section Mode

variable {ls : LineSettings} {credits : Credits} {eligible : Source → Bool}

theorem selectSource_strict (h : ls.egressMode = .strict) :
    selectSource ls credits eligible =
      (strictRank.find? eligible).map fun s => (s, credits) := by
  rw [selectSource, h]

theorem selectSource_weighted (h : ls.egressMode = .weighted) :
    selectSource ls credits eligible =
      (greatest (roundCredits ls credits eligible).of (weightedRank.filter eligible)).map
        fun s => (s, (roundCredits ls credits eligible).spend s) := by
  rw [selectSource, h]
  rfl

end Mode

/-! ### The STRICT pick (R95) -/

/-- A search through a rank asks its head first. -/
theorem find?_cons_map {α : Type} (eligible : Source → Bool) (f : Source → α) (s : Source)
    (ss : List Source) :
    ((s :: ss).find? eligible).map f =
      if eligible s then some (f s) else (ss.find? eligible).map f := by
  cases h : eligible s <;> simp [h]

/-- Settles O26: the STRICT pick is the first eligible source of `strictRank`, looked for rank by
rank. -/
theorem strictPickTakesTheHighestEligible : Obligations.StrictPickTakesTheHighestEligible := by
  intro ls credits eligible hmode
  rw [selectSource_strict hmode, strictRank]
  simp only [find?_cons_map, List.find?_nil, Option.map_none]

/-! ### The rank of the WEIGHTED mode (R94) -/

theorem mem_weightedRank (s : Source) : s ∈ weightedRank := by
  cases s with
  | cls c => cases c <;> decide
  | service => decide

theorem mem_filter_weightedRank {eligible : Source → Bool} {s : Source} :
    s ∈ weightedRank.filter eligible ↔ eligible s = true := by
  rw [List.mem_filter, and_iff_right (mem_weightedRank s)]

/-- The eligible sources stand in the order of their places in the rank. -/
theorem filter_weightedRank_pairwise (eligible : Source → Bool) :
    (weightedRank.filter eligible).Pairwise fun a b =>
      weightedRank.idxOf a < weightedRank.idxOf b :=
  List.Pairwise.filter eligible (by decide)

/-! ### The credits of a round (R94) -/

section Round

variable {ls : LineSettings} {credits : Credits} {eligible : Source → Bool}

theorem roundCredits_of_spent (h : ∀ s, eligible s = true → credits.of s = 0) :
    roundCredits ls credits eligible = Credits.ofWeights ls := by
  refine if_pos (List.all_eq_true.2 fun s hs => ?_)
  exact beq_iff_eq.2 (h s (mem_filter_weightedRank.1 hs))

theorem roundCredits_of_left (h : ∃ s, eligible s = true ∧ credits.of s ≠ 0) :
    roundCredits ls credits eligible = credits := by
  obtain ⟨s, hs, hleft⟩ := h
  refine if_neg fun hall => hleft ?_
  exact beq_iff_eq.1 (List.all_eq_true.1 hall s (mem_filter_weightedRank.2 hs))

end Round

@[simp] theorem Credits.of_spend_self (c : Credits) (s : Source) :
    (c.spend s).of s = c.of s - 1 := by
  cases s with
  | cls q => exact PerClass.get_set_self c.cls q _
  | service => rfl

theorem Credits.of_spend_of_ne (c : Credits) {s other : Source} (h : other ≠ s) :
    (c.spend s).of other = c.of other := by
  cases s with
  | service =>
    cases other with
    | cls q => rfl
    | service => exact absurd rfl h
  | cls q =>
    cases other with
    | cls b => exact PerClass.get_set_of_ne c.cls _ fun hb => h (congrArg Source.cls hb)
    | service => rfl

/-! ### The greatest credit of a list (R94) -/

section Greatest

variable {credit : Source → Nat}

theorem greatest_eq_none_iff {l : List Source} : greatest credit l = none ↔ l = [] := by
  cases l with
  | nil => simp [greatest]
  | cons s ss =>
    rw [greatest]
    split
    · simp
    · split <;> simp

/-- In a list ordered by `R` the pick is a member with the greatest credit, and stands before every
other member that shares it. -/
theorem greatest_first {R : Source → Source → Prop} {l : List Source} {pick : Source}
    (hl : l.Pairwise R) (h : greatest credit l = some pick) :
    pick ∈ l ∧ (∀ s ∈ l, credit s ≤ credit pick) ∧
      ∀ s ∈ l, credit s = credit pick → s = pick ∨ R pick s := by
  induction l generalizing pick with
  | nil => exact absurd h nofun
  | cons s ss ih =>
    obtain ⟨hs, hss⟩ := List.pairwise_cons.1 hl
    simp only [List.forall_mem_cons]
    rw [greatest] at h
    split at h
    next hnone =>
      obtain rfl := greatest_eq_none_iff.1 hnone
      obtain rfl := Option.some.inj h
      exact ⟨List.mem_singleton_self s, ⟨le_rfl, nofun⟩, fun _ => .inl rfl, nofun⟩
    next best hbest =>
      obtain ⟨hmem, hmax, hfirst⟩ := ih hss hbest
      split at h
      next hle =>
        obtain rfl := Option.some.inj h
        exact ⟨List.mem_cons_self, ⟨le_rfl, fun t ht => (hmax t ht).trans hle⟩,
          fun _ => .inl rfl, fun t ht _ => .inr (hs t ht)⟩
      next hlt =>
        obtain rfl := Option.some.inj h
        exact ⟨List.mem_cons_of_mem s hmem, ⟨(Nat.not_le.1 hlt).le, hmax⟩,
          fun heq => absurd heq.ge hlt, hfirst⟩

end Greatest

/-! ### The WEIGHTED pick (R94) -/

/-- Settles O27: the round is `roundCredits`, and the pick the first of the greatest credit among
the eligible sources in the order of `weightedRank`. -/
theorem weightedPickTakesTheGreatestCredit : Obligations.WeightedPickTakesTheGreatestCredit := by
  intro ls credits eligible hmode
  refine ⟨fun hnone => selectSource_none ls credits hnone, fun ⟨able, hable⟩ => ?_⟩
  obtain ⟨pick, hpick⟩ :
      ∃ pick, greatest (roundCredits ls credits eligible).of (weightedRank.filter eligible) =
        some pick :=
    Option.ne_none_iff_exists'.1 fun hnone =>
      List.ne_nil_of_mem (mem_filter_weightedRank.2 hable) (greatest_eq_none_iff.1 hnone)
  obtain ⟨hmem, hmax, hfirst⟩ := greatest_first (filter_weightedRank_pairwise eligible) hpick
  refine ⟨roundCredits ls credits eligible, (roundCredits ls credits eligible).spend pick, pick,
    roundCredits_of_spent, roundCredits_of_left, ?selected, mem_filter_weightedRank.1 hmem,
    ?greatest, ?ties, Credits.of_spend_self _ pick, fun s hs => Credits.of_spend_of_ne _ hs⟩
  case selected => rw [selectSource_weighted hmode, hpick, Option.map_some]
  case greatest => exact fun s hs => hmax s (mem_filter_weightedRank.2 hs)
  case ties =>
    intro s hs htie
    obtain rfl | hbefore := hfirst s (mem_filter_weightedRank.2 hs) htie
    · exact le_rfl
    · exact hbefore.le

end Sys2Proof.Machine
end

section
/-! The tests above leave many kernel checks running in the background, and each one that waits
holds a thread. The proofs below start when those checks are done. Now and then one of them waits for
those before it (`Elab.async false`), so that few of their own checks wait at any time. -/

set_option Elab.async false
set_option linter.unusedTactic false

example : True := by
  sleep 20000
  trivial

end

/-! Proofs about the step, the two commands of the reset input, and the invariants right after
reset. -/

namespace Sys2Proof.Machine

/- ### The step -/

set_option Elab.async false in
/-- Settles O1: both cases of `step` are its own equations. -/
theorem stepTakesTheFrontOfTheQueue : Obligations.StepTakesTheFrontOfTheQueue := by
  refine ⟨fun _ _ => rfl, fun s h => ?_⟩
  unfold step
  rw [h]

/-- A command's meaning changes the part alone: it answers a next state with the same queue. -/
theorem exec_next (c : Instr) (s : State) : ∃ d : Device, exec c s = .next { s with dev := d } := by
  cases c with
  | resetRelease now straps =>
    by_cases h : s.dev.inReset = true
    · exact ⟨_, if_pos h⟩
    · exact ⟨s.dev, if_neg h⟩
  | _ => exact ⟨_, rfl⟩

/-- While the reset input is asserted no event acts. -/
theorem exec_held (c : Instr) {s : State} (h : s.dev.inReset = true)
    (hp : ∀ now, c ≠ .powerOnReset now) (hr : ∀ now straps, c ≠ .resetRelease now straps) :
    exec c s = .next s := by
  have event (now : Nat) (act : Device → Device) :
      { s with dev := s.dev.event now act } = s := by rw [Device.event_held h]
  have expiry (act : Device → Device) :
      { s with dev := s.dev.expiry act } = s := by rw [Device.expiry_held h]
  cases c with
  | powerOnReset now => exact absurd rfl (hp now)
  | resetRelease now straps => exact absurd rfl (hr now straps)
  | lockWindowExpiry => exact congrArg _ (expiry _)
  | localCycleExpiry => exact congrArg _ (expiry _)
  | shaperReleaseExpiry l q => exact congrArg _ (expiry _)
  | replyTimeout k => exact congrArg _ (expiry _)
  | branchTransmissionComplete k => exact congrArg _ (expiry _)
  | _ => exact congrArg _ (event _ _)

/-- Settles O2: totality is `exec_next`, and the hold in reset is `exec_held`. -/
theorem everyCommandAnswersANextState : Obligations.EveryCommandAnswersANextState := by
  refine ⟨fun c s => ?_, fun c s => exec_held c⟩
  obtain ⟨d, hd⟩ := exec_next c s
  exact ⟨_, hd, rfl⟩

/- ### Reset -/

/-- Every line's queues at power-on: empty, with the credits at the power-on weights. -/
theorem egr_powerOn (now node : Nat) (inReset : Bool) (l : Line) :
    ∃ dropLevel, (Device.powerOn now inReset node).egr l =
      Egress.fresh (LineSettings.powerOn dropLevel) := by
  cases l
  case t => exact ⟨256, rfl⟩
  all_goals exact ⟨128, rfl⟩

/-- Every line's settings at power-on are those of R156, apart from the drop level. -/
theorem settings_powerOn (now node : Nat) (inReset : Bool) (l : Line) :
    ∃ dropLevel, (Device.powerOn now inReset node).settings l =
      LineSettings.powerOn dropLevel := by
  cases l
  case t => exact ⟨256, rfl⟩
  all_goals exact ⟨128, rfl⟩

/-- The power-on Priority Map of every line maps a priority to its half (R30). -/
theorem priorityClass_powerOn (now node : Nat) (inReset : Bool) (l : Line) {p : Nat} (h : p < 8) :
    ((Device.powerOn now inReset node).priorityClass l p).toNat = p / 2 := by
  unfold Device.priorityClass
  cases l <;> interval_cases p <;> rfl

/-- Settles O4: the part after POWER_ON_RESET is `Device.powerOn`, read off block by block. -/
theorem powerOnResetState : Obligations.PowerOnResetState := by
  intro now s
  refine ⟨_, exec_powerOnReset now s, rfl, rfl, rfl, rfl, ?admissions, ?lines, rfl, rfl,
    fun _ _ => rfl, fun _ => rfl, fun _ => rfl, ?accumulators, rfl, ?priorities, ?settings, rfl,
    rfl, ?queues, ?credits, rfl, rfl, ?seqs, fun _ _ => ⟨rfl, rfl⟩, rfl, rfl⟩
  case admissions => exact PerBranch.get_all _
  case lines =>
    intro l
    have hl : (Device.powerOn now true 0).lineIf l = LineIf.powerOn := PerLine.get_all _ l
    refine ⟨?_, ?_, ?_, fun c => ?_⟩
    · exact congrArg LineIf.headerError hl
    · exact congrArg LineIf.payloadError hl
    · exact congrArg LineIf.capture hl
    · exact congrArg (fun x : LineIf => x.counters.get 0 c.pos) hl
  case accumulators => exact PerLine.get_all _
  case priorities => exact fun l p hp => priorityClass_powerOn now 0 true l hp
  case settings =>
    intro l
    obtain ⟨level, hl⟩ := settings_powerOn now 0 true l
    exact congrArg (fun x : LineSettings => { x with dropLevel := 0 }) hl
  case queues =>
    intro l c
    obtain ⟨level, hl⟩ := egr_powerOn now 0 true l
    exact ⟨(congrArg (fun x : Egress => x.queues.get c) hl).trans (PerClass.get_all _ c),
      (congrArg (fun x : Egress => x.release.get c) hl).trans (PerClass.get_all _ c)⟩
  case credits =>
    intro l
    obtain ⟨level, hl⟩ := egr_powerOn now 0 true l
    exact congrArg Egress.credits hl
  case seqs => exact PerBranch.get_all _

/-- The straps read 63 as 0. -/
theorem strapNode_eq (straps : BitVec 6) :
    strapNode straps = if straps.toNat = 63 then 0 else straps.toNat := by
  unfold strapNode
  exact if_congr (by rw [← BitVec.toNat_inj]; rfl) rfl rfl

/-- Settles O5: the release starts from the very state of POWER_ON_RESET, with the straps' node. -/
theorem resetReleaseReadsTheStraps : Obligations.ResetReleaseReadsTheStraps := by
  intro now straps s
  refine ⟨fun h => ⟨_, _, exec_powerOnReset now s, if_pos h, ?_⟩, fun h => ?_⟩
  · rw [strapNode_eq]
    rfl
  · exact if_neg (by simp [h])

/- ### The invariants at reset -/

/-- Right after reset every block is free and none is held or charged. -/
theorem poolOk_reset : State.reset.dev.poolOk := by
  refine ⟨?free, ?usage, List.Pairwise.nil, nofun, nofun, List.nodup_nil⟩
  case free =>
    have held : State.reset.dev.heldBlocks = [] := rfl
    have free : State.reset.dev.pool.free = Pool.allFree.free := rfl
    rw [held, free, List.append_nil, Pool.allFree]
  case usage => intro l; cases l <;> rfl

/-- Right after reset the part holds no reference. -/
theorem refsOk_reset : State.reset.dev.refsOk := by
  refine ⟨?held, nofun, rfl, ?received⟩
  case held => decide
  case received => intro k r ref f h; cases k <;> exact nomatch h

set_option Elab.async false in
/-- Settles O59: every table and list is empty right after reset, and the settings in force are
those of R157. -/
theorem invariantsHoldAtReset : Obligations.InvariantsHoldAtReset := by
  have nothing : ∀ k, (State.reset.dev.seq k).inFlight = none := by intro k; cases k <;> rfl
  have shut : ∀ k, State.reset.dev.admission k = .shut := PerBranch.get_all _
  refine ⟨?bounded, ?change, ?settings, rfl, poolOk_reset, ?meters, ?accumulators, ?branches,
    fun _ => rfl, List.Pairwise.nil, ⟨rfl, rfl⟩, ?ordered, ?tables, ?transactions, refsOk_reset⟩
  case bounded => exact ⟨by decide, by decide, by decide, by decide⟩
  case change => exact ⟨by decide, by decide, List.nodup_nil, nofun⟩
  case settings => exact ⟨by decide, nofun⟩
  case meters => exact fun _ => nofun
  case accumulators => exact ⟨fun l => by cases l <;> exact Nat.zero_le _, by decide, nofun⟩
  case branches => exact fun k => ⟨fun _ => nothing k, fun h => by simp [shut k] at h⟩
  case ordered =>
    exact ⟨List.Pairwise.nil, List.Pairwise.nil, List.Pairwise.nil, List.Pairwise.nil⟩
  case tables =>
    have empty : State.reset.dev.change.state = .empty := rfl
    exact ⟨⟨fun _ h => (List.not_mem_nil h).elim, fun _ h => (List.not_mem_nil h).elim⟩,
      fun h => by simp [empty] at h⟩
  case transactions =>
    exact fun k => ⟨fun _ => nothing k,
      fun r h => absurd (h.symm.trans (nothing k)) (Option.some_ne_none r)⟩

end Sys2Proof.Machine

/-! The blocks of the Buffer Pool and their holders: what the operations on the pool and the contexts
do to the agreement of the free list, the holders and the usage counts. -/

/- ### Cells of a table -/

namespace Sys2Proof.Table

variable {α : Type}

set_option Elab.async false in
theorem lookup_eq_none_iff {cs : List (Nat × α)} {i : Nat} :
    lookup cs i = none ↔ ∀ c ∈ cs, c.1 ≠ i := by
  induction cs with
  | nil => simp [lookup]
  | cons c cs ih =>
    obtain ⟨k, w⟩ := c
    by_cases same : k = i
    · simp [lookup, same]
    · simp [lookup, same, ih]

theorem mem_of_lookup {cs : List (Nat × α)} {i : Nat} {v : α} (h : lookup cs i = some v) :
    (i, v) ∈ cs := by
  induction cs with
  | nil => cases h
  | cons c cs ih =>
    obtain ⟨k, w⟩ := c
    by_cases same : k = i
    · simp only [lookup, if_pos same, Option.some.injEq] at h
      rw [← same, ← h]
      exact List.mem_cons_self
    · simp only [lookup, if_neg same] at h
      exact List.mem_cons_of_mem _ (ih h)

/-- A cell of a table listed in order is what the table lists at its key. -/
theorem find?_of_mem {t : Table α} (h : t.sorted) {c : Nat × α} (hc : c ∈ t.cells) :
    t.find? c.1 = some c.2 := by
  obtain ⟨cs⟩ := t
  unfold Table.sorted Table.keys at h
  unfold Table.find?
  dsimp only at h hc ⊢
  induction cs with
  | nil => cases hc
  | cons d cs ih =>
    obtain ⟨k, w⟩ := d
    rw [List.map_cons, List.pairwise_cons] at h
    rcases List.mem_cons.1 hc with rfl | later
    · simp [lookup]
    · have less := h.1 c.1 (List.mem_map_of_mem later)
      rw [lookup, if_neg (show ¬ k = c.1 from Nat.ne_of_lt less)]
      exact ih h.2 later

/-- A key that is written anew joins the cells. -/
theorem perm_place_of_none {cs : List (Nat × α)} {i : Nat} (h : lookup cs i = none) (v : α) :
    (place cs i v).Perm ((i, v) :: cs) := by
  induction cs with
  | nil => exact .refl _
  | cons c cs ih =>
    obtain ⟨k, w⟩ := c
    have other : ¬ k = i := lookup_eq_none_iff.1 h (k, w) List.mem_cons_self
    simp only [lookup, if_neg other] at h
    simp only [place]
    split
    · exact .refl _
    · rw [if_neg fun e => other e.symm]
      exact ((ih h).cons _).trans (.swap ..)

/-- A key that is listed is written in its place. -/
theorem map_place_of_some {β : Type} {cs : List (Nat × α)} {i : Nat} {w v : α} (g : Nat × α → β)
    (h : lookup cs i = some w) (sorted : (cs.map Prod.fst).Pairwise (· < ·))
    (same : g (i, v) = g (i, w)) : (place cs i v).map g = cs.map g := by
  induction cs with
  | nil => cases h
  | cons c cs ih =>
    obtain ⟨k, x⟩ := c
    rw [List.map_cons, List.pairwise_cons] at sorted
    by_cases here : k = i
    · subst here
      simp only [lookup, if_true, Option.some.injEq] at h
      subst h
      simp [place, same]
    · simp only [lookup, if_neg here] at h
      have less : k < i := sorted.1 i (List.mem_map_of_mem (mem_of_lookup h))
      simp only [place, if_neg (Nat.not_lt_of_lt less), if_neg (fun e : i = k => here e.symm),
        List.map_cons, ih h sorted.2]

/-- A key that is erased leaves the cells. -/
theorem perm_erase_of_some {t : Table α} {i : Nat} {v : α} (h : t.find? i = some v)
    (sorted : t.sorted) : t.cells.Perm ((i, v) :: (t.erase i).cells) := by
  obtain ⟨cs⟩ := t
  unfold Table.sorted Table.keys at sorted
  unfold Table.find? at h
  unfold Table.erase
  dsimp only at h sorted ⊢
  induction cs with
  | nil => cases h
  | cons c cs ih =>
    obtain ⟨k, x⟩ := c
    rw [List.map_cons, List.pairwise_cons] at sorted
    by_cases here : k = i
    · subst here
      simp only [lookup, if_true, Option.some.injEq] at h
      subst h
      have rest : cs.filter (fun c => c.1 != k) = cs := by
        rw [List.filter_eq_self]
        intro c hc
        have less := sorted.1 c.1 (List.mem_map_of_mem hc)
        simp only [bne_iff_ne, ne_eq]
        omega
      rw [List.filter_cons_of_neg (by simp), rest]
    · simp only [lookup, if_neg here] at h
      rw [List.filter_cons_of_pos (by simpa using here)]
      exact ((ih h sorted.2).cons _).trans (.swap ..)

theorem mem_place {cs : List (Nat × α)} {i : Nat} {v : α} {c : Nat × α} (h : c ∈ place cs i v) :
    c = (i, v) ∨ c ∈ cs := by
  induction cs with
  | nil => exact .inl (List.mem_singleton.1 h)
  | cons d cs ih =>
    obtain ⟨k, x⟩ := d
    simp only [place] at h
    split at h
    · exact (List.mem_cons.1 h)
    · split at h
      · exact (List.mem_cons.1 h).imp_right (List.mem_cons_of_mem _)
      · rcases List.mem_cons.1 h with rfl | later
        · exact .inr List.mem_cons_self
        · exact (ih later).imp_right (List.mem_cons_of_mem _)

end Sys2Proof.Table

namespace Sys2Proof.Machine

/- ### Accounts: the free list, the holders and the usage counts (R57, R66) -/

/-- The number of blocks of the holders that are charged to a line. -/
def charged (holders : List (Line × List Nat)) (l : Line) : Nat :=
  (holders.map fun h => if h.1 = l then h.2.length else 0).sum

/-- Every block is free or in one holder, and the usage counts are those of the holders. -/
structure Accounts (free : List Nat) (usage : PerLine Nat) (holders : List (Line × List Nat)) :
    Prop where
  blocks : (free ++ holders.flatMap Prod.snd).Perm (List.range Config.poolBlocks)
  usage : ∀ l, usage.get l = charged holders l

namespace Accounts

variable {free : List Nat} {usage : PerLine Nat} {hs hs' : List (Line × List Nat)} {l : Line}

theorem perm (h : Accounts free usage hs) (p : hs'.Perm hs) : Accounts free usage hs' :=
  ⟨((p.flatMap_right _).append_left free).trans h.blocks, fun l =>
    (h.usage l).trans ((p.map _).sum_eq).symm⟩

theorem nodup (h : Accounts free usage hs) : (free ++ hs.flatMap Prod.snd).Nodup :=
  h.blocks.nodup_iff.2 List.nodup_range

/-- Blocks leave the front of the free list for a new holder. -/
theorem claim (h : Accounts free usage hs) {n : Nat} (room : n ≤ free.length) :
    Accounts (free.drop n) (usage.set l (usage.get l + n)) ((l, free.take n) :: hs) := by
  refine ⟨?_, fun m => ?_⟩
  · rw [List.flatMap_cons, ← List.append_assoc]
    refine (List.perm_append_comm.append_right _).trans ?_
    rw [List.take_append_drop]
    exact h.blocks
  · unfold charged
    rw [List.map_cons, List.sum_cons]
    by_cases same : m = l
    · subst same
      rw [PerLine.get_set_self, if_pos rfl, h.usage m, List.length_take, Nat.min_eq_left room,
        Nat.add_comm]
      rfl
    · rw [PerLine.get_set_of_ne _ _ same, if_neg fun e => same e.symm, Nat.zero_add]
      exact h.usage m

/-- A holder's blocks go back in front of the free list. -/
theorem giveBack {bs : List Nat} (h : Accounts free usage ((l, bs) :: hs)) :
    Accounts (bs ++ free) (usage.set l (usage.get l - bs.length)) hs := by
  refine ⟨?_, fun m => ?_⟩
  · refine .trans ?_ h.blocks
    rw [List.flatMap_cons, ← List.append_assoc]
    exact List.perm_append_comm.append_right _
  · have before := h.usage m
    unfold charged at before ⊢
    rw [List.map_cons, List.sum_cons] at before
    by_cases same : m = l
    · subst same
      rw [PerLine.get_set_self]
      simp only [if_true] at before
      omega
    · rw [PerLine.get_set_of_ne _ _ same]
      rw [if_neg fun e => same e.symm, Nat.zero_add] at before
      exact before

/-- Two holders of one line are one. -/
theorem join {a b : List Nat} (h : Accounts free usage ((l, b) :: (l, a) :: hs)) :
    Accounts free usage ((l, a ++ b) :: hs) := by
  refine ⟨?_, fun m => ?_⟩
  · refine .trans ?_ h.blocks
    simp only [List.flatMap_cons, ← List.append_assoc]
    refine List.Perm.append_right _ ?_
    rw [List.append_assoc, List.append_assoc]
    exact List.perm_append_comm.append_left _
  · have before := h.usage m
    unfold charged at before ⊢
    simp only [List.map_cons, List.sum_cons] at before ⊢
    by_cases same : l = m
    · simp only [if_pos same] at before ⊢
      rw [List.length_append]
      omega
    · simp only [if_neg same, Nat.zero_add] at before ⊢
      exact before

end Accounts

/- ### The holders of the part -/

/-- What a cell of the frame table holds, and for which line. -/
def frameHolder (c : Nat × Frame) : Line × List Nat := (c.2.ingress, c.2.chain.map Block.number)

/-- What a context holds, and for which line. -/
def contextHolder (c : Context) : Line × List Nat := (c.branch.line, c.blocks.map Block.number)

/-- Frames are named by their first blocks, in order (R58, R59). -/
structure FramesOk (frames : Table Frame) : Prop where
  sorted : frames.sorted
  named : ∀ c ∈ frames.cells, c.2.chain.head?.map Block.number = some c.1

set_option Elab.async false in
/-- A frame's name is the number of one of its blocks. -/
theorem FramesOk.mem_chain {frames : Table Frame} (h : FramesOk frames) {i : Nat} {f : Frame}
    (cell : (i, f) ∈ frames.cells) : i ∈ f.chain.map Block.number := by
  have named := h.named _ cell
  rcases hc : f.chain with _ | ⟨b, bs⟩
  · rw [hc] at named
    cases named
  · rw [hc] at named
    simp only [List.head?_cons, Option.map_some, Option.some.injEq] at named
    rw [← named]
    exact List.mem_cons_self

/-- Contexts hold blocks, and a station has one at most (R147). -/
structure ContextsOk (contexts : List Context) : Prop where
  some : ∀ c ∈ contexts, c.blocks ≠ []
  apart : (contexts.map fun c => (c.branch, c.station)).Nodup

/-- The agreement of a pool with the contexts. -/
structure PoolAgrees (p : Pool) (contexts : List Context) : Prop where
  accounts : Accounts p.free p.usage
    (p.frames.cells.map frameHolder ++ contexts.map contextHolder)
  frames : FramesOk p.frames
  contexts : ContextsOk contexts

theorem poolOk_iff (d : Device) : d.poolOk ↔ PoolAgrees d.pool d.contexts := by
  have held : d.heldBlocks = (d.pool.frames.cells.map frameHolder ++
      d.contexts.map contextHolder).flatMap Prod.snd := by
    rw [List.flatMap_append, List.flatMap_map, List.flatMap_map]
    rfl
  have load (l : Line) : d.chargedTo l = charged (d.pool.frames.cells.map frameHolder ++
      d.contexts.map contextHolder) l := by
    unfold charged Device.chargedTo
    rw [List.map_append, List.sum_append, List.map_map, List.map_map]
    congr 2
    · exact List.map_congr_left fun c _ => by
        simp only [Function.comp_apply, frameHolder, List.length_map]
    · exact List.map_congr_left fun c _ => by
        simp only [Function.comp_apply, contextHolder, List.length_map]
  unfold Device.poolOk
  rw [held]
  simp only [load]
  exact ⟨fun ⟨blocks, usage, sorted, named, full, apart⟩ =>
      ⟨⟨blocks, usage⟩, ⟨sorted, named⟩, ⟨full, apart⟩⟩,
    fun ⟨⟨blocks, usage⟩, ⟨sorted, named⟩, ⟨full, apart⟩⟩ =>
      ⟨blocks, usage, sorted, named, full, apart⟩⟩

namespace PoolAgrees

variable {p : Pool} {cs : List Context}

/-- A free block names no frame. -/
theorem find?_free (h : PoolAgrees p cs) {i : Nat} (hi : i ∈ p.free) : p.frames.find? i = none := by
  rcases found : p.frames.find? i with _ | f
  · rfl
  · have cell := Table.mem_of_lookup found
    have first := h.frames.mem_chain cell
    have held : i ∈ (p.frames.cells.map frameHolder ++ cs.map contextHolder).flatMap Prod.snd := by
      refine List.mem_flatMap.2 ⟨frameHolder (i, f), ?_, first⟩
      exact List.mem_append_left _ (List.mem_map_of_mem cell)
    exact ((List.disjoint_of_nodup_append h.accounts.nodup) hi held).elim

/-- A descriptor is rewritten with its chain and its line as they are. -/
theorem rewrite (h : PoolAgrees p cs) {ref : Nat} {f f' : Frame} (hf : p.frames.find? ref = some f)
    (chain : f'.chain = f.chain) (line : f'.ingress = f.ingress) {n : Nat} {armed : Bool} :
    PoolAgrees { p with frames := p.frames.insert ref f', sharedCount := n, emptyArmed := armed }
      cs := by
  refine ⟨?_, ⟨Table.sorted_insert h.frames.sorted ref f', fun c hc => ?_⟩, h.contexts⟩
  · have same := Table.map_place_of_some (v := f') frameHolder hf h.frames.sorted
      (by unfold frameHolder; rw [chain, line])
    show Accounts p.free p.usage ((Table.place p.frames.cells ref f').map frameHolder ++ _)
    rw [same]
    exact h.accounts
  · rcases Table.mem_place hc with rfl | old
    · dsimp only
      rw [chain]
      exact h.frames.named _ (Table.mem_of_lookup hf)
    · exact h.frames.named c old

/-- A frame becomes held with blocks that a holder of its line had. -/
theorem hold {free : List Nat} {usage : PerLine Nat} {frames : Table Frame} {f : Frame}
    (accounts : Accounts free usage ((f.ingress, f.chain.map Block.number) ::
      (frames.cells.map frameHolder ++ cs.map contextHolder)))
    (hf : FramesOk frames) (hc : ContextsOk cs) (some : f.chain ≠ [])
    (fresh : frames.find? (f.chain.headD ⟨0, []⟩).number = none) {n : Nat} {armed : Bool} :
    PoolAgrees { free := free, frames := frames.insert (f.chain.headD ⟨0, []⟩).number f,
                 usage := usage, sharedCount := n, emptyArmed := armed } cs := by
  refine ⟨accounts.perm ?_, ⟨Table.sorted_insert hf.sorted _ _, fun c hc => ?_⟩, hc⟩
  · exact ((Table.perm_place_of_none fresh f).map frameHolder).append_right _
  · rcases Table.mem_place hc with rfl | old
    · rcases chain : f.chain with _ | ⟨b, bs⟩
      · exact absurd chain some
      · simp
    · exact hf.named c old

/-- The pool's other counts are not in the agreement. -/
theorem counts (h : PoolAgrees p cs) {n : Nat} {armed : Bool} :
    PoolAgrees { p with sharedCount := n, emptyArmed := armed } cs :=
  ⟨h.accounts, h.frames, h.contexts⟩

theorem countShared (h : PoolAgrees p cs) (n placements : Nat) :
    PoolAgrees (p.countShared n placements) cs := by
  unfold Pool.countShared
  split
  · exact h.counts
  · exact h

/-- A frame whose last reference is gone gives its blocks back (R65). -/
theorem freeFrame (h : PoolAgrees p cs) {ref : Nat} {f : Frame} (hf : p.frames.find? ref = some f) :
    PoolAgrees (p.freeFrame ref f) cs := by
  have cells := Table.perm_erase_of_some hf h.frames.sorted
  have accounts := (h.accounts.perm (((cells.map frameHolder).append_right
    (cs.map contextHolder)).symm)).giveBack
  rw [List.length_map] at accounts
  refine ⟨accounts, ⟨Table.sorted_erase h.frames.sorted ref, fun c hc => ?_⟩, h.contexts⟩
  exact h.frames.named c (List.mem_filter.1 hc).1

theorem release (h : PoolAgrees p cs) (ref : Nat) : PoolAgrees (p.release ref) cs := by
  unfold Pool.release
  split
  · exact h
  · rename_i f hf
    split
    · exact h.rewrite hf (f' := { f with refs := f.refs - 1 }) rfl rfl
    · exact h.freeFrame hf

theorem take (h : PoolAgrees p cs) (ref : Nat) : PoolAgrees (p.take ref) cs := by
  unfold Pool.take
  split
  · exact h
  · rename_i f hf
    exact h.rewrite hf (f' := { f with refs := f.refs + 1 }) rfl rfl

/-- A met claim of a frame's blocks (R60, R61). -/
theorem charge_hold (h : PoolAgrees p cs) {n : Nat} (one : 1 ≤ n) (room : n ≤ p.free.length)
    {f : Frame} (chain : f.chain.map Block.number = p.free.take n) :
    PoolAgrees ((p.charge n f.ingress).hold f) cs := by
  have some : f.chain ≠ [] := by
    intro none
    have := congrArg List.length chain
    rw [none, List.length_take] at this
    simp only [List.map_nil, List.length_nil] at this
    omega
  have first : (f.chain.headD ⟨0, []⟩).number ∈ p.free := by
    rcases hc : f.chain with _ | ⟨b, bs⟩
    · exact absurd hc some
    · refine List.mem_of_mem_take (i := n) ?_
      rw [← chain, hc]
      exact List.mem_cons_self
  refine PoolAgrees.hold ?_ h.frames h.contexts some (h.find?_free first)
  rw [chain]
  exact h.accounts.claim room

/-- A context is opened with one block (R149). -/
theorem openContext (h : PoolAgrees p cs) (room : 1 ≤ p.free.length) {c : Context}
    (blocks : c.blocks.map Block.number = p.free.take 1)
    (fresh : ∀ x ∈ cs, (x.branch, x.station) ≠ (c.branch, c.station)) :
    PoolAgrees (p.charge 1 c.branch.line) (cs ++ [c]) := by
  refine ⟨?_, h.frames, ⟨fun x hx => ?_, ?_⟩⟩
  · refine (h.accounts.claim (l := c.branch.line) room).perm ?_
    rw [List.map_append, ← List.append_assoc]
    refine List.perm_append_comm.trans ?_
    rw [List.map_cons, ← blocks]
    exact .refl _
  · rcases List.mem_append.1 hx with old | new
    · exact h.contexts.some x old
    · rw [List.mem_singleton.1 new]
      intro none
      have := congrArg List.length blocks
      rw [none, List.length_take] at this
      simp only [List.map_nil, List.length_nil] at this
      omega
  · rw [List.map_append]
    refine List.nodup_append'.2 ⟨h.contexts.apart, List.nodup_singleton _, ?_⟩
    intro place old new
    obtain ⟨x, hx, rfl⟩ := List.mem_map.1 old
    exact fresh x hx (List.mem_singleton.1 new)

end PoolAgrees

/- ### One context of the list -/

/-- The contexts but those of a station. -/
def otherContexts (cs : List Context) (c : Context) : List Context :=
  cs.filter fun x => !(x.branch == c.branch && x.station == c.station)

set_option Elab.async false in
theorem same_station (x c : Context) :
    (x.branch == c.branch && x.station == c.station) =
      decide ((x.branch, x.station) = (c.branch, c.station)) := by
  rw [Bool.eq_iff_iff]
  simp

namespace ContextsOk

variable {cs : List Context} {c : Context}

/-- A station's context is the one that leaves with the station's. -/
theorem perm (h : ContextsOk cs) (hc : c ∈ cs) : cs.Perm (c :: otherContexts cs c) := by
  obtain ⟨-, apart⟩ := h
  unfold otherContexts
  simp only [same_station]
  induction cs with
  | nil => cases hc
  | cons x xs ih =>
    rw [List.map_cons, List.nodup_cons] at apart
    obtain ⟨fresh, apart⟩ := apart
    rcases List.mem_cons.1 hc with rfl | later
    · rw [List.filter_cons_of_neg (by simp), List.filter_eq_self.2]
      intro y hy
      simp only [Bool.not_eq_true', decide_eq_false_iff_not]
      intro same
      exact fresh (same ▸ List.mem_map_of_mem (f := fun c : Context => (c.branch, c.station)) hy)
    · rw [List.filter_cons_of_pos]
      · exact ((ih later apart).cons x).trans (.swap ..)
      · simp only [Bool.not_eq_true', decide_eq_false_iff_not]
        intro same
        exact fresh (same ▸ List.mem_map_of_mem (f := fun c : Context => (c.branch, c.station)) later)

theorem others (h : ContextsOk cs) (c : Context) : ContextsOk (otherContexts cs c) :=
  ⟨fun x hx => h.some x (List.mem_filter.1 hx).1, h.apart.sublist (List.filter_sublist.map _)⟩

/-- A context with more blocks, in its place. -/
theorem perm_map (h : ContextsOk cs) (hc : c ∈ cs) (f : Context → Context) :
    (cs.map fun x => if x.branch = c.branch ∧ x.station = c.station then f x else x).Perm
      (f c :: otherContexts cs c) := by
  refine ((h.perm hc).map _).trans ?_
  rw [List.map_cons, if_pos ⟨rfl, rfl⟩]
  refine List.Perm.cons _ (.of_eq ?_)
  refine (List.map_congr_left fun x hx => ?_).trans (List.map_id _)
  have other := (List.mem_filter.1 hx).2
  simp only [same_station, Bool.not_eq_true', decide_eq_false_iff_not, Prod.mk.injEq] at other
  exact if_neg other

end ContextsOk

namespace PoolAgrees

variable {p : Pool} {cs : List Context} {c : Context}

/-- The holders with one context taken out of the list. -/
theorem holders_perm (h : PoolAgrees p cs) (hc : c ∈ cs) :
    (p.frames.cells.map frameHolder ++ cs.map contextHolder).Perm
      (contextHolder c :: (p.frames.cells.map frameHolder ++
        (otherContexts cs c).map contextHolder)) :=
  ((((h.contexts.perm hc).map contextHolder).append_left _)).trans List.perm_middle

/-- A context's blocks go back to the pool (R69). -/
theorem abandon (h : PoolAgrees p cs) (hc : c ∈ cs) :
    PoolAgrees (p.giveBack c.blocks c.branch.line) (otherContexts cs c) := by
  have accounts := (h.accounts.perm (h.holders_perm hc).symm).giveBack
  rw [List.length_map] at accounts
  exact ⟨accounts, h.frames, h.contexts.others c⟩

/-- A block of a context names no frame. -/
theorem find?_context (h : PoolAgrees p cs) (hc : c ∈ cs) {x : Block} (hx : x ∈ c.blocks) :
    p.frames.find? x.number = none := by
  rcases found : p.frames.find? x.number with _ | g
  · rfl
  · have cell := Table.mem_of_lookup found
    have distinct := h.accounts.nodup.of_append_right
    rw [List.flatMap_append] at distinct
    refine ((List.disjoint_of_nodup_append distinct) (a := x.number) ?_ ?_).elim
    · exact List.mem_flatMap.2 ⟨frameHolder (x.number, g), List.mem_map_of_mem cell,
        h.frames.mem_chain cell⟩
    · exact List.mem_flatMap.2 ⟨contextHolder c, List.mem_map_of_mem hc,
        List.mem_map_of_mem (f := Block.number) hx⟩

/-- A claim of one block for a context, before it is in the context's list. -/
theorem claim_context (h : PoolAgrees p cs) (hc : c ∈ cs) (room : 1 ≤ p.free.length) {b : Block}
    (block : [b.number] = p.free.take 1) :
    Accounts (p.charge 1 c.branch.line).free (p.charge 1 c.branch.line).usage
      ((c.branch.line, (c.blocks ++ [b]).map Block.number) ::
        (p.frames.cells.map frameHolder ++ (otherContexts cs c).map contextHolder)) := by
  have accounts := (h.accounts.perm (h.holders_perm hc).symm).claim (l := c.branch.line) room
  rw [← block] at accounts
  rw [List.map_append]
  exact accounts.join

/-- A MIDDLE's block is appended (R150). -/
theorem append (h : PoolAgrees p cs) (hc : c ∈ cs) (room : 1 ≤ p.free.length) {b : Block}
    (block : [b.number] = p.free.take 1) :
    PoolAgrees (p.charge 1 c.branch.line) (cs.map fun x =>
      if x.branch = c.branch ∧ x.station = c.station then { x with blocks := x.blocks ++ [b] }
      else x) := by
  have moved := h.contexts.perm_map hc fun x => { x with blocks := x.blocks ++ [b] }
  refine ⟨(h.claim_context hc room block).perm ?_, h.frames, ⟨fun x hx => ?_, ?_⟩⟩
  · exact ((moved.map contextHolder).append_left _).trans List.perm_middle
  · rcases List.mem_cons.1 (moved.subset hx) with rfl | other
    · simp
    · exact h.contexts.some x (List.mem_filter.1 other).1
  · rw [List.map_map]
    refine (congrArg List.Nodup (List.map_congr_left fun x _ => ?_)).mpr h.contexts.apart
    simp only [Function.comp_apply]
    split <;> rfl

/-- A context is completed and becomes a held frame (R151). -/
theorem complete (h : PoolAgrees p cs) (hc : c ∈ cs) (room : 1 ≤ p.free.length) {b : Block}
    (block : [b.number] = p.free.take 1) {f : Frame} (chain : f.chain = c.blocks ++ [b])
    (line : f.ingress = c.branch.line) :
    PoolAgrees ((p.charge 1 c.branch.line).hold f) (otherContexts cs c) := by
  have accounts := h.claim_context hc room block
  rw [← chain, ← line] at accounts
  obtain ⟨x, xs, blocks⟩ := List.exists_cons_of_ne_nil (h.contexts.some c hc)
  refine PoolAgrees.hold (line ▸ accounts) h.frames (h.contexts.others c) (by simp [chain]) ?_
  have first : (f.chain.headD ⟨0, []⟩).number = x.number := by rw [chain, blocks]; rfl
  rw [first]
  exact h.find?_context hc (blocks ▸ List.mem_cons_self)

end PoolAgrees

/-- After a restart or a reset every block is free (R57, R177). -/
theorem poolAgrees_allFree : PoolAgrees Pool.allFree [] := by
  have frames : Pool.allFree.frames = Table.empty := rfl
  refine ⟨⟨?_, fun l => ?_⟩, ⟨?_, ?_⟩, ⟨fun _ h => (nomatch h), List.nodup_nil⟩⟩
  · rw [frames, Pool.allFree_free]
    exact .of_eq (List.append_nil _)
  · rw [frames, Pool.allFree_usage_get]
    rfl
  · rw [frames]
    exact Table.sorted_empty
  · rw [frames]
    exact fun _ h => nomatch h

/- ### Claims that are met -/

theorem pieces_length (n : Nat) (bs : List Byte) : (pieces n bs).length = n := by
  induction n generalizing bs with
  | zero => rfl
  | succ n ih => rw [pieces, List.length_cons, ih]

set_option Elab.async false in
/-- The blocks that a claim is given are the first free ones (R57). -/
theorem blocksGiven_numbers (p : Pool) (contents : List (List Byte)) :
    (p.blocksGiven contents).map Block.number = p.free.take contents.length := by
  unfold Pool.blocksGiven
  generalize p.free = free
  induction contents generalizing free with
  | nil => simp
  | cons c cs ih =>
    cases free with
    | nil => simp
    | cons i is => simp [ih]

/-- The one block that a claim is given is the first free one (R61). -/
theorem blockFor_number (d : Device) (bytes : List Byte) (room : 1 ≤ d.pool.free.length) :
    [(d.blockFor bytes).number] = d.pool.free.take 1 := by
  unfold Device.blockFor Pool.blocksGiven
  rcases free : d.pool.free with _ | ⟨i, is⟩
  · simp [free] at room
  · rfl

/-- A receipt that is not refused finds a free block (R61). -/
theorem room_of_receiptRefusal {d : Device} {k : Branch} (h : d.receiptRefusal k = none) :
    1 ≤ d.pool.free.length := by
  unfold Device.receiptRefusal at h
  split at h
  · cases h
  · split at h
    · cases h
    · rename_i free
      exact List.length_pos_iff.2 fun none => free (by rw [none]; rfl)

/-- A trunk frame finds the free blocks that its payload occupies (R37). -/
def Device.hasRoom (d : Device) (a : Arriving) : Prop :=
  ∀ payload, a.origin = .trunk payload → blocksFor a.length ≤ d.pool.free.length

/-- A frame that passes the checks finds its blocks (R37). -/
theorem hasRoom_of_refusal {d : Device} {a : Arriving} {c : Circuit} (h : d.refusal a c = none) :
    d.hasRoom a := by
  intro payload origin
  unfold Device.refusal at h
  rw [origin] at h
  iterate 5
    split at h
    · cases h
  unfold Device.limitReason at h
  dsimp only at h
  iterate 3
    split at h
    · cases h
  rename_i room
  exact Nat.le_of_not_lt room

theorem mem_of_context? {d : Device} {k : Branch} {s : Nat} {c : Context}
    (h : d.context? k s = some c) : c ∈ d.contexts ∧ c.branch = k ∧ c.station = s := by
  refine ⟨List.mem_of_find?_eq_some h, ?_⟩
  simpa using List.find?_some h

theorem fresh_of_context? {d : Device} {k : Branch} {s : Nat} (h : d.context? k s = none) :
    ∀ x ∈ d.contexts, (x.branch, x.station) ≠ (k, s) := by
  intro x hx same
  have := List.find?_eq_none.1 h x hx
  simp only [Prod.mk.injEq] at same
  simp [same.1, same.2] at this

end Sys2Proof.Machine

/-! What each operation of the part writes. `Device.Writes fs d d'` says that the fields outside
`fs` are the same in `d'` as in `d`; one lemma for each operation, in the order of the model, so that
no later proof unfolds an operation to see that it leaves a field alone. -/

namespace Sys2Proof.Machine

/-- What a Branch Sequencer's transaction is about: its state, the record in flight, and the frame in
transmission (R106, R112, R13). -/
def Sequencer.core (q : Sequencer) : SeqState × Option InFlight × Option BranchSending :=
  (q.state, q.inFlight, q.sending)

/-- The fields of the part. Two of them are parts of a field: `queued` the frames of the queues'
entries, of `egress`, and `cores` the cores of the sequencers, of `seqs`. -/
inductive Field where
  | now | inReset | choices | lines | trunkAdm | branchAdm | openedAt | accumulators | meters
  | circuitCounters | pool | timer | egress | slots | trunkTx | seqs | stations | contexts | tables
  | change | endpoint | queued | cores
deriving DecidableEq

/-- Two parts have the same value in a field. -/
def Field.agrees (d d' : Device) : Field → Prop
  | .now => d'.now = d.now
  | .inReset => d'.inReset = d.inReset
  | .choices => d'.choices = d.choices
  | .lines => d'.lines = d.lines
  | .trunkAdm => d'.trunkAdm = d.trunkAdm
  | .branchAdm => d'.branchAdm = d.branchAdm
  | .openedAt => d'.openedAt = d.openedAt
  | .accumulators => d'.accumulators = d.accumulators
  | .meters => d'.meters = d.meters
  | .circuitCounters => d'.circuitCounters = d.circuitCounters
  | .pool => d'.pool = d.pool
  | .timer => d'.timer = d.timer
  | .egress => d'.egress = d.egress
  | .slots => d'.slots = d.slots
  | .trunkTx => d'.trunkTx = d.trunkTx
  | .seqs => d'.seqs = d.seqs
  | .stations => d'.stations = d.stations
  | .contexts => d'.contexts = d.contexts
  | .tables => d'.tables = d.tables
  | .change => d'.change = d.change
  | .endpoint => d'.endpoint = d.endpoint
  | .queued => (fun l c => (d'.queue l c).map Entry.frame) = fun l c => (d.queue l c).map Entry.frame
  | .cores => (fun k => (d'.seq k).core) = fun k => (d.seq k).core

/-- The bounds that every operation of the part keeps by itself: those of the request queue, the event
list and the contexts (R147, R169), the order of the slots (R89), and the agreement of the pool with
its holders (R57, R66). -/
structure Device.Kept (d d' : Device) : Prop where
  queue : d.endpoint.queue.length ≤ Config.maxRequests →
    d'.endpoint.queue.length ≤ Config.maxRequests
  events : d.endpoint.events.length ≤ Config.maxEvents →
    d'.endpoint.events.length ≤ Config.maxEvents
  contexts : d.contexts.length ≤ Config.maxContexts → d'.contexts.length ≤ Config.maxContexts
  slots : d.slots.sorted → d'.slots.sorted
  pool : d.poolOk → d'.poolOk

/-- The second part differs from the first in the listed fields alone, and keeps its bounds. -/
structure Device.Writes (fs : List Field) (d d' : Device) : Prop where
  same : ∀ f, f ∉ fs → f.agrees d d'
  kept : d.Kept d'

namespace Device.Writes

variable {fs gs : List Field} {d d' d'' : Device}

set_option Elab.async false in
theorem refl (d : Device) : Writes fs d d := ⟨fun f _ => by cases f <;> rfl, ⟨id, id, id, id, id⟩⟩

/-- One more operation, which writes no other field. -/
theorem andThen (h : Writes fs d d') (g : Writes gs d' d'') (sub : gs ⊆ fs := by decide) :
    Writes fs d d'' := by
  obtain ⟨same, queue, events, contexts, slots, pool⟩ := h
  obtain ⟨same', queue', events', contexts', slots', pool'⟩ := g
  refine ⟨fun f hf => ?_, queue' ∘ queue, events' ∘ events, contexts' ∘ contexts, slots' ∘ slots,
    pool' ∘ pool⟩
  have h1 := same f hf
  have h2 := same' f (fun hg => hf (sub hg))
  cases f <;> exact Eq.trans h2 h1

theorem mono (h : Writes gs d d') (sub : gs ⊆ fs := by decide) : Writes fs d d' :=
  (refl d).andThen h sub

theorem foldl {α : Type} {f : Device → α → Device} (h : ∀ d x, Writes fs d (f d x)) (xs : List α)
    (d : Device) : Writes fs d (xs.foldl f d) := by
  induction xs generalizing d with
  | nil => exact refl d
  | cons x xs ih => exact (h d x).andThen (ih _) (List.Subset.refl fs)

section Fields

theorem now (h : Writes fs d d') (hf : Field.now ∉ fs := by decide) : d'.now = d.now := h.same _ hf
theorem inReset (h : Writes fs d d') (hf : Field.inReset ∉ fs := by decide) :
    d'.inReset = d.inReset := h.same _ hf
theorem lines (h : Writes fs d d') (hf : Field.lines ∉ fs := by decide) : d'.lines = d.lines :=
  h.same _ hf
theorem trunkAdm (h : Writes fs d d') (hf : Field.trunkAdm ∉ fs := by decide) :
    d'.trunkAdm = d.trunkAdm := h.same _ hf
theorem branchAdm (h : Writes fs d d') (hf : Field.branchAdm ∉ fs := by decide) :
    d'.branchAdm = d.branchAdm := h.same _ hf
theorem openedAt (h : Writes fs d d') (hf : Field.openedAt ∉ fs := by decide) :
    d'.openedAt = d.openedAt := h.same _ hf
theorem accumulators (h : Writes fs d d') (hf : Field.accumulators ∉ fs := by decide) :
    d'.accumulators = d.accumulators := h.same _ hf
theorem meters (h : Writes fs d d') (hf : Field.meters ∉ fs := by decide) :
    d'.meters = d.meters := h.same _ hf
set_option Elab.async false in
theorem circuitCounters (h : Writes fs d d') (hf : Field.circuitCounters ∉ fs := by decide) :
    d'.circuitCounters = d.circuitCounters := h.same _ hf
theorem pool (h : Writes fs d d') (hf : Field.pool ∉ fs := by decide) : d'.pool = d.pool := h.same _ hf
theorem timer (h : Writes fs d d') (hf : Field.timer ∉ fs := by decide) : d'.timer = d.timer :=
  h.same _ hf
theorem egress (h : Writes fs d d') (hf : Field.egress ∉ fs := by decide) :
    d'.egress = d.egress := h.same _ hf
theorem slots (h : Writes fs d d') (hf : Field.slots ∉ fs := by decide) : d'.slots = d.slots :=
  h.same _ hf
theorem trunkTx (h : Writes fs d d') (hf : Field.trunkTx ∉ fs := by decide) :
    d'.trunkTx = d.trunkTx := h.same _ hf
theorem seqs (h : Writes fs d d') (hf : Field.seqs ∉ fs := by decide) : d'.seqs = d.seqs := h.same _ hf
theorem stations (h : Writes fs d d') (hf : Field.stations ∉ fs := by decide) :
    d'.stations = d.stations := h.same _ hf
theorem contexts (h : Writes fs d d') (hf : Field.contexts ∉ fs := by decide) :
    d'.contexts = d.contexts := h.same _ hf
theorem tables (h : Writes fs d d') (hf : Field.tables ∉ fs := by decide) :
    d'.tables = d.tables := h.same _ hf
theorem change (h : Writes fs d d') (hf : Field.change ∉ fs := by decide) :
    d'.change = d.change := h.same _ hf
theorem endpoint (h : Writes fs d d') (hf : Field.endpoint ∉ fs := by decide) :
    d'.endpoint = d.endpoint := h.same _ hf
set_option Elab.async false in
theorem queued (h : Writes fs d d') (l : Line) (c : Class) (hf : Field.queued ∉ fs := by decide) :
    (d'.queue l c).map Entry.frame = (d.queue l c).map Entry.frame :=
  congrFun (congrFun (h.same _ hf) l) c
theorem core (h : Writes fs d d') (k : Branch) (hf : Field.cores ∉ fs := by decide) :
    (d'.seq k).core = (d.seq k).core := congrFun (h.same _ hf) k

end Fields

end Device.Writes

open Device (Writes)

/- ### Updates of one field -/

section Updates

variable (d : Device)

theorem setLineIf_writes (l : Line) (x : LineIf) : Writes [.lines] d (d.setLineIf l x) :=
  ⟨fun f hf => by cases f <;> first | rfl | simp at hf, ⟨id, id, id, id, id⟩⟩

theorem setAdmission_writes (k : Branch) (a : BranchAdmission) :
    Writes [.branchAdm] d (d.setAdmission k a) :=
  ⟨fun f hf => by cases f <;> first | rfl | simp at hf, ⟨id, id, id, id, id⟩⟩

theorem setEgr_writes (l : Line) (x : Egress) : Writes [.egress, .queued] d (d.setEgr l x) :=
  ⟨fun f hf => by cases f <;> first | rfl | simp at hf, ⟨id, id, id, id, id⟩⟩

/-- A write of a line's egress that leaves the frames of its queues where they are. -/
theorem setEgr_frames_writes {l : Line} {x : Egress}
    (h : ∀ c, (x.queues.get c).map Entry.frame = (d.queue l c).map Entry.frame) :
    Writes [.egress] d (d.setEgr l x) := by
  have frames : (fun m c => ((d.setEgr l x).queue m c).map Entry.frame) =
      fun m c => (d.queue m c).map Entry.frame := by
    funext m c
    unfold Device.queue Device.egr Device.setEgr
    by_cases same : m = l
    · subst same
      rw [PerLine.get_set_self]
      exact h c
    · rw [PerLine.get_set_of_ne _ _ same]
  exact ⟨fun f hf => by cases f <;> first | exact frames | rfl | simp at hf, ⟨id, id, id, id, id⟩⟩

theorem setQueue_writes (l : Line) (c : Class) (q : List Entry) :
    Writes [.egress, .queued] d (d.setQueue l c q) := setEgr_writes ..

/-- A write of a class queue that leaves its frames where they are. -/
theorem setQueue_frames_writes {l : Line} {c : Class} {q : List Entry}
    (h : q.map Entry.frame = (d.queue l c).map Entry.frame) :
    Writes [.egress] d (d.setQueue l c q) := by
  refine setEgr_frames_writes d fun b => ?_
  dsimp only
  by_cases same : b = c
  · subst same
    rw [PerClass.get_set_self]
    exact h
  · rw [PerClass.get_set_of_ne _ _ same]
    rfl

theorem setCredits_writes (l : Line) (c : Credits) : Writes [.egress] d (d.setCredits l c) :=
  setEgr_frames_writes d fun _ => rfl

theorem setRelease_writes (l : Line) (c : Class) (e : Option Nat) :
    Writes [.egress] d (d.setRelease l c e) := setEgr_frames_writes d fun _ => rfl

theorem setSeq_writes (k : Branch) (q : Sequencer) : Writes [.seqs, .cores] d (d.setSeq k q) :=
  ⟨fun f hf => by cases f <;> first | rfl | simp at hf, ⟨id, id, id, id, id⟩⟩

/-- A write of a sequencer that leaves its core as it is. -/
theorem setSeq_core_writes {k : Branch} {q : Sequencer} (h : q.core = (d.seq k).core) :
    Writes [.seqs] d (d.setSeq k q) := by
  have cores : (fun j => ((d.setSeq k q).seq j).core) = fun j => (d.seq j).core := by
    funext j
    unfold Device.seq Device.setSeq
    by_cases same : j = k
    · subst same
      rw [PerBranch.get_set_self]
      exact h
    · rw [PerBranch.get_set_of_ne _ _ same]
  exact ⟨fun f hf => by cases f <;> first | exact cores | rfl | simp at hf, ⟨id, id, id, id, id⟩⟩

set_option Elab.async false in
theorem stations_writes (x : Table Station) : Writes [.stations] d { d with stations := x } :=
  ⟨fun f hf => by cases f <;> first | rfl | simp at hf, ⟨id, id, id, id, id⟩⟩

theorem setStation_writes (k : Branch) (s : Nat) (x : Station) :
    Writes [.stations] d (d.setStation k s x) := stations_writes ..

theorem setMeterState_writes (m : Nat) (x : MeterState) :
    Writes [.meters] d (d.setMeterState m x) :=
  ⟨fun f hf => by cases f <;> first | rfl | simp at hf, ⟨id, id, id, id, id⟩⟩

theorem pool_writes (p : Pool) (h : PoolAgrees d.pool d.contexts → PoolAgrees p d.contexts) :
    Writes [.pool] d { d with pool := p } :=
  ⟨fun f hf => by cases f <;> first | rfl | simp at hf,
    ⟨id, id, id, id, fun ok => (poolOk_iff _).2 (h ((poolOk_iff d).1 ok))⟩⟩

theorem releaseFrame_writes (ref : Nat) : Writes [.pool] d (d.releaseFrame ref) :=
  pool_writes _ _ (·.release ref)

theorem takeFrame_writes (ref : Nat) : Writes [.pool] d (d.takeFrame ref) :=
  pool_writes _ _ (·.take ref)

theorem slots_writes (t : Table Nat) (h : d.slots.sorted → t.sorted) :
    Writes [.slots] d { d with slots := t } :=
  ⟨fun f hf => by cases f <;> first | rfl | simp at hf,
    ⟨id, id, id, h, id⟩⟩

theorem endpoint_writes (p : Endpoint)
    (hq : d.endpoint.queue.length ≤ Config.maxRequests → p.queue.length ≤ Config.maxRequests)
    (he : d.endpoint.events.length ≤ Config.maxEvents → p.events.length ≤ Config.maxEvents) :
    Writes [.endpoint] d { d with endpoint := p } :=
  ⟨fun f hf => by cases f <;> first | rfl | simp at hf,
    ⟨hq, he, id, id, id⟩⟩

theorem trunkTx_writes (x : Option TrunkSending) : Writes [.trunkTx] d { d with trunkTx := x } :=
  ⟨fun f hf => by cases f <;> first | rfl | simp at hf, ⟨id, id, id, id, id⟩⟩

theorem change_writes (x : Change) : Writes [.change] d { d with change := x } :=
  ⟨fun f hf => by cases f <;> first | rfl | simp at hf, ⟨id, id, id, id, id⟩⟩

theorem contexts_writes (p : Pool) (cs : List Context)
    (h : d.contexts.length ≤ Config.maxContexts → cs.length ≤ Config.maxContexts)
    (hp : PoolAgrees d.pool d.contexts → PoolAgrees p cs) :
    Writes [.pool, .contexts] d { d with pool := p, contexts := cs } :=
  ⟨fun f hf => by cases f <;> first | rfl | simp at hf,
    ⟨id, id, h, id, fun ok => (poolOk_iff _).2 (hp ((poolOk_iff d).1 ok))⟩⟩

theorem circuitCounters_writes (t : Table (Table Nat)) :
    Writes [.circuitCounters] d { d with circuitCounters := t } :=
  ⟨fun f hf => by cases f <;> first | rfl | simp at hf, ⟨id, id, id, id, id⟩⟩

set_option Elab.async false in
theorem accumulators_writes (x : PerLine Nat) :
    Writes [.accumulators] d { d with accumulators := x } :=
  ⟨fun f hf => by cases f <;> first | rfl | simp at hf, ⟨id, id, id, id, id⟩⟩

end Updates

/- ### Counters, reasons and events -/

section Flags

variable (d : Device)

theorem bumpLineBy_writes (l : Line) (c : LineCounter) (n : Nat) :
    Writes [.lines] d (d.bumpLineBy l c n) := setLineIf_writes ..

theorem bumpLine_writes (l : Line) (c : LineCounter) : Writes [.lines] d (d.bumpLine l c) :=
  setLineIf_writes ..

theorem bumpCircuitBy_writes (cid : Nat) (c : CircuitCounter) (n : Nat) :
    Writes [.circuitCounters] d (d.bumpCircuitBy cid c n) := by
  unfold Device.bumpCircuitBy
  split
  · exact .refl d
  · exact circuitCounters_writes ..

theorem bumpCircuit_writes (cid : Nat) (c : CircuitCounter) :
    Writes [.circuitCounters] d (d.bumpCircuit cid c) := bumpCircuitBy_writes ..

theorem bumpStation_writes (k : Branch) (s : Nat) (c : StationCounter) :
    Writes [.stations] d (d.bumpStation k s c) := setStation_writes ..

theorem countReason_writes (l : Line) (cid : Nat) (r : Reason) :
    Writes [.lines, .circuitCounters] d (d.countReason l cid r) := by
  unfold Device.countReason
  split
  · exact (bumpLine_writes ..).mono
  · exact (bumpLine_writes ..).mono.andThen (bumpCircuit_writes ..)

theorem dropFrame_writes (l : Line) (ref : Nat) (r : Reason) :
    Writes [.lines, .circuitCounters, .pool] d (d.dropFrame l ref r) := by
  unfold Device.dropFrame
  split
  · exact (bumpLine_writes ..).mono
  · exact (countReason_writes ..).mono.andThen (releaseFrame_writes ..)

theorem bumpBoth_writes (k : Branch) (s : Nat) (lc : LineCounter) (sc : StationCounter) :
    Writes [.lines, .stations] d (d.bumpBoth k s lc sc) :=
  (bumpLine_writes ..).mono.andThen (bumpStation_writes ..)

theorem joinEvent_writes (e : Event) : Writes [.endpoint] d (joinEvent e d) := by
  unfold joinEvent
  dsimp only
  split
  · rename_i room
    exact endpoint_writes _ _ id fun _ => by simpa using room
  · exact endpoint_writes _ _ id id

theorem raiseEvent_writes (kind : EventKind) (line : Option Line) (station : Option Nat)
    (detail : Nat) : Writes [.endpoint] d (raiseEvent kind line station detail d) :=
  joinEvent_writes ..

theorem placeAttention_writes : Writes [.endpoint] d (placeAttention d) := by
  unfold placeAttention
  split
  · exact .refl d
  · exact .refl d
  · exact .refl d
  · split
    · exact endpoint_writes _ _ id id
    · exact .refl d

set_option Elab.async false in
theorem startRecord_writes : Writes [.trunkTx, .endpoint] d (startRecord d) := by
  unfold startRecord
  split
  · exact ⟨fun f hf => by cases f <;> first | rfl | simp at hf, ⟨id, id, id, id, id⟩⟩
  · exact .refl d

theorem headerErrorOn_writes (l : Line) : Writes [.lines, .endpoint] d (headerErrorOn l d) := by
  unfold headerErrorOn
  dsimp only
  split
  · exact ((setLineIf_writes ..).mono.andThen (bumpLine_writes ..)).andThen (raiseEvent_writes ..)
  · exact (setLineIf_writes ..).mono.andThen (bumpLine_writes ..)

theorem payloadErrorOn_writes (l : Line) : Writes [.lines] d (payloadErrorOn l d) :=
  (setLineIf_writes ..).andThen (bumpLine_writes ..)

end Flags

/- ### Egress queues, slots and the Trunk Transmitter -/

section Egress

variable (d : Device)

theorem setHold_writes (l : Line) (c : Class) (n : Nat) : Writes [.egress] d (setHold l c n d) := by
  unfold setHold
  dsimp only
  split
  · exact setRelease_writes ..
  · exact .refl d

theorem startTrunkFrame_writes (cid ref : Nat) :
    Writes [.trunkTx] d (startTrunkFrame cid ref d) := trunkTx_writes ..

theorem startTrunkSlot_writes (cid ref : Nat) :
    Writes [.trunkTx, .slots] d (startTrunkSlot cid ref d) :=
  (slots_writes _ _ (Table.sorted_erase · _)).mono.andThen (startTrunkFrame_writes ..)

theorem startTrunkClass_writes (c : Class) :
    Writes [.trunkTx, .egress, .queued] d (startTrunkClass c d) := by
  unfold startTrunkClass
  split
  · exact .refl d
  · exact ((setQueue_writes ..).mono.andThen (setHold_writes ..)).andThen (startTrunkFrame_writes ..)

theorem trunkSelect_writes : Writes [.trunkTx, .egress, .queued] d (trunkSelect d) := by
  unfold trunkSelect
  split
  · exact (setCredits_writes ..).mono.andThen (startTrunkClass_writes ..)
  · exact .refl d

theorem trunkChoose_writes :
    Writes [.trunkTx, .endpoint, .slots, .egress, .queued] d (trunkChoose d) := by
  unfold trunkChoose
  split
  · exact .refl d
  · exact (startRecord_writes d).mono
  · split
    · split
      · exact (startTrunkSlot_writes ..).mono
      · exact (trunkSelect_writes d).mono
    · exact .refl d

theorem dropSlot_writes (l : Line) (r : Reason) (slot : Nat × Nat) :
    Writes [.lines, .circuitCounters, .pool, .slots] d (dropSlot l r d slot) :=
  (slots_writes _ _ (Table.sorted_erase · _)).mono.andThen (dropFrame_writes ..)

theorem discardLate_writes :
    Writes [.lines, .circuitCounters, .pool, .slots] d (discardLate d) :=
  .foldl (fun d x => dropSlot_writes d .t .late x) _ d

theorem flushSlots_writes (l : Line) :
    Writes [.lines, .circuitCounters, .pool, .slots] d (flushSlots l d) :=
  .foldl (fun d x => dropSlot_writes d l .flushed x) _ d

set_option Elab.async false in
theorem flushQueue_writes (l : Line) (c : Class) :
    Writes [.lines, .circuitCounters, .pool, .egress, .queued] d (flushQueue l d c) :=
  (setQueue_writes ..).mono.andThen
    (.foldl (fun d (e : Entry) => dropFrame_writes d l e.frame .flushed) _ _)

theorem flushQueues_writes (l : Line) :
    Writes [.lines, .circuitCounters, .pool, .egress, .queued] d (flushQueues l d) :=
  .foldl (fun d c => flushQueue_writes d l c) _ d

theorem flushTrunk_writes :
    Writes [.lines, .circuitCounters, .pool, .egress, .queued, .slots] d (flushTrunk d) :=
  (flushQueues_writes ..).mono.andThen (flushSlots_writes ..)

end Egress

/- ### Claims, meters and thinning -/

section Buffers

variable (d : Device)

theorem considerPoolEmpty_writes (l : Line) (station : Option Nat) (n : Nat) :
    Writes [.pool, .endpoint] d (considerPoolEmpty l station n d) := by
  unfold considerPoolEmpty
  split
  · exact (pool_writes d _ (·.counts)).mono.andThen (raiseEvent_writes ..)
  · exact .refl d

theorem storeReceipt_writes (k : Branch) (f : BranchFrame) (room : 1 ≤ d.pool.free.length) :
    Writes [.pool, .endpoint] d (storeReceipt k f d) :=
  (pool_writes _ _ fun ok => ok.charge_hold (f := receivedFrame k f (d.blockFor f.payload))
    (Nat.le_refl 1) room (blockFor_number d f.payload room)).mono.andThen
    (considerPoolEmpty_writes ..)

theorem colourFrame_writes (m n : Nat) : Writes [.meters] d (colourFrame m n d) :=
  setMeterState_writes ..

theorem refillMeter_writes (m : Nat) : Writes [.meters] d (refillMeter d m) :=
  setMeterState_writes ..

theorem refillMeters_writes : Writes [.meters] d (refillMeters d) :=
  .foldl (fun d m => refillMeter_writes d m) _ d

theorem fillMeter_writes (m : Nat) : Writes [.meters] d (fillMeter m d) := setMeterState_writes ..

theorem thinLine_writes (l : Line) : Writes [.accumulators] d (thinLine l d) :=
  accumulators_writes ..

end Buffers

/- ### Stations -/

section Stations

variable (d : Device) (k : Branch) (s : Nat)

theorem rewindDelivery_writes : Writes [.egress, .seqs] d (rewindDelivery k s d) := by
  unfold rewindDelivery
  split
  · exact .refl d
  · split
    · exact .refl d
    · rename_i e es head
      split
      · exact (setQueue_frames_writes d (by rw [head]; rfl)).mono.andThen
          (setSeq_core_writes _ rfl)
      · exact .refl d

theorem markResync_writes : Writes [.stations, .egress, .seqs] d (markResync k s d) :=
  (setStation_writes ..).mono.andThen (rewindDelivery_writes ..)

set_option Elab.async false in
theorem markResyncAll_writes : Writes [.stations, .egress, .seqs] d (markResyncAll k d) := by
  refine .foldl (fun d s => ?_) _ d
  split
  · exact markResync_writes ..
  · exact .refl d

theorem resyncOnReply_writes : Writes [.stations] d (resyncOnReply k s d) := by
  unfold resyncOnReply
  dsimp only
  split
  · exact setStation_writes ..
  · exact .refl d

theorem flipDown_writes : Writes [.stations] d (flipDown k s d) := by
  unfold flipDown
  dsimp only
  split
  · exact .refl d
  · exact setStation_writes ..

theorem flipUp_writes : Writes [.stations] d (flipUp k s d) := by
  unfold flipUp
  dsimp only
  split
  · exact .refl d
  · exact setStation_writes ..

theorem putFaulted_writes : Writes [.stations, .egress, .seqs] d (putFaulted k s d) :=
  (setStation_writes ..).mono.andThen (markResync_writes ..)

theorem stationSuccess_writes : Writes [.stations, .endpoint] d (stationSuccess k s d) := by
  unfold stationSuccess
  dsimp only
  split
  · exact .refl d
  · exact (setStation_writes ..).mono
  · exact (setStation_writes ..).mono
  · exact (setStation_writes ..).mono.andThen (raiseEvent_writes ..)

theorem stationFails_writes :
    Writes [.stations, .egress, .seqs, .endpoint] d (stationFails k s d) := by
  have counted := (setStation_writes d k s { d.station k s with
      failureCount := (d.station k s).failureCount + 1 }).andThen
    (bumpStation_writes _ k s .failedTransactions)
  unfold stationFails
  dsimp only
  split
  · exact (counted.mono.andThen (putFaulted_writes ..)).andThen (raiseEvent_writes ..)
  · split
    · exact (counted.mono.andThen (setStation_writes ..)).andThen (raiseEvent_writes ..)
    · exact counted.mono.andThen (setStation_writes ..)

theorem stationFailure_writes (isProbe : Bool) :
    Writes [.stations, .egress, .seqs, .endpoint] d (stationFailure k s isProbe d) := by
  unfold stationFailure
  dsimp only
  split
  · split
    · exact .refl d
    · exact (bumpStation_writes ..).mono
  · exact stationFails_writes ..
  · exact stationFails_writes ..
  · exact (setStation_writes ..).mono

theorem stationFaultReply_writes (code : Nat) :
    Writes [.stations, .egress, .seqs, .endpoint] d (stationFaultReply k s code d) := by
  have faulted := ((setStation_writes d k s { d.station k s with lastFaultCode := code }).andThen
    (bumpStation_writes _ k s .faultReplies)).mono (fs := [.stations, .egress, .seqs, .endpoint])
    |>.andThen (putFaulted_writes _ k s)
  unfold stationFaultReply
  dsimp only
  split
  · exact (bumpStation_writes ..).mono
  · exact faulted
  · exact faulted.andThen (raiseEvent_writes ..)

theorem reportOutcome_writes (isProbe : Bool) (o : Outcome) :
    Writes [.stations, .egress, .seqs, .endpoint] d (reportOutcome k s isProbe o d) := by
  unfold reportOutcome
  split
  · exact (stationSuccess_writes ..).mono
  · exact stationFaultReply_writes ..
  · split
    · exact stationFailure_writes ..
    · exact .refl d

theorem countDownStation_writes : Writes [.stations] d (countDownStation k d s) := by
  unfold countDownStation
  dsimp only
  split
  · exact setStation_writes ..
  · exact .refl d

theorem countDownProbes_writes : Writes [.stations] d (countDownProbes d) := by
  refine .foldl (fun d k => ?_) _ d
  split
  · exact .foldl (fun d s => countDownStation_writes d k s) _ d
  · exact .refl d

set_option Elab.async false in
theorem clearServiced_writes : Writes [.stations] d (clearServiced k d) :=
  .foldl (fun d s => setStation_writes d k s _) _ d

end Stations

/- ### Branch Sequencers -/

section Branches

variable (d : Device) (k : Branch)

theorem sendBranch_writes (role : TxRole) (f : BranchFrame) :
    Writes [.seqs, .cores] d (sendBranch k role f d) := setSeq_writes ..

theorem startAttempt_writes (r : InFlight) : Writes [.seqs, .cores] d (startAttempt k r d) :=
  (setSeq_writes ..).andThen (sendBranch_writes ..)

theorem startExchange_writes (e : Element) : Writes [.seqs, .cores, .pool] d (startExchange k e d) := by
  unfold startExchange
  dsimp only
  split
  · exact (takeFrame_writes ..).mono.andThen (startAttempt_writes ..)
  · exact (startAttempt_writes ..).mono

theorem setElement_writes (index : Nat) (status : ElementStatus) :
    Writes [.seqs] d (setElement k index status d) := setSeq_core_writes d rfl

theorem missElement_writes (e : Element) :
    Writes [.seqs, .lines, .stations] d (missElement k d e) :=
  (setElement_writes ..).mono.andThen (bumpBoth_writes ..)

theorem skipElement_writes (e : Element) :
    Writes [.seqs, .lines, .stations] d (skipElement k d e) :=
  (setElement_writes ..).mono.andThen (bumpBoth_writes ..)

theorem removeHead_writes (c : Class) (rest : List Entry) :
    Writes [.egress, .queued, .seqs] d (removeHead k c rest d) := by
  unfold removeHead
  dsimp only
  split
  · exact (setQueue_writes ..).mono.andThen (setSeq_core_writes _ rfl)
  · exact (setQueue_writes ..).mono

theorem sweepQueue_writes (c : Class) (q : List Entry) :
    Writes [.egress, .queued, .seqs, .lines, .circuitCounters, .pool] d (sweepQueue k c q d) := by
  induction q generalizing d with
  | nil => exact .refl d
  | cons e es ih =>
    unfold sweepQueue
    split
    · exact .refl d
    · exact ((removeHead_writes ..).mono.andThen (dropFrame_writes ..)).andThen (ih _)

theorem sweepClass_writes (c : Class) :
    Writes [.egress, .queued, .seqs, .lines, .circuitCounters, .pool] d (sweepClass k d c) := by
  unfold sweepClass
  split
  · exact sweepQueue_writes ..
  · exact .refl d

theorem sweep_writes :
    Writes [.egress, .queued, .seqs, .lines, .circuitCounters, .pool] d (sweep k d) :=
  .foldl (fun d c => sweepClass_writes d k c) _ d

theorem startDeliver_writes (c : Class) : Writes [.egress, .seqs, .cores] d (startDeliver k c d) := by
  unfold startDeliver
  split
  · exact .refl d
  · exact (setHold_writes ..).mono.andThen (startAttempt_writes ..)

set_option Elab.async false in
theorem markServiced_writes (s : Nat) : Writes [.stations] d (markServiced k s d) :=
  setStation_writes ..

theorem startService_writes : Writes [.stations, .seqs, .cores] d (startService k d) := by
  unfold startService
  split
  · exact .refl d
  · exact ((markServiced_writes ..).mono.andThen (setSeq_writes ..)).andThen (startAttempt_writes ..)

theorem startProbe_writes (s : Nat) : Writes [.stations, .seqs, .cores] d (startProbe k s d) :=
  (markServiced_writes ..).mono.andThen (startAttempt_writes ..)

theorem setSeqState_writes (st : SeqState) : Writes [.seqs, .cores] d (setSeqState k st d) :=
  setSeq_writes ..

theorem startPick_writes (s : Source) :
    Writes [.stations, .egress, .seqs, .cores] d (startPick k s d) := by
  cases s with
  | cls c => exact (startDeliver_writes ..).mono
  | service => exact (startService_writes ..).mono

/-- The fields that a branch's selection writes. -/
abbrev selectionFields : List Field :=
  [.egress, .queued, .seqs, .cores, .lines, .circuitCounters, .pool, .stations]

theorem selectBranch_writes : Writes selectionFields d (selectBranch k d) := by
  unfold selectBranch
  dsimp only
  split
  · exact (sweep_writes ..).mono.andThen (setSeqState_writes ..)
  · exact (((sweep_writes ..).mono.andThen (setCredits_writes ..)).andThen (setSeqState_writes ..)).andThen
      (startPick_writes ..)

theorem aperiodicStep_writes : Writes selectionFields d (aperiodicStep k d) := by
  have free := (setSeqState_writes d k .aperiodic).mono (fs := selectionFields)
  unfold aperiodicStep
  dsimp only
  split
  · exact free.andThen (selectBranch_writes ..)
  · split
    · exact free.andThen (startProbe_writes ..)
    · exact free.andThen (selectBranch_writes ..)

theorem periodicStep_writes (es : List Element) :
    Writes selectionFields d (periodicStep k es d) := by
  induction es generalizing d with
  | nil => exact aperiodicStep_writes ..
  | cons e es ih =>
    unfold periodicStep
    split
    · exact (skipElement_writes ..).mono.andThen (ih _)
    · split
      · exact (missElement_writes ..).mono.andThen (ih _)
      · exact (startExchange_writes ..).mono

theorem wakeBranch_writes : Writes selectionFields d (wakeBranch k d) := by
  unfold wakeBranch
  split
  · exact selectBranch_writes ..
  · exact .refl d

theorem beginCycle_writes (cycle : Cycle) (deadline : Nat) :
    Writes [.seqs, .cores, .lines, .stations] d (beginCycle k cycle deadline d) :=
  ((((Writes.foldl (fun d e => missElement_writes d k e) _ d).mono.andThen
    (clearServiced_writes ..)).andThen (setSeq_writes ..)).andThen (bumpLine_writes ..)).andThen
    (sendBranch_writes ..)

theorem deferCycle_writes (cycle : Cycle) (deadline : Nat) :
    Writes [.seqs, .lines] d (deferCycle k cycle deadline d) :=
  (setSeq_core_writes d (by rfl)).mono.andThen (bumpLine_writes ..)

theorem branchCycleStart_writes (cycle : Cycle) (deadline : Nat) :
    Writes [.seqs, .cores, .lines, .stations] d (branchCycleStart cycle deadline d k) := by
  unfold branchCycleStart
  split
  · split
    · exact beginCycle_writes ..
    · exact (deferCycle_writes ..).mono
  · exact .refl d

set_option Elab.async false in
theorem abandonContext_writes (reason : LineCounter) {c : Context} (h : c ∈ d.contexts) :
    Writes [.contexts, .pool, .lines] d (abandonContext reason d c) :=
  (contexts_writes d _ _ (List.length_filter_le _ _).trans (·.abandon h)).mono.andThen
    (bumpLine_writes ..)

theorem abandonContexts_contexts (reason : LineCounter) (xs : List Context) :
    (xs.foldl (abandonContext reason) d).contexts ⊆ d.contexts ∧
      (xs.foldl (abandonContext reason) d).contexts.length ≤ d.contexts.length := by
  induction xs generalizing d with
  | nil => exact ⟨List.Subset.refl _, Nat.le_refl _⟩
  | cons x xs ih =>
    obtain ⟨sub, fewer⟩ := ih (abandonContext reason d x)
    exact ⟨List.Subset.trans sub (List.filter_subset' _), fewer.trans (List.length_filter_le _ _)⟩

/-- The contexts of different stations are given up one after another (R69). -/
theorem abandonContexts_pool (reason : LineCounter) {xs : List Context}
    (apart : (xs.map fun c => (c.branch, c.station)).Nodup) (sub : xs ⊆ d.contexts)
    (ok : d.poolOk) : (xs.foldl (abandonContext reason) d).poolOk := by
  induction xs generalizing d with
  | nil => exact ok
  | cons x xs ih =>
    rw [List.map_cons, List.nodup_cons] at apart
    refine ih (abandonContext reason d x) apart.2 (fun y hy => ?_)
      ((abandonContext_writes d reason (sub List.mem_cons_self)).kept.pool ok)
    refine List.mem_filter.2 ⟨sub (List.mem_cons_of_mem x hy), ?_⟩
    simp only [same_station, Bool.not_eq_true', decide_eq_false_iff_not]
    intro same
    exact apart.1 (same ▸ List.mem_map_of_mem (f := fun c : Context => (c.branch, c.station)) hy)

theorem abandonContexts_writes (reason : LineCounter) (p : Context → Bool) :
    Writes [.contexts, .pool, .lines] d ((d.contexts.filter p).foldl (abandonContext reason) d) := by
  have same (f : Field) (hf : f ∉ [Field.contexts, .pool, .lines]) (xs : List Context) :
      f.agrees d (xs.foldl (abandonContext reason) d) :=
    List.foldlRecOn (motive := fun x => f.agrees d x) xs _
      (by cases f <;> rfl) fun x hx c _ => by
        cases f <;> first | exact hx | simp at hf
  refine ⟨fun f hf => same f hf _, ?_⟩
  have endpoint := same .endpoint (by decide) (d.contexts.filter p)
  have slots := same .slots (by decide) (d.contexts.filter p)
  dsimp only [Field.agrees] at endpoint slots
  refine ⟨fun h => ?_, fun h => ?_, fun h => ?_, fun h => ?_, fun ok => ?_⟩
  · rw [endpoint]
    exact h
  · rw [endpoint]
    exact h
  · exact (abandonContexts_contexts d reason _).2.trans h
  · rw [slots]
    exact h
  · have apart := ((poolOk_iff d).1 ok).contexts.apart
    exact abandonContexts_pool d reason (apart.sublist (List.filter_sublist.map _))
      (List.filter_subset' _) ok

theorem flushContexts_writes : Writes [.contexts, .pool, .lines] d (flushContexts k d) :=
  abandonContexts_writes ..

theorem resetCredits_writes (l : Line) : Writes [.egress] d (resetCredits l d) :=
  setCredits_writes ..

theorem cancelReleases_writes (l : Line) : Writes [.egress] d (cancelReleases l d) :=
  setEgr_frames_writes d fun _ => rfl

/-- The fields that the flush of a branch writes. -/
abbrev shutFields : List Field :=
  [.branchAdm, .lines, .circuitCounters, .pool, .egress, .queued, .slots, .contexts, .seqs, .cores,
    .stations]

theorem shutBranch_writes : Writes shutFields d (shutBranch k d) := by
  have flushed := (((setAdmission_writes d k .shut).mono (fs := shutFields)).andThen
    (flushQueues_writes _ k.line)).andThen (flushSlots_writes _ k.line) |>.andThen
    (flushContexts_writes _ k)
  exact (((flushed.andThen (setSeq_writes ..)).andThen (resetCredits_writes ..)).andThen
    (cancelReleases_writes ..)).andThen (markResyncAll_writes ..)

end Branches

/- ### The Classifier -/

section Classifier

variable (d : Device)

theorem discardArriving_writes (a : Arriving) (r : Reason) :
    Writes [.lines, .circuitCounters, .pool] d (discardArriving a r d) := by
  unfold discardArriving
  dsimp only
  split
  · exact (countReason_writes ..).mono
  · exact (countReason_writes ..).mono.andThen (releaseFrame_writes ..)
  · exact (countReason_writes ..).mono.andThen (releaseFrame_writes ..)

theorem claimTrunk_writes (a : Arriving) (c : Circuit) (payload : List Byte) (n : Nat)
    (room : blocksFor a.length ≤ d.pool.free.length) :
    Writes [.pool, .endpoint] d (claimTrunk a c payload n d) :=
  (pool_writes _ _ fun ok => (ok.charge_hold (f := d.acceptedFrame a c payload n)
    (Nat.le_max_left ..) room ((blocksGiven_numbers ..).trans
      (congrArg (d.pool.free.take ·) (pieces_length (blocksFor a.length) payload)))).countShared ..).mono.andThen (considerPoolEmpty_writes ..)

theorem completeDescriptor_writes (ref : Nat) (c : Circuit) (n : Nat) :
    Writes [.pool] d (completeDescriptor ref c n d) := by
  unfold completeDescriptor
  split
  · exact .refl d
  · rename_i f found
    exact pool_writes _ _ fun ok => (ok.rewrite found (f' := { f with
      refs := n, shared := decide (1 < n), fillCycle := d.fillCycleOf c }) rfl rfl).countShared ..

theorem settleBlocks_writes (a : Arriving) (c : Circuit) (n : Nat) (room : d.hasRoom a) :
    Writes [.pool, .endpoint] d (settleBlocks a c n d) := by
  unfold settleBlocks
  split
  · rename_i payload origin
    exact claimTrunk_writes d a c payload n (room payload origin)
  · exact (completeDescriptor_writes ..).mono
  · exact (completeDescriptor_writes ..).mono

set_option Elab.async false in
theorem enqueue_writes (c : Circuit) (cid ref : Nat) (q : Class) (l : Line) :
    Writes [.egress, .queued] d (enqueue c cid ref q d l) := setQueue_writes ..

theorem notice_writes (l : Line) : Writes selectionFields d (notice d l) := by
  unfold notice
  split
  · exact .refl d
  · exact wakeBranch_writes ..

theorem placeAperiodic_writes (c : Circuit) (cid ref : Nat) (q : Class) (lines : List Line) :
    Writes selectionFields d (placeAperiodic c cid ref q lines d) :=
  (Writes.foldl (fun d l => enqueue_writes d c cid ref q l) _ d).mono.andThen
    (.foldl notice_writes _ _)

theorem placePeriodic_writes (cid ref : Nat) (l : Line) :
    Writes [.lines, .circuitCounters, .pool, .slots] d (placePeriodic cid ref l d) := by
  unfold placePeriodic
  dsimp only
  split
  · exact (dropSlot_writes ..).andThen (slots_writes _ _ (Table.sorted_insert · _ _))
  · exact (slots_writes _ _ (Table.sorted_insert · _ _)).mono

/-- The fields that an acceptance writes. -/
abbrev acceptFields : List Field :=
  [.pool, .endpoint, .circuitCounters, .egress, .queued, .seqs, .cores, .lines, .stations, .slots]

theorem acceptFrame_writes (a : Arriving) (c : Circuit) (room : d.hasRoom a) :
    Writes acceptFields d (acceptFrame a c d) := by
  have counted := (((settleBlocks_writes d a c (d.reducedSet c).length room).mono
    (fs := acceptFields)).andThen (bumpCircuit_writes _ a.cid .acceptedFrames)).andThen
    (bumpCircuitBy_writes _ a.cid .acceptedBytes a.length)
  unfold acceptFrame
  dsimp only
  split
  · exact counted.andThen (placeAperiodic_writes ..)
  · exact counted.andThen (placePeriodic_writes ..)

/-- The fields that the classification of a frame writes. -/
abbrev classifyFields : List Field :=
  [.pool, .endpoint, .circuitCounters, .egress, .queued, .seqs, .cores, .lines, .stations, .slots,
    .meters, .accumulators]

theorem meterFrame_writes (a : Arriving) (c : Circuit) (room : d.hasRoom a) :
    Writes classifyFields d (meterFrame a c d) := by
  unfold meterFrame
  split
  · exact (acceptFrame_writes d a c room).mono
  · rename_i m _
    have coloured := (colourFrame_writes d m a.length).mono (fs := classifyFields)
    dsimp only
    split
    · exact coloured.andThen (acceptFrame_writes _ a c room)
    · exact coloured.andThen (acceptFrame_writes _ a c room)
    · split
      · exact (coloured.andThen (thinLine_writes ..)).andThen (discardArriving_writes ..)
      · exact (coloured.andThen (thinLine_writes ..)).andThen (acceptFrame_writes _ a c room)
    · exact coloured.andThen (discardArriving_writes ..)
    · exact coloured.andThen (acceptFrame_writes _ a c room)

theorem classify_writes (a : Arriving) : Writes classifyFields d (classify a d) := by
  unfold classify
  split
  · exact (discardArriving_writes ..).mono
  · rename_i c _
    split
    · exact (discardArriving_writes ..).mono
    · rename_i passed
      exact meterFrame_writes d a c (hasRoom_of_refusal passed)

theorem classifyTrunk_writes (cid priority : Nat) (payload : List Byte) :
    Writes classifyFields d (classifyTrunk cid priority payload d) := by
  unfold classifyTrunk
  dsimp only
  split
  · exact (discardArriving_writes ..).mono
  · exact classify_writes ..

theorem handOver_writes (ref : Nat) (o : Origin) : Writes classifyFields d (handOver ref o d) := by
  unfold handOver
  split
  · exact .refl d
  · dsimp only
    split
    · exact (discardArriving_writes ..).mono
    · exact classify_writes ..

end Classifier

/- ### The Reassembly Unit -/

section Reassembly

variable (d : Device)

/-- A context is opened only where fewer than 16 exist (R149, step 4). -/
theorem openContext_writes (k : Branch) (s : Nat) (f : BranchFrame)
    (h : ¬ Config.maxContexts ≤ d.contexts.length) (room : 1 ≤ d.pool.free.length)
    (alone : d.context? k s = none) :
    Writes [.pool, .contexts, .endpoint] d (openContext k s f d) :=
  (contexts_writes _ _ _ (fun _ => by rw [List.length_append]; exact Nat.lt_of_not_le h) fun ok =>
    ok.openContext room (c :=
      { branch := k, station := s, cid := f.cid, priority := f.priority,
        blocks := [d.blockFor f.payload], startCycle := d.timer.cycle })
      (blockFor_number d f.payload room) (fresh_of_context? alone)).mono.andThen
    (considerPoolEmpty_writes ..)

/-- The part once a FIRST segment has abandoned its station's own context (R149, step 1). -/
def restartedByFirst (k : Branch) (s : Nat) (d : Device) : Device :=
  match d.context? k s with
  | some c => abandonContext .restartedByFirst d c
  | none => d

/-- What a FIRST segment comes to once its station has no context (R149, steps 2 to 6). -/
def takeFirstAlone (k : Branch) (s : Nat) (f : BranchFrame) (d : Device) : SegmentResult :=
  if (d.station k s).state = .absent then .ack (d.bumpLine k.line .unconfigured)
  else if f.payload.length < Config.blockBytes then .ack (d.bumpLine k.line .malformed)
  else if Config.maxContexts ≤ d.contexts.length then .busy d
  else match d.receiptRefusal k with
    | some _ => .busy d
    | none => .ack (openContext k s f d)

theorem takeFirst_eq (k : Branch) (s : Nat) (f : BranchFrame) :
    takeFirst k s f d = takeFirstAlone k s f (restartedByFirst k s d) := by
  unfold takeFirst takeFirstAlone restartedByFirst
  rfl

theorem restartedByFirst_writes (k : Branch) (s : Nat) :
    Writes [.contexts, .pool, .lines] d (restartedByFirst k s d) := by
  unfold restartedByFirst
  split
  · rename_i c found
    exact abandonContext_writes d _ (mem_of_context? found).1
  · exact .refl d

set_option Elab.async false in
/-- After its own context has been abandoned a station has none (R147, R149). -/
theorem restartedByFirst_alone (k : Branch) (s : Nat) :
    (restartedByFirst k s d).context? k s = none := by
  unfold restartedByFirst
  split
  · rename_i c found
    obtain ⟨-, branch, station⟩ := mem_of_context? found
    refine List.find?_eq_none.2 fun x hx => ?_
    have other := (List.mem_filter.1 hx).2
    rw [branch, station] at other
    simp only [Bool.not_eq_true'] at other
    rw [other]
    exact Bool.false_ne_true
  · assumption

theorem takeFirstAlone_writes (k : Branch) (s : Nat) (f : BranchFrame)
    (alone : d.context? k s = none) :
    Writes [.pool, .contexts, .endpoint, .lines] d (takeFirstAlone k s f d).dev := by
  unfold takeFirstAlone
  split
  · exact (bumpLine_writes ..).mono
  · split
    · exact (bumpLine_writes ..).mono
    · split
      · exact .refl d
      · rename_i room
        split
        · exact .refl d
        · rename_i met
          exact (openContext_writes d k s f room (room_of_receiptRefusal met) alone).mono

theorem takeFirst_writes (k : Branch) (s : Nat) (f : BranchFrame) :
    Writes [.pool, .contexts, .endpoint, .lines] d (takeFirst k s f d).dev := by
  rw [takeFirst_eq]
  exact (restartedByFirst_writes ..).mono.andThen (takeFirstAlone_writes _ k s f (restartedByFirst_alone d k s))

theorem appendMiddle_writes {c : Context} (f : BranchFrame) (hc : c ∈ d.contexts)
    (room : 1 ≤ d.pool.free.length) :
    Writes [.pool, .contexts, .endpoint] d (appendMiddle c f d) :=
  (contexts_writes _ _ _ ((List.length_map _).trans_le ·)
    (·.append hc room (blockFor_number d f.payload room))).mono.andThen
    (considerPoolEmpty_writes ..)

theorem completeContext_writes {c : Context} (f : BranchFrame) (hc : c ∈ d.contexts)
    (room : 1 ≤ d.pool.free.length) :
    Writes [.pool, .contexts, .endpoint, .lines] d (completeContext c f d) :=
  ((contexts_writes _ _ _ (List.length_filter_le _ _).trans
    (·.complete hc room (blockFor_number d f.payload room)
      (f := c.completedFrame (d.blockFor f.payload)) rfl rfl)).mono.andThen
    (bumpLine_writes ..)).andThen (considerPoolEmpty_writes ..)

theorem takeNext_writes (k : Branch) (s : Nat) (f : BranchFrame) :
    Writes [.pool, .contexts, .endpoint, .lines] d (takeNext k s f d).dev := by
  unfold takeNext
  split
  · exact (bumpLine_writes ..).mono
  · rename_i c found
    have member := (mem_of_context? found).1
    split
    · exact (abandonContext_writes d _ member).mono
    · split
      · exact .refl d
      · rename_i met
        have room := room_of_receiptRefusal met
        split
        · exact completeContext_writes d f member room
        · exact (appendMiddle_writes d f member room).mono

theorem takeSegment_writes (k : Branch) (s : Nat) (f : BranchFrame) :
    Writes [.pool, .contexts, .endpoint, .lines] d (takeSegment k s f d).dev := by
  unfold takeSegment
  split
  · exact takeFirst_writes ..
  · exact takeNext_writes ..

theorem ageContexts_writes : Writes [.contexts, .pool, .lines] d (ageContexts d) :=
  abandonContexts_writes ..

end Reassembly

/- ### Branch transactions -/

section Transactions

variable (d : Device) (k : Branch)

theorem readyResponse_writes : Writes [.endpoint] d (readyResponse k d) := by
  unfold readyResponse
  split
  · split
    · exact endpoint_writes _ _ id id
    · exact .refl d
  · exact .refl d

/-- The fields that a sequencer's next step writes. -/
abbrev nextStepFields : List Field :=
  [.branchAdm, .lines, .circuitCounters, .pool, .egress, .queued, .slots, .contexts, .seqs, .cores,
    .stations, .endpoint]

theorem becomeShut_writes : Writes nextStepFields d (becomeShut k d) :=
  ((shutBranch_writes ..).mono.andThen (raiseEvent_writes ..)).andThen (readyResponse_writes ..)

theorem nextStep_writes : Writes nextStepFields d (nextStep k d) := by
  unfold nextStep
  split
  · exact becomeShut_writes ..
  · exact .refl d
  · split
    · exact (beginCycle_writes ..).mono
    · exact (periodicStep_writes ..).mono
    · exact (aperiodicStep_writes ..).mono
    · exact .refl d
    · exact .refl d

theorem setInFlight_writes (r : Option InFlight) : Writes [.seqs, .cores] d (setInFlight k r d) :=
  setSeq_writes ..

set_option Elab.async false in
theorem handOverReceived_writes (r : InFlight) :
    Writes classifyFields d (handOverReceived k r d) := by
  unfold handOverReceived
  split
  · exact .refl d
  · exact handOver_writes ..
  · exact handOver_writes ..

theorem emptyDeliveredSlot_writes (output : Option Nat) (ref : Nat) :
    Writes [.slots, .pool] d (emptyDeliveredSlot output ref d) := by
  unfold emptyDeliveredSlot
  split
  · exact .refl d
  · split
    · exact (slots_writes _ _ (Table.sorted_erase · _)).mono.andThen (releaseFrame_writes ..)
    · exact .refl d

theorem finishExchange_writes (output outputFrame : Option Nat) (delivered : Bool) :
    Writes [.slots, .pool] d (finishExchange output outputFrame delivered d) := by
  unfold finishExchange
  split
  · exact .refl d
  · refine Writes.andThen (d' := ite (delivered = true) _ _) ?_ (releaseFrame_writes ..)
    split
    · exact emptyDeliveredSlot_writes ..
    · exact .refl d

theorem holdClass_writes (c : Class) : Writes [.seqs] d (holdClass k c d) :=
  setSeq_core_writes d rfl

theorem settleTransaction_writes (r : InFlight) (o : Outcome) :
    Writes [.slots, .pool, .seqs] d (settleTransaction k r o d) := by
  unfold settleTransaction
  split
  · exact (setElement_writes ..).mono.andThen (finishExchange_writes ..)
  · split
    · exact (holdClass_writes ..).mono
    · exact .refl d
  · exact .refl d
  · exact .refl d

/-- The fields that the end of a transaction writes. -/
abbrev transactionFields : List Field :=
  [.branchAdm, .lines, .circuitCounters, .pool, .egress, .queued, .slots, .contexts, .seqs, .cores,
    .stations, .endpoint, .meters, .accumulators]

theorem endTransaction_writes (r : InFlight) (o : Outcome) :
    Writes transactionFields d (endTransaction k r o d) :=
  ((((reportOutcome_writes ..).mono.andThen (handOverReceived_writes ..)).andThen
    (settleTransaction_writes ..)).andThen (setInFlight_writes ..)).andThen (nextStep_writes ..)

theorem failAttempt_writes (r : InFlight) : Writes transactionFields d (failAttempt k r d) := by
  unfold failAttempt
  split
  · exact (bumpLine_writes ..).mono.andThen (startAttempt_writes ..)
  · exact endTransaction_writes ..

end Transactions

/- ### The Change Unit -/

section ChangeUnit

variable (d : Device) (e : Staged)

theorem applyToSlot_writes (old : Table Circuit) :
    Writes [.lines, .circuitCounters, .pool, .slots] d (applyToSlot old d e) := by
  unfold applyToSlot
  split
  · split
    · exact dropSlot_writes ..
    · exact .refl d
  · exact .refl d

theorem applyToMeter_writes : Writes [.meters] d (applyToMeter d e) := by
  unfold applyToMeter
  split
  · exact fillMeter_writes ..
  · exact .refl d

theorem unconfigureContext_writes (k : Branch) (s : Nat) :
    Writes [.contexts, .pool, .lines] d (unconfigureContext k s d) := by
  unfold unconfigureContext
  split
  · rename_i c found
    exact abandonContext_writes d _ (mem_of_context? found).1
  · exact .refl d

theorem applyToStation_writes (old : Table StationConfig) :
    Writes [.stations, .egress, .seqs, .contexts, .pool, .lines] d (applyToStation old d e) := by
  unfold applyToStation
  split
  · dsimp only
    split
    · exact (setStation_writes ..).mono.andThen (rewindDelivery_writes ..)
    · exact (setStation_writes ..).mono.andThen (unconfigureContext_writes ..)
    · exact .refl d
  · exact .refl d

theorem applyToCredits_writes : Writes [.egress] d (applyToCredits d e) := by
  unfold applyToCredits
  split
  · exact resetCredits_writes ..
  · exact .refl d

set_option Elab.async false in
theorem inForce_writes (t : Tables) (c : Change) :
    Writes [.tables, .change] d { d with tables := t, change := c } :=
  ⟨fun f hf => by cases f <;> first | rfl | simp at hf, ⟨id, id, id, id, id⟩⟩

/-- The fields that the application of a list writes. -/
abbrev applyFields : List Field :=
  [.tables, .change, .lines, .meters, .circuitCounters, .pool, .egress, .slots, .seqs, .stations,
    .contexts]

theorem applyList_writes : Writes applyFields d (applyList d) := by
  have slots := ((inForce_writes d (d.tables.withList d.change.list) d.change.applied).mono
    (fs := applyFields)).andThen
    (.foldl (fun x e => applyToSlot_writes x e d.tables.circuits) d.change.list _)
  have stations := (slots.andThen (.foldl (fun d e => applyToMeter_writes d e) d.change.list _)).andThen
    (.foldl (fun x e => applyToStation_writes x e d.tables.stations) d.change.list _)
  exact stations.andThen (.foldl (fun d e => applyToCredits_writes d e) d.change.list _)

end ChangeUnit

end Sys2Proof.Machine

/-! Proofs about the Management Endpoint: how a request is performed and answered, and the requests
that change little beside the Endpoint. -/

namespace Sys2Proof.Machine

open Device (Writes)

set_option Elab.async false in
/-- Two outcomes that leave the same part are the same. -/
theorem next_congr {s : State} {d d' : Device} (h : d = d') :
    (Host.Outcome.next { s with dev := d } : Host.Outcome State Fault Refusal) =
      .next { s with dev := d' } := by rw [h]

/- ### The response slot and the transmitter's choice (R98, R171) -/

theorem placeAttention_full {d : Device} {r : MgmtRecord} (h : d.endpoint.slot = some r) :
    placeAttention d = d := by
  unfold placeAttention
  rw [h]

/-- With no ATTENTION pending there is none to place. -/
theorem placeAttention_calm {d : Device} (h : d.endpoint.attnPending = false) :
    placeAttention d = d := by
  unfold placeAttention
  simp only [h]
  split <;> rfl

/-- With no response ready and no request queued the slot rule is its second step (R171). -/
theorem fillSlot_eq_placeAttention {d : Device}
    (hr : ∀ b, d.endpoint.inProgress ≠ some (.ready b)) (hq : d.endpoint.queue = []) :
    fillSlot d = placeAttention d := by
  rcases hs : d.endpoint.slot with _ | r
  · rcases hp : d.endpoint.inProgress with _ | ⟨k, op, tag⟩ | b | _
    · rcases ha : d.endpoint.attnPending with _ | _
      · rw [fillSlot_idle hs hr hq ha, placeAttention_calm ha]
      · simp [fillSlot, hs, hp, ha]
    · simp [fillSlot, hs, hp]
    · exact absurd hp (hr b)
    · simp [fillSlot, placeAttention, hs, hp]
  · rw [fillSlot_full hs, placeAttention_full hs]

/-- The class a selection picks has an entry at its head. -/
theorem startTrunkClass_sends {c : Class} {d : Device} (h : d.queue .t c ≠ []) :
    (startTrunkClass c d).trunkTx ≠ none := by
  unfold startTrunkClass
  rcases hq : d.queue .t c with _ | ⟨e, es⟩
  · exact absurd hq h
  · exact Option.some_ne_none _

/-- A selected source is eligible (R93). -/
theorem selectSource_eligible {ls : LineSettings} {credits after : Credits}
    {eligible : Source → Bool} {s : Source}
    (h : selectSource ls credits eligible = some (s, after)) : eligible s = true := by
  unfold selectSource at h
  split at h
  · obtain ⟨x, hx, heq⟩ := Option.map_eq_some_iff.1 h
    cases heq
    exact List.find?_some hx
  · obtain ⟨x, hx, heq⟩ := Option.map_eq_some_iff.1 h
    cases heq
    refine (List.mem_filter.1 (greatest_mem hx)).2
where
  greatest_mem {credit : Source → Nat} {l : List Source} {x : Source}
      (h : greatest credit l = some x) : x ∈ l := by
    induction l generalizing x with
    | nil => exact nomatch h
    | cons y ys ih =>
      unfold greatest at h
      split at h
      · cases h
        exact List.mem_cons_self
      · rename_i best hb
        split at h
        · cases h
          exact List.mem_cons_self
        · cases h
          exact List.mem_cons_of_mem _ (ih hb)

/-- The aperiodic selection of T starts a transmission or does nothing (R98). -/
theorem trunkSelect_progress (d : Device) :
    trunkSelect d = d ∨ (trunkSelect d).trunkTx ≠ none := by
  unfold trunkSelect
  split
  · rename_i c credits hsel
    refine .inr (startTrunkClass_sends ?_)
    have he := selectSource_eligible hsel
    simp only [Device.trunkEligible, Bool.and_eq_true, Bool.not_eq_true'] at he
    have hq : (d.setCredits .t credits).queue .t c = d.queue .t c := rfl
    rw [hq]
    rintro hnil
    simp [hnil] at he
  · exact .inl rfl

/-- The transmitter's choice starts a transmission or does nothing (R98). -/
theorem trunkChoose_progress (d : Device) :
    trunkChoose d = d ∨ (trunkChoose d).trunkTx ≠ none := by
  unfold trunkChoose
  split
  · exact .inl rfl
  · rename_i r htx hs
    right
    unfold startRecord
    simp [htx, hs]
  · split
    · split
      · exact .inr (Option.some_ne_none _)
      · exact trunkSelect_progress d
    · exact .inl rfl

/-- A choice that has been made is not made again. -/
theorem trunkChoose_idem (d : Device) : trunkChoose (trunkChoose d) = trunkChoose d := by
  rcases trunkChoose_progress d with h | h
  · rw [h, h]
  · obtain ⟨tx, htx⟩ := Option.ne_none_iff_exists'.1 h
    exact trunkChoose_sending htx

/-- Without a record in the slot the choice leaves the Endpoint alone. -/
theorem trunkChoose_endpoint {d : Device} (h : d.endpoint.slot = none) :
    (trunkChoose d).endpoint = d.endpoint := by
  unfold trunkChoose
  split
  · rfl
  · rename_i r _ hs
    rw [h] at hs
    exact nomatch hs
  · split
    · split
      · exact (startTrunkSlot_writes ..).endpoint
      · exact (trunkSelect_writes d).endpoint
    · rfl

/-- An idle transmitter takes a record out of the slot (R98). -/
theorem trunkChoose_record {d : Device} {r : MgmtRecord} (ht : d.trunkTx = none)
    (hs : d.endpoint.slot = some r) : trunkChoose d =
      { d with trunkTx := some { holds := .record r.isRestart,
                                 wire := trunkData Config.managementCid 0 r.bytes },
               endpoint := { d.endpoint with slot := none } } := by
  unfold trunkChoose startRecord
  rw [ht, hs]

/-- A record that comes into the empty slot goes to an idle transmitter at once, and an ATTENTION
that is pending takes the slot it leaves (R98, R171). -/
theorem settle_reply {d : Device} (bytes : List Byte) (isRestart : Bool)
    (hr : ∀ b, d.endpoint.inProgress ≠ some (.ready b)) (hs : d.endpoint.slot = none)
    (hq : d.endpoint.queue = []) :
    trunkChoose (fillSlot (trunkChoose { d with endpoint := { d.endpoint with
      slot := some { bytes := bytes, isRestart := isRestart } } })) =
      placeAttention (d.answered bytes isRestart) := by
  rcases Option.eq_none_or_eq_some d.trunkTx with ht | ⟨tx, ht⟩
  · have sent : d.answered bytes isRestart =
        { d with trunkTx := some { holds := .record isRestart,
                                   wire := trunkData Config.managementCid 0 bytes } } := by
      unfold Device.answered
      rw [ht]
    have choose := trunkChoose_record (d := { d with endpoint := { d.endpoint with
      slot := some { bytes := bytes, isRestart := isRestart } } }) ht rfl
    have same : { d.endpoint with slot := none } = d.endpoint := by rw [← hs]
    dsimp only at choose
    rw [choose, same, sent]
    exact (congrArg trunkChoose (fillSlot_eq_placeAttention (d := { d with
      trunkTx := some { holds := .record isRestart,
                        wire := trunkData Config.managementCid 0 bytes } }) hr hq)).trans
      (trunkChoose_sending (placeAttention_writes _).trunkTx)
  · have waits : d.answered bytes isRestart = { d with endpoint := { d.endpoint with
        slot := some { bytes := bytes, isRestart := isRestart } } } := by
      unfold Device.answered
      rw [ht]
    rw [← waits]
    have choose : trunkChoose (d.answered bytes isRestart) = d.answered bytes isRestart :=
      trunkChoose_sending (by rw [waits]; exact ht)
    have full : (d.answered bytes isRestart).endpoint.slot =
        some { bytes := bytes, isRestart := isRestart } := by rw [waits]
    rw [choose, fillSlot_full full, choose, placeAttention_full full]

/- ### The performing of a request (R172) -/

/-- What the performing of a request leaves of the Endpoint: the slot and the queue, and the request
in progress, which a RESTART or a held SET_LINE becomes (R171). -/
structure Performed (d after : Device) (reply : Option Reply) : Prop where
  slot : after.endpoint.slot = d.endpoint.slot
  queue : after.endpoint.queue = d.endpoint.queue
  answered : reply ≠ none → after.endpoint.inProgress = d.endpoint.inProgress ∨
    after.endpoint.inProgress = some .restart
  held : reply = none → (∃ k op tag, after.endpoint.inProgress = some (.setLine k op tag)) ∧
    after.endpoint.attnPending = d.endpoint.attnPending

set_option Elab.async false in
/-- A request that leaves the Endpoint alone and is answered. -/
theorem Performed.of_endpoint {d after : Device} (h : after.endpoint = d.endpoint) (r : Reply) :
    Performed d after (some r) :=
  ⟨by rw [h], by rw [h], fun _ => .inl (by rw [h]), fun h => nomatch h⟩

theorem performStage_writes (unit index count : Nat) (entries : List Byte) (d : Device) :
    Writes [.change] d (performStage unit index count entries d).1 := by
  unfold performStage
  split
  · exact .refl d
  · dsimp only
    repeat' split
    all_goals first | exact .refl d | exact change_writes ..

theorem performClear_performed (unit index count : Nat) (d : Device) :
    Performed d (performClear unit index count d).1 (some (performClear unit index count d).2) := by
  have step : ∀ (l : List Nat) (x : Device),
      (l.foldl (clearEntry unit) x).endpoint.slot = x.endpoint.slot ∧
      (l.foldl (clearEntry unit) x).endpoint.queue = x.endpoint.queue ∧
      (l.foldl (clearEntry unit) x).endpoint.inProgress = x.endpoint.inProgress := by
    intro l
    induction l with
    | nil => exact fun _ => ⟨rfl, rfl, rfl⟩
    | cons i l ih =>
      intro x
      obtain ⟨h1, h2, h3⟩ := ih (clearEntry unit x i)
      rw [List.foldl_cons, h1, h2, h3]
      unfold clearEntry
      split <;> exact ⟨rfl, rfl, rfl⟩
  unfold performClear
  split
  · exact .of_endpoint rfl _
  · split
    · exact .of_endpoint rfl _
    · split
      · exact .of_endpoint rfl _
      · obtain ⟨h1, h2, h3⟩ := step (List.range' index count) d
        exact ⟨h1, h2, fun _ => .inl h3, fun h => nomatch h⟩

theorem performCommit_performed (kind : Nat) (number : Cycle) (d : Device) :
    Performed d (performCommit kind number d).1 (some (performCommit kind number d).2) := by
  have applied : Performed d (commitNow d).1 (some (commitNow d).2) := by
    have h := (applyList_writes d).endpoint
    unfold commitNow raiseEvent
    dsimp only
    exact ⟨(joinEvent_slot ..).trans (by rw [h]), (joinEvent_queue ..).trans (by rw [h]),
      fun _ => .inl ((joinEvent_inProgress ..).trans (by rw [h])), fun h => nomatch h⟩
  have armed : ∀ target, Performed d (armList target d).1 (some (armList target d).2) :=
    fun target => .of_endpoint (change_writes d _).endpoint _
  unfold performCommit
  dsimp only
  repeat' split
  all_goals first | exact applied | exact armed _ | exact .of_endpoint rfl _

theorem setTrunk_writes (state : Nat) (d : Device) :
    Writes [.lines, .circuitCounters, .pool, .egress, .queued, .slots, .trunkAdm] d (setTrunk state d).1 := by
  have admission : ∀ a, Writes [.trunkAdm] d { d with trunkAdm := a } :=
    fun a => ⟨fun f hf => by cases f <;> first | rfl | simp at hf, ⟨id, id, id, id, id⟩⟩
  unfold setTrunk
  split
  · exact .refl d
  · exact (admission _).mono.andThen (flushTrunk_writes _)
  · exact (admission _).mono
  · exact .refl d

theorem setBranch_performed (k : Branch) (state : Nat) (op : Byte) (tag : List Byte) (d : Device) :
    Performed d (setBranch k state op tag d).1 (setBranch k state op tag d).2 := by
  have opened : Writes [.branchAdm, .openedAt, .stations, .egress, .seqs] d (openBranch k d) :=
    Writes.andThen (d' := { d.setAdmission k .opened with openedAt := d.openedAt.set k d.now })
      ⟨fun f hf => by cases f <;> first | rfl | simp at hf, ⟨id, id, id, id, id⟩⟩ (markResyncAll_writes ..)
  have shut := (shutBranch_writes d k).endpoint
  have same := opened.endpoint
  unfold setBranch
  split
  · exact .of_endpoint rfl _
  · split
    · dsimp only
      exact .of_endpoint shut _
    · exact ⟨rfl, rfl, fun h => (h rfl).elim, fun _ => ⟨⟨_, _, _, rfl⟩, rfl⟩⟩
  · exact .of_endpoint rfl _
  · split
    · exact .of_endpoint rfl _
    · dsimp only
      exact .of_endpoint same _
  · exact .of_endpoint rfl _

theorem performSetLine_performed (line state : Nat) (op : Byte) (tag : List Byte) (d : Device) :
    Performed d (performSetLine line state op tag d).1 (performSetLine line state op tag d).2 := by
  unfold performSetLine
  split
  · exact .of_endpoint rfl _
  · split
    · exact .of_endpoint (setTrunk_writes ..).endpoint _
    · exact setBranch_performed ..

theorem performRequest_performed (bs : List Byte) (d : Device) :
    Performed d (performRequest bs d).1 (performRequest bs d).2 := by
  unfold performRequest
  split
  · exact .of_endpoint rfl _
  · rename_i op _
    cases op with
    | read => exact .of_endpoint rfl _
    | stage => exact .of_endpoint (performStage_writes ..).endpoint _
    | discard => exact .of_endpoint (change_writes d _).endpoint _
    | commit => exact performCommit_performed ..
    | setLine => exact performSetLine_performed ..
    | clear => exact performClear_performed ..
    | takeEvents => exact ⟨rfl, rfl, fun _ => .inl rfl, fun h => nomatch h⟩
    | restart => exact ⟨rfl, rfl, fun _ => .inr rfl, fun h => nomatch h⟩

/-- A request of the controller's is the event of its frame's arrival. -/
theorem exec_requestCommand (now : Nat) (op : Op) (req : Request) (s : State) :
    exec (requestCommand now op req) s = .next { s with dev := requestEvent now op req s.dev } := by
  cases op <;> rfl

/-- A request that a ready Endpoint performs and answers: its response is placed, and an ATTENTION
that the performing called for comes behind it (R171, log 14). -/
theorem requestEvent_reply (now : Nat) (op : Op) {req : Request} {d after : Device} {r : Reply}
    (h : d.takes req)
    (hp : performRequest (requestRecord op req) (d.arrived now (requestFrame op req)) =
      (after, some r)) :
    requestEvent now op req d =
      placeAttention (after.answered (responseRecord after (byteOf op.code) (be2 req.tag.toNat) r)
        after.restarting) := by
  obtain ⟨running, ready, hears, fits⟩ := h
  obtain ⟨hs, hi, hq, -⟩ := id ready
  have done := performRequest_performed (requestRecord op req)
    (d.arrived now (requestFrame op req))
  rw [hp] at done
  have notReady : ∀ b, after.endpoint.inProgress ≠ some (.ready b) := by
    intro b hb
    rcases done.answered (Option.some_ne_none r) with h | h
    · exact absurd (hb.symm.trans (h.trans hi)) (Option.some_ne_none _)
    · rw [hb] at h
      cases h
  rw [requestEvent_ready now op req running ready hears fits]
  unfold performHead
  rw [hp]
  dsimp only
  unfold Device.response
  rw [requestRecord_op, requestRecord_tag]
  exact settle_reply _ _ notReady (done.slot.trans hs) (done.queue.trans hq)

/-- A request that is held leaves the slot empty, and an idle transmitter makes its choice (R98,
R171). -/
theorem requestEvent_held (now : Nat) (op : Op) {req : Request} {d after : Device}
    (h : d.takes req)
    (hp : performRequest (requestRecord op req) (d.arrived now (requestFrame op req)) =
      (after, none)) : requestEvent now op req d = trunkChoose after := by
  obtain ⟨running, ready, hears, fits⟩ := h
  obtain ⟨hs, -, hq, ha⟩ := id ready
  have done := performRequest_performed (requestRecord op req)
    (d.arrived now (requestFrame op req))
  rw [hp] at done
  obtain ⟨⟨k, o, tag, hi⟩, calm⟩ := done.held rfl
  have same := trunkChoose_endpoint (done.slot.trans hs)
  rw [requestEvent_ready now op req running ready hears fits]
  unfold performHead
  rw [hp]
  dsimp only
  rw [fillSlot_eq_placeAttention (by rw [same, hi]; simp) (by rw [same]; exact done.queue.trans hq),
    placeAttention_calm (by rw [same]; exact calm.trans ha), trunkChoose_idem]

/-- A request that raises no event and starts no restart is answered, and nothing more (R172). -/
theorem exec_request_replied (now : Nat) (op : Op) {req : Request} {s : State} {after : Device}
    {r : Reply} (h : s.dev.takes req)
    (hp : performRequest (requestRecord op req) (s.dev.arrived now (requestFrame op req)) =
      (after, some r)) (ha : after.endpoint.attnPending = false)
    (hr : after.restarting = (op == .restart && r.status == .ok)) :
    exec (requestCommand now op req) s = .next { s with dev := after.replied op req r } := by
  rw [exec_requestCommand, requestEvent_reply now op h hp, hr, placeAttention_calm]
  · rfl
  · unfold Device.answered
    split <;> exact ha

set_option Elab.async false in
/-- A request that leaves the Endpoint alone is answered, and nothing more (R172). -/
theorem exec_request_plain (now : Nat) (op : Op) {req : Request} {s : State} {after : Device}
    {r : Reply} (h : s.dev.takes req)
    (hp : performRequest (requestRecord op req) (s.dev.arrived now (requestFrame op req)) =
      (after, some r)) (he : after.endpoint = s.dev.endpoint)
    (hr : (op == .restart && r.status == .ok) = false) :
    exec (requestCommand now op req) s = .next { s with dev := after.replied op req r } := by
  obtain ⟨-, ready, -, -⟩ := id h
  obtain ⟨-, hi, -, ha⟩ := ready
  refine exec_request_replied now op h hp (by rw [he]; exact ha) ?_
  rw [hr, Device.restarting, he, hi]
  rfl

/-- The arrival of a request leaves the Endpoint alone. -/
@[simp] theorem arrived_endpoint (d : Device) (now : Nat) (bytes : List Byte) :
    (d.arrived now bytes).endpoint = d.endpoint := rfl

/-- A request whose count and size are right is performed by its own rule. -/
theorem performRequest_sized {op : Op} {req : Request} (d : Device)
    (hc : countOk op req.count.toNat = true)
    (hs : requestSize op req.unit.toNat req.count.toNat = none ∨
      requestSize op req.unit.toNat req.count.toNat = some (11 + req.entries.length)) :
    performRequest (requestRecord op req) d = performOp op (requestRecord op req) d := by
  unfold performRequest
  rw [requestCheck_requestRecord, hc]
  rcases hs with hs | hs <;> simp [hs]

/-- A request without entries whose count is right is performed by its own rule. -/
theorem performRequest_bare {op : Op} {req : Request} (d : Device) (ho : op ≠ .stage)
    (he : req.entries = []) (hc : countOk op req.count.toNat = true) :
    performRequest (requestRecord op req) d = performOp op (requestRecord op req) d := by
  refine performRequest_sized d hc (.inr ?_)
  rw [he]
  cases op <;> first | rfl | exact absurd rfl ho

/-- A count that lies in 1..16 is right for every op (R172). -/
theorem countOk_of_range (op : Op) {n : Nat} (h1 : 1 ≤ n) (h2 : n ≤ 16) : countOk op n = true := by
  cases op <;> simp [countOk, h1, h2]

/- ### The requests -/

/-- Settles O42: the three cases of `requestArrival`, and the performing at the arrival. -/
theorem arrivingRequestIsQueued : Obligations.ArrivingRequestIsQueued := by
  intro now op req s running fits arrived p with'
  have event : exec (requestCommand now op req) s =
      .next { s with dev := settle (requestArrival (requestRecord op req) arrived) } := by
    rw [exec_requestCommand]
    unfold requestEvent
    rw [Device.event_running running, trunkArrival_requestFrame op fits]
  have addressed := addressed_requestRecord op req arrived
  refine ⟨?notMine, ?overrun, ?queued, ?performed⟩
  case notMine =>
    intro deaf quiet
    obtain ⟨-, ⟨hs, hi, hq, ha⟩, tq⟩ := quiet
    rw [event]
    unfold requestArrival
    rw [if_pos (by simpa using fun h => deaf (addressed.1 h))]
    exact next_congr (settle_quiet (d := countNotMine arrived) ⟨hs, hi, hq, ha⟩ tq)
  case overrun =>
    intro hears slot tx full
    obtain ⟨r, hr⟩ := Option.ne_none_iff_exists'.1 slot
    obtain ⟨x, hx⟩ := Option.ne_none_iff_exists'.1 tx
    rw [event]
    unfold requestArrival
    rw [if_neg (by simpa using addressed.2 hears), if_pos (by exact full)]
    exact next_congr (settle_full (by exact hr) (by exact hx))
  case queued =>
    intro hears slot tx room
    obtain ⟨r, hr⟩ := Option.ne_none_iff_exists'.1 slot
    obtain ⟨x, hx⟩ := Option.ne_none_iff_exists'.1 tx
    rw [event]
    unfold requestArrival
    rw [if_neg (by simpa using addressed.2 hears), if_neg (by exact Nat.not_le.2 room)]
    exact next_congr (settle_full (by exact hr) (by exact hx))
  case performed =>
    intro hears ready
    have takes : s.dev.takes req := ⟨running, ready, hears, fits⟩
    refine ⟨fun after hp => ?_, fun after reply hp => ?_⟩
    · rw [exec_requestCommand, requestEvent_held now op takes hp]
    · have restarts : decide (after.endpoint.inProgress = some .restart) = after.restarting := by
        unfold Device.restarting
        rw [Bool.eq_iff_iff]
        simp
      dsimp only
      rw [exec_requestCommand, requestEvent_reply now op takes hp, restarts]

/-- Settles O47: the Change Unit that DISCARD leaves is EMPTY, so that no cycle start acts on it. -/
theorem discardEmptiesTheList : Obligations.DiscardEmptiesTheList := by
  intro now req s takes bare emptied
  refine ⟨exec_request_plain now .discard takes (after := emptied) ?_ rfl rfl, fun slip => ?_⟩
  · rw [performRequest_bare _ (by decide) bare rfl]
    rfl
  · have change : (emptied.replied .discard req { status := .ok }).change = emptied.change := by
      unfold Device.replied Device.answered
      split <;> rfl
    unfold Device.changeAct
    rw [change]

/-- Settles O53: TAKE_EVENTS is `performTakeEvents`, whose entries are `encodeEvent`. -/
theorem takeEventsReturnsTheOldest : Obligations.TakeEventsReturnsTheOldest := by
  intro now req s takes bare one sixteen p taken left after reply
  have ready := takes.2.1
  obtain ⟨-, hi, -, ha⟩ := ready
  have encode : ∀ e : Event, encodeEvent e = [byteOf e.kind.ctorIdx] ++ be2 e.cycle.toNat ++
      [match e.line with | some l => byteOf l.toNat | none => 0xFF,
        match e.station with | some n => byteOf n | none => 0xFF] ++ be2 e.detail := by
    intro e
    unfold encodeEvent EventKind.code
    rcases e.line with _ | l <;> rcases e.station with _ | n <;>
      simp [optByte, byteOf]
  refine exec_request_replied now .takeEvents takes (after := after) ?_ ha ?_
  · rw [performRequest_bare _ (by decide) bare (countOk_of_range _ one sixteen)]
    unfold performOp performTakeEvents
    simp only [requestRecord_count, funext encode]
    rfl
  · rw [Device.restarting]
    exact beq_eq_false_iff_ne.2 (by rw [show after.endpoint.inProgress = none from hi]; decide)

end Sys2Proof.Machine

/-! Proofs about the event list and its attention, and about the requests that read, stage, commit
and clear. -/

namespace Sys2Proof.Machine

open Device (Writes)

/- ### The event list and attention (R175, R176) -/

set_option Elab.async false in
/-- An event that finds the list full is lost (R175). -/
theorem raiseEvent_full (kind : EventKind) (line : Option Line) (station : Option Nat)
    (detail : Nat) {d : Device} (h : Config.maxEvents ≤ d.endpoint.events.length) :
    raiseEvent kind line station detail d =
      { d with endpoint := { d.endpoint with eventsLost := true } } :=
  if_neg (Nat.not_lt.2 h)

/-- An event that finds room joins the list (R175), and calls for attention (R176). -/
theorem raiseEvent_room (kind : EventKind) (line : Option Line) (station : Option Nat)
    (detail : Nat) {d : Device} {attention : Bool}
    (h : d.endpoint.events.length < Config.maxEvents)
    (ha : (d.endpoint.events.isEmpty && d.tables.device.attentionEnable &&
      !d.endpoint.attnOutstanding) = attention) :
    raiseEvent kind line station detail d =
      { d with endpoint := { d.endpoint with
          events := d.endpoint.events ++ [d.eventNow kind line station detail],
          attnPending := d.endpoint.attnPending || attention,
          attnOutstanding := d.endpoint.attnOutstanding || attention } } := by
  rw [← ha]
  exact if_pos h

/-- An ATTENTION that is pending in an Endpoint with nothing else in hand is placed at the end of the
event, and an idle transmitter sends it (R98, R171). -/
theorem settle_pending {d : Device} (hs : d.endpoint.slot = none)
    (hp : d.endpoint.inProgress = none) (hq : d.endpoint.queue = [])
    (ha : d.endpoint.attnPending = true) :
    settle d = { d with endpoint := { d.endpoint with attnPending := false } }.answered
      (attentionRecord d) false := by
  unfold settle
  rw [fillSlot_attention hs hp ha]
  exact settle_answered (d := { d with endpoint := { d.endpoint with attnPending := false } })
    (attentionRecord d) false (by simp [hp]) hs hq rfl

theorem answered_idle {d : Device} (h : d.trunkTx = none) (bytes : List Byte) (isRestart : Bool) :
    d.answered bytes isRestart =
      { d with trunkTx := some { holds := .record isRestart,
                                 wire := trunkData Config.managementCid 0 bytes } } := by
  unfold Device.answered
  rw [h]

theorem answered_sending {d : Device} {tx : TrunkSending} (h : d.trunkTx = some tx)
    (bytes : List Byte) (isRestart : Bool) :
    d.answered bytes isRestart = { d with endpoint := { d.endpoint with
      slot := some { bytes := bytes, isRestart := isRestart } } } := by
  unfold Device.answered
  rw [h]

/-- The four steps of the end of an event. -/
theorem settle_steps {d a b c e : Device} (h1 : fillSlot d = a) (h2 : trunkChoose a = b)
    (h3 : fillSlot b = c) (h4 : trunkChoose c = e) : settle d = e := by
  unfold settle
  rw [h1, h2, h3, h4]

/-- A ready response comes before a pending ATTENTION, which is placed where the response has left
the slot at once (R98, R171). -/
theorem settle_response {d calm : Device} {response : List Byte} (hs : d.endpoint.slot = none)
    (hp : d.endpoint.inProgress = some (.ready response)) (ha : d.endpoint.attnPending = true)
    (hc : calm = { d with endpoint := { d.endpoint with inProgress := none } }) :
    settle d = if d.trunkTx = none then
        { calm.answered response false with
          endpoint := { (calm.answered response false).endpoint with
            slot := some { bytes := attentionRecord d, isRestart := false },
            attnPending := false } }
      else calm.answered response false := by
  have slot : calm.endpoint.slot = none := by rw [hc]; exact hs
  have same : { calm.endpoint with slot := none } = calm.endpoint := by rw [← slot]
  have filled : fillSlot d = { calm with endpoint := { calm.endpoint with
      slot := some { bytes := response, isRestart := false } } } := by
    rw [hc]
    exact fillSlot_response hs hp
  have attn : calm.endpoint.attnPending = true := by rw [hc]; exact ha
  have progress : calm.endpoint.inProgress = none := by rw [hc]
  have record : attentionRecord d = attentionRecord calm := by rw [hc]; rfl
  split
  · rename_i ht
    have idle : calm.trunkTx = none := by rw [hc]; exact ht
    have sent := answered_idle idle response false
    rw [record, sent]
    refine settle_steps filled (trunkChoose_record (by exact idle) rfl) ?_ (trunkChoose_sending rfl)
    dsimp only
    rw [same]
    exact fillSlot_attention (d := { calm with
      trunkTx := some { holds := .record false,
                        wire := trunkData Config.managementCid 0 response } }) slot progress attn
  · rename_i ht
    obtain ⟨tx, ht⟩ := Option.ne_none_iff_exists'.1 ht
    have sending : calm.trunkTx = some tx := by rw [hc]; exact ht
    rw [answered_sending sending]
    exact settle_steps filled (trunkChoose_sending (by exact sending)) (fillSlot_full rfl)
      (trunkChoose_sending (by exact sending))

/-- Settles O43: the cases of `joinEvent`, and the slot rule on what the event calls for. -/
theorem raisedEventJoinsAndCallsAttention : Obligations.RaisedEventJoinsAndCallsAttention := by
  intro kind line station detail d record p after bytes
  refine ⟨fun full => raiseEvent_full kind line station detail full, fun room calm => ?calm,
    fun empty enabled notYet => ?calls⟩
  case calm =>
    have no : (p.events.isEmpty && d.tables.device.attentionEnable && !p.attnOutstanding) =
        false := by
      rcases calm with h | h | h
      · rw [List.isEmpty_eq_false_iff.2 h]
        rfl
      · rw [h, Bool.and_false]
        rfl
      · rw [h]
        simp
    have h := raiseEvent_room kind line station detail room no
    rw [Bool.or_false, Bool.or_false] at h
    exact h
  case calls =>
    intro noted answers
    have room : p.events.length < Config.maxEvents := by
      rw [empty]
      decide
    have raised : after =
        { noted with endpoint := { noted.endpoint with attnPending := true } } := by
      have h := raiseEvent_room kind line station detail room (attention := true)
        (by rw [empty, enabled, notYet]; rfl)
      rw [Bool.or_true, Bool.or_true] at h
      refine h.trans ?_
      rw [empty]
      rfl
    refine ⟨raised, fun ready => ?_, fun response hs hp => ?_⟩
    · obtain ⟨hs, hp, hq, ha⟩ := ready
      have calm : { noted with endpoint := { noted.endpoint with attnPending := false } } =
          noted := by
        have : noted.endpoint.attnPending = false := ha
        rw [← this]
      have h := settle_pending (d := { noted with endpoint := { noted.endpoint with
        attnPending := true } }) hs hp hq rfl
      rw [raised]
      exact h.trans (congrArg (Device.answered · bytes false) calm)
    · have h := settle_response (d := { noted with endpoint := { noted.endpoint with
        attnPending := true } }) hs hp rfl rfl
      rw [raised, h]
      split
      · rename_i ht
        have one := answered_idle (d := { noted with endpoint := { noted.endpoint with
          inProgress := none, attnPending := true } }) ht response false
        have two : answers response = _ := answered_idle (by exact ht) response false
        rw [two, one]
        rfl
      · rename_i ht
        obtain ⟨tx, ht⟩ := Option.ne_none_iff_exists'.1 ht
        have one := answered_sending (d := { noted with endpoint := { noted.endpoint with
          inProgress := none, attnPending := true } }) ht response false
        have two : answers response = _ := answered_sending (by exact ht) response false
        rw [two, one]

end Sys2Proof.Machine

/-! Proofs about the format checks of a request, and about READ and STAGE. -/

namespace Sys2Proof.Machine

open Device (Writes)

/- ### Records of the wrong format (R172) -/

set_option Elab.async false in
/-- A record whose format is wrong changes nothing and is answered its status. -/
theorem performRequest_error {bs : List Byte} {status : Status}
    (h : requestCheck bs = .error status) (d : Device) :
    performRequest bs d = (d, some { status := status }) := by
  unfold performRequest
  rw [h]

/-- A management frame passes the line checks and its record reaches the Endpoint (R8, R33). -/
theorem trunkArrival_record {priority : Nat} {record : List Byte} (hp : priority ≤ 7)
    (hl : record.length ≤ Config.maxPayload) (now : Nat) (d : Device) :
    trunkArrival (trunkData Config.managementCid priority record) { d with now := now } =
      requestArrival record
        (d.arrived now (trunkData Config.managementCid priority record)) := by
  have passed := checkTrunk_trunkData (cid := Config.managementCid) (by decide) hp hl
  exact congrArg (trunkChecked · (collect .t Config.trunkBuffer
    (trunkData Config.managementCid priority record) { d with now := now })) passed

/-- A record for a part whose Endpoint has nothing in hand is performed in the event of its arrival
(R170, R171). -/
theorem settle_requestArrival {bs : List Byte} {d : Device} (ready : d.mgmtReady)
    (ha : d.addressed bs = true) :
    settle (requestArrival bs d) =
      trunkChoose (fillSlot (trunkChoose (performHead bs d))) := by
  have joined : requestArrival bs d =
      { d with endpoint := { d.endpoint with queue := d.endpoint.queue ++ [bs] } } := by
    have empty : d.endpoint.queue = [] := ready.2.2.1
    unfold requestArrival
    rw [ha, if_neg (by decide), if_neg (by rw [empty]; decide)]
  rw [joined]
  exact congrArg (fun x => trunkChoose (fillSlot (trunkChoose x))) (fillSlot_queued bs ready ha)

/-- A refused record is answered its status, and nothing else changes (R172). -/
theorem settle_refused {bs : List Byte} {d : Device} {status : Status} (ready : d.mgmtReady)
    (ha : d.addressed bs = true) (hc : requestCheck bs = .error status) :
    settle (requestArrival bs d) = d.answered (responseRecord d (bs.getD 1 0)
      [bs.getD 2 0, bs.getD 3 0] { status := status }) false := by
  obtain ⟨hs, hp, hq, hn⟩ := id ready
  have restarts : d.restarting = false := by
    unfold Device.restarting
    rw [hp]
    rfl
  have op : byteOf (rd1 bs 1) = bs.getD 1 0 := BitVec.ofNat_toNat _ _ |>.trans (BitVec.setWidth_eq _)
  rw [settle_requestArrival ready ha]
  unfold performHead
  rw [performRequest_error hc]
  dsimp only
  unfold Device.response
  rw [restarts, op]
  exact settle_answered _ _ (by rw [hp]; simp) hs hq hn

/-- Settles O44: the refusals of `requestCheck`. -/
theorem badFormatIsRefused : Obligations.BadFormatIsRefused := by
  refine ⟨?formats, ?ops⟩
  case formats =>
    intro now op req s takes counts wrong arrived
    have refused : requestCheck (requestRecord op req) = .error .badFormat := by
      rw [requestCheck_requestRecord]
      by_cases hc : countOk op req.count.toNat = true
      · rw [hc, if_neg (by decide)]
        rcases wrong with ⟨uses, range⟩ | ⟨notStage, entries⟩ | ⟨stage, n, size, loads, shape, differ⟩
        · exfalso
          rcases uses with rfl | rfl | rfl | rfl <;> simp [countOk] at hc <;> omega
        · have size : requestSize op req.unit.toNat req.count.toNat = some 11 := by
            cases op <;> first | rfl | exact absurd rfl notStage
          have length : 11 + req.entries.length ≠ 11 := by
            have := List.length_pos_iff.2 entries
            omega
          rw [size]
          exact if_neg length
        · have size : requestSize op req.unit.toNat req.count.toNat =
              some (11 + req.count.toNat * size) := by
            rw [stage]
            unfold requestSize
            rw [loads, shape]
            rfl
          rw [size]
          exact if_neg (by omega)
      · rw [Bool.not_eq_true] at hc
        rw [hc]
        rfl
    refine exec_request_plain now op takes (performRequest_error refused _) rfl ?_
    exact Bool.and_false _
  case ops =>
    intro now priority record s running ready hp hl head frame arrived op answer
    obtain ⟨node, hn, mine⟩ := head
    have addressed : arrived.addressed record = true := by
      rcases record with _ | ⟨b, bs⟩
      · exact nomatch hn
      · cases hn
        have mine' : node.toNat = 63 ∨ node.toNat = arrived.tables.device.nodeAddress := mine
        simpa [Device.addressed, rd1] using mine'
    have event : exec (.trunkDataArrival now frame) s =
        .next { s with dev := settle (requestArrival record arrived) } := by
      refine (next_congr (Device.event_running running _ _)).trans (next_congr ?_)
      exact congrArg settle (trunkArrival_record hp hl now s.dev)
    refine ⟨fun short => ?_, fun long unknown => ?_⟩
    · have refused : requestCheck record = .error .badFormat := if_pos short
      exact event.trans (next_congr (settle_refused ready addressed refused))
    · have refused : requestCheck record = .error .badOp := by
        have code : Op.ofCode (rd1 record 1) = none := by
          have h : rd1 record 1 = 0 ∨ 8 < rd1 record 1 := unknown
          rcases h with h | h
          · rw [h]
            rfl
          · obtain ⟨m, hm⟩ := Nat.exists_eq_add_of_lt h
            rw [hm, show 8 + m + 1 = m + 9 by omega]
            rfl
        unfold requestCheck
        rw [if_neg (Nat.not_lt.2 long), code]
      exact event.trans (next_congr (settle_refused ready addressed refused))

/- ### The entries a READ returns (R173) -/

theorem boolByte_eq (b : Bool) : boolByte b = [if b then 0x01 else 0x00] := by cases b <;> rfl

theorem ofIndex_lineNumber (l : Line) : Line.ofIndex l.toNat = l := by cases l <;> rfl

theorem encodeCapture_eq (c : Capture) :
    encodeCapture c = (match c.filled with
      | none => List.replicate 10 0x00
      | some x => 0x01 :: x.bytes ++ be2 x.cycle.toNat) ++ be4 c.errorCount := by
  unfold encodeCapture
  rcases c.filled with _ | x <;> rfl

theorem encodeStation_eq (x : Station) :
    encodeStation x =
      [byteOf x.state.ctorIdx, byteOf x.failureCount, if x.resyncPending then 0x01 else 0x00,
        if x.downToggle then 0x01 else 0x00, if x.upExpected then 0x01 else 0x00] ++
      be2 x.probeCountdown ++ [byteOf x.lastFaultCode, if x.serviced then 0x01 else 0x00] ++
      encodeCounters x.counters 9 := by
  unfold encodeStation
  simp only [boolByte_eq]
  rfl

/-- Settles O45: READ changes nothing, and each unit's entry is laid out as its encoder says. -/
theorem readReturnsTheEntries : Obligations.ReadReturnsTheEntries := by
  refine ⟨?request, fun d => ⟨?station, ?status, ?line, ?circuit, ?meter, ?device, ?staged, ?rest⟩⟩
  case request =>
    intro now req s takes bare one sixteen arrived index count reply
    refine exec_request_plain now .read takes (after := arrived) ?_ rfl rfl
    rw [performRequest_bare _ (by decide) bare (countOk_of_range _ one sixteen)]
    unfold performOp
    simp only [requestRecord_unit, requestRecord_index, requestRecord_count]
    rfl
  case station =>
    intro k st _ _ x state
    refine (encodeStation_eq x).trans ?_
    have code : byteOf x.state.ctorIdx = state := by
      dsimp only [state]
      cases x.state <;> rfl
    rw [code]
    rfl
  case status =>
    intro l x admission captured sequencer
    have code : byteOf (d.admissionCode l) = admission := by
      dsimp only [admission]
      unfold Device.admissionCode
      rcases l.branch? with _ | k
      · dsimp only
        split <;> rfl
      · dsimp only
        cases d.admission k <;> rfl
    have fields : d.sequencerFields l = sequencer := by
      dsimp only [sequencer]
      unfold Device.sequencerFields
      rcases l.branch? with _ | k
      · rfl
      · dsimp only
        rw [boolByte_eq]
        cases (d.seq k).state <;> rcases (d.seq k).delivering with _ | c <;> rfl
    have entry : d.readEntry 17 l.toNat = d.encodeLineStatus l :=
      congrArg d.encodeLineStatus (ofIndex_lineNumber l)
    rw [entry]
    unfold Device.encodeLineStatus
    rw [code, fields, encodeCapture_eq, boolByte_eq, boolByte_eq]
    simp [Class.all, x, captured] <;> rfl
  case line =>
    intro l
    have entry : d.readEntry 18 l.toNat = encodeCounters (d.lineIf l).counters 41 :=
      congrArg (fun x => encodeCounters (d.lineIf x).counters 41) (ofIndex_lineNumber l)
    exact entry
  case circuit => exact fun cid => rfl
  case meter => exact fun m => rfl
  case device =>
    intro timer change target p
    have state : byteOf d.timer.state.ctorIdx = timer := by
      dsimp only [timer]
      cases d.timer.state <;> rfl
    have code : byteOf d.change.state.code = change := by
      dsimp only [change]
      cases d.change.state <;> rfl
    have number : be2 ((d.change.target.map BitVec.toNat).getD 0) = target := by
      dsimp only [target]
      rcases d.change.target with _ | n <;> rfl
    have entry : d.readEntry 21 0 = d.encodeDeviceStatus := rfl
    rw [entry]
    unfold Device.encodeDeviceStatus
    rw [state, code, number, boolByte_eq, boolByte_eq, boolByte_eq]
    simp [p]
  case staged =>
    intro i e h content
    have entry : d.readEntry 22 i = encodeStaged (some e) := congrArg encodeStaged h
    rw [entry]
    unfold encodeStaged
    dsimp only [content]
    cases e.action <;> rfl
  case rest =>
    intro i h
    exact congrArg encodeStaged (List.getElem?_eq_none h)

end Sys2Proof.Machine

/-! Proofs about STAGE, COMMIT and CLEAR. -/

namespace Sys2Proof.Machine

open Device (Writes)

/- ### STAGE (R159) -/

set_option Elab.async false in
/-- The entries of a STAGE request, one for each index of its range. -/
theorem stagedEntries_eq (unit size index n : Nat) (bs : List Byte) :
    stagedEntries unit size index n bs = (List.range n).map fun j =>
      { unit := unit, index := index + j, action := actionOf unit ((bs.drop (j * size)).take size) } := by
  induction n generalizing index bs with
  | zero => rfl
  | succ n ih =>
    rw [stagedEntries, ih, List.range_succ_eq_map, List.map_cons, List.map_map]
    refine congrArg₂ List.cons (by simp) (List.map_congr_left fun j _ => ?_)
    simp only [Function.comp_apply, List.drop_drop, Staged.mk.injEq, true_and]
    exact ⟨by omega, by rw [Nat.succ_mul, Nat.add_comm (j * size)]⟩

theorem entriesOk_eq (unit size n : Nat) (bs : List Byte) :
    entriesOk unit size n bs =
      (List.range n).all fun j => entryOk unit ((bs.drop (j * size)).take size) := by
  induction n generalizing bs with
  | zero => rfl
  | succ n ih =>
    rw [entriesOk, ih, List.range_succ_eq_map, List.all_cons, List.all_map]
    refine congrArg₂ (· && ·) (by simp) (List.all_congr rfl fun j => ?_)
    simp only [Function.comp_apply, List.drop_drop]
    rw [Nat.succ_mul, Nat.add_comm (j * size)]

/-- The entries of a STAGE request are for different places. -/
theorem stagedEntries_nodup (unit size index n : Nat) (bs : List Byte) :
    ((stagedEntries unit size index n bs).map Staged.place).Nodup := by
  rw [stagedEntries_eq, List.map_map]
  exact (List.nodup_range).map fun a b h => by simpa [Staged.place] using h

/-- A STAGE whose size is right, or whose unit has no size, is performed by its own rule, and the
Endpoint is left alone but for the response. -/
theorem exec_stage {now : Nat} {req : Request} {s : State} (takes : s.dev.takes req)
    (one : 1 ≤ req.count.toNat) (sixteen : req.count.toNat ≤ 16)
    (size : requestSize .stage req.unit.toNat req.count.toNat = none ∨
      requestSize .stage req.unit.toNat req.count.toNat = some (11 + req.entries.length))
    {after : Device} {r : Reply}
    (h : performStage req.unit.toNat req.index.toNat req.count.toNat req.entries
      (s.dev.arrived now (requestFrame .stage req)) = (after, r)) :
    exec (.stage now req) s = .next { s with dev := after.replied .stage req r } := by
  have writes := performStage_writes req.unit.toNat req.index.toNat req.count.toNat req.entries
    (s.dev.arrived now (requestFrame .stage req))
  rw [h] at writes
  refine exec_request_plain now .stage takes (after := after) ?_ writes.endpoint rfl
  rw [performRequest_sized _ (countOk_of_range _ one sixteen) size]
  unfold performOp
  simp only [requestRecord_unit, requestRecord_index, requestRecord_count, requestRecord_entries]
  rw [h]

/-- The checks of a STAGE of a unit that may be written, in their order (R159). -/
theorem performStage_writable {unit index count indices size : Nat} {entries : List Byte}
    {d : Device} (shape : unitShape unit = some (indices, size))
    (writable : isReadOnly unit = false) :
    performStage unit index count entries d =
      if indices < index + count then (d, { status := .badIndex })
      else if d.change.state = .armed then (d, { status := .armed })
      else if !entriesOk unit size count entries then (d, { status := .badValue })
      else if Config.maxStaged < d.change.list.length +
          newEntries d.change.list (stagedEntries unit size index count entries) then
        (d, { status := .listFull })
      else ({ d with change := { d.change with
              state := .staging,
              list := (stagedEntries unit size index count entries).foldl stageEntry
                d.change.list } }, { status := .ok }) := by
  unfold performStage
  rw [shape]
  dsimp only
  rw [writable]
  rfl

/-- Settles O46: the checks of `performStage` in their order. -/
theorem stageIsTakenWholeOrRefused : Obligations.StageIsTakenWholeOrRefused := by
  intro now req s takes one sixteen arrived unit index count refused
  refine ⟨fun none => ?_, fun low high => ?_, fun indices size loads shape length => ?_⟩
  · refine exec_stage takes one sixteen (.inl ?_) ?_
    · unfold requestSize
      dsimp only
      split
      · exact congrArg (Option.map _) none
      · rfl
    · unfold performStage
      rw [none]
  · have unloadable : isLoadable unit = false := by
      simp only [isLoadable, Bool.and_eq_false_iff, decide_eq_false_iff_not]
      omega
    have readOnly : isReadOnly unit = true := by simp [isReadOnly, low, high]
    obtain ⟨x, shape⟩ : ∃ x, unitShape unit = some x := by
      generalize unit = u at low high
      interval_cases u <;> exact ⟨_, rfl⟩
    refine exec_stage takes one sixteen (.inl ?_) ?_
    · unfold requestSize
      dsimp only
      rw [unloadable]
      rfl
    · unfold performStage
      rw [shape]
      exact if_pos readOnly
  · intro bytes staged fresh
    have writable : isReadOnly unit = false := by
      simp only [isLoadable, Bool.and_eq_true, decide_eq_true_eq] at loads
      simp only [isReadOnly, Bool.and_eq_false_iff, decide_eq_false_iff_not]
      omega
    have new : stagedEntries unit size index count req.entries = staged :=
      stagedEntries_eq ..
    have checks : entriesOk unit size count req.entries =
        (List.range count).all fun j => entryOk unit (bytes j) := entriesOk_eq ..
    have joined := foldl_stageEntry staged s.dev.change.list
      (new ▸ stagedEntries_nodup unit size index count req.entries)
    have perform : ∀ {after : Device} {r : Reply},
        performStage unit index count req.entries arrived = (after, r) →
        exec (.stage now req) s = .next { s with dev := after.replied .stage req r } := by
      refine fun h => exec_stage takes one sixteen (.inr ?_) h
      unfold requestSize
      dsimp only
      rw [loads, shape, length]
      rfl
    have judge := performStage_writable (index := index) (count := count)
      (entries := req.entries) (d := arrived) shape writable
    rw [new, checks] at judge
    split
    · rename_i h
      exact perform (judge.trans (if_pos h))
    rename_i inside
    rw [if_neg inside] at judge
    split
    · rename_i h
      exact perform (judge.trans (if_pos h))
    rename_i unarmed
    rw [if_neg (by exact unarmed)] at judge
    split
    · rename_i h
      exact perform (judge.trans (if_pos (by rw [h]; rfl)))
    rename_i valid
    rw [if_neg (by simpa using valid)] at judge
    split
    · rename_i h
      exact perform (judge.trans (if_pos h))
    · rename_i room
      refine perform (judge.trans ((if_neg room).trans ?_))
      rw [show arrived.change.list = s.dev.change.list from rfl, joined]
      rfl

/- ### COMMIT (R162) -/

/-- NEXT lies one cycle ahead, which every target may. -/
theorem targetOk_next (now : Cycle) : targetOk (now + 1) now = true := by
  have distance : (now + 1 - now).toNat = 1 := by
    rw [BitVec.add_comm, BitVec.add_sub_cancel]
    rfl
  unfold targetOk
  rw [distance]
  decide

/-- A COMMIT is performed with its target kind and its number. -/
theorem performRequest_commit {req : Request} (d : Device) (bare : req.entries = []) :
    performRequest (requestRecord .commit req) d =
      ((performCommit req.argA.toNat req.argB d).1,
        some (performCommit req.argA.toNat req.argB d).2) := by
  rw [performRequest_bare d (by decide) bare rfl]
  unfold performOp
  simp only [requestRecord_argA, requestRecord_argB, BitVec.ofNat_toNat, BitVec.setWidth_eq]

/-- The checks of a COMMIT in their order, of which NEXT passes the last by itself (R162). -/
theorem performCommit_eq (kind : Nat) (number : Cycle) (d : Device) :
    performCommit kind number d =
      let target := if kind = 1 then d.timer.cycle + 1 else number
      if d.change.state = .empty then (d, { status := .emptyList })
      else if d.change.state = .armed then (d, { status := .armed })
      else if 2 < kind then (d, { status := .badValue })
      else if kind = 0 ∧ d.timer.state ≠ .unlocked then (d, { status := .notUnlocked })
      else if kind ≠ 0 ∧ d.timer.state = .unlocked then (d, { status := .badTarget })
      else if kind = 2 ∧ ¬ (1 ≤ (target - d.timer.cycle).toNat ∧
          (target - d.timer.cycle).toNat ≤ 4096) then (d, { status := .badTarget })
      else match d.conflict with
        | some (unit, index) =>
          (d, { status := .conflict, detailUnit := unit, detailIndex := index })
        | none => if kind = 0 then commitNow d else armList target d := by
  have far (target : Cycle) : (!targetOk target d.timer.cycle) = true ↔
      ¬ (1 ≤ (target - d.timer.cycle).toNat ∧ (target - d.timer.cycle).toNat ≤ 4096) := by
    rw [Bool.not_eq_true', ← Bool.not_eq_true]
    refine not_congr ?_
    unfold targetOk
    rw [Bool.and_eq_true, decide_eq_true_eq, decide_eq_true_eq]
    rfl
  have last (h : ¬ 2 < kind) :
      (kind ≠ 0 ∧ (!targetOk (commitTarget kind number d.timer.cycle) d.timer.cycle) = true) ↔
        kind = 2 ∧ ¬ (1 ≤ (commitTarget kind number d.timer.cycle - d.timer.cycle).toNat ∧
          (commitTarget kind number d.timer.cycle - d.timer.cycle).toNat ≤ 4096) := by
    rw [far]
    by_cases one : kind = 1
    · have := targetOk_next d.timer.cycle
      unfold commitTarget
      rw [if_pos one, ← far, this]
      simp
    · constructor
      · exact fun ⟨h0, h1⟩ => ⟨by omega, h1⟩
      · exact fun ⟨h0, h1⟩ => ⟨by omega, h1⟩
  unfold performCommit
  dsimp only
  refine if_congr Iff.rfl rfl (if_congr Iff.rfl rfl ?_)
  by_cases big : 2 < kind
  · rw [if_pos big, if_pos big]
  · rw [if_neg big, if_neg big]
    exact if_congr Iff.rfl rfl (if_congr Iff.rfl rfl (if_congr (last big) rfl rfl))

/-- Settles O48: the checks of `performCommit`, and the three ways an accepted one acts. -/
theorem commitIsJudgedInOrder : Obligations.CommitIsJudgedInOrder := by
  intro now req s takes bare arrived kind cycle target refused armed applied event conflicting
    immediate
  have plain : ∀ {after : Device} {r : Reply}, performCommit kind req.argB arrived = (after, r) →
      after.endpoint = s.dev.endpoint →
      exec (.commit now req) s = .next { s with dev := after.replied .commit req r } := by
    intro after r h he
    refine exec_request_plain now .commit takes (after := after) ?_ he rfl
    rw [performRequest_commit _ bare, h]
  have judge : performCommit kind req.argB arrived = _ := performCommit_eq ..
  dsimp only at judge
  split
  · rename_i h
    exact plain (judge.trans (if_pos h)) rfl
  rename_i listed
  rw [if_neg (by exact listed)] at judge
  split
  · rename_i h
    exact plain (judge.trans (if_pos h)) rfl
  rename_i unarmed
  rw [if_neg (by exact unarmed)] at judge
  split
  · rename_i h
    exact plain (judge.trans (if_pos h)) rfl
  rename_i known
  rw [if_neg known] at judge
  split
  · rename_i h
    exact plain (judge.trans (if_pos h)) rfl
  rename_i unlocked
  rw [if_neg (by exact unlocked)] at judge
  split
  · rename_i h
    exact plain (judge.trans (if_pos h)) rfl
  rename_i running
  rw [if_neg (by exact running)] at judge
  split
  · rename_i h
    exact plain (judge.trans (if_pos h)) rfl
  rename_i near
  rw [if_neg (by exact near)] at judge
  have same : arrived.conflict = s.dev.conflict := rfl
  rw [same] at judge
  rcases hc : s.dev.conflict with _ | ⟨unit, index⟩
  · rw [hc] at judge
    dsimp only at judge ⊢
    split
    · rename_i h
      rw [if_pos h] at judge
      have cycleKept : applied.timer = s.dev.timer := (applyList_writes arrived).timer
      have raised : raiseEvent .commitApplied none none
          applied.change.generation.toNat applied = joinEvent event applied := by
        unfold raiseEvent Device.eventNow
        rw [cycleKept]
      have performed : performRequest (requestRecord .commit req) arrived =
          (joinEvent event applied, some { status := .ok }) := by
        rw [performRequest_commit _ bare, judge, ← raised]
        rfl
      have progress : (joinEvent event applied).endpoint.inProgress = none :=
        (joinEvent_inProgress _ _).trans
          ((congrArg Endpoint.inProgress (applyList_writes arrived).endpoint).trans takes.2.1.2.1)
      have restarts : (joinEvent event applied).restarting = false := by
        unfold Device.restarting
        rw [progress]
        rfl
      have done := requestEvent_reply now .commit takes performed
      rw [restarts] at done
      exact (exec_requestCommand now .commit req s).trans (next_congr done)
    · rename_i h
      exact plain (judge.trans (if_neg h)) rfl
  · rw [hc] at judge
    exact plain judge rfl

end Sys2Proof.Machine

/-! Proofs about CLEAR: a fold over its range that writes one place of one block. -/

namespace Sys2Proof.Machine

open Device (Writes)

/- ### Folds that write one place after another -/

set_option Elab.async false in
/-- A fold of steps of which each writes one place writes the places of the list. -/
theorem foldl_places {ι β : Type} {step : Device → Nat → Device} {read : Device → ι → β}
    {place : ι → Nat} {write : β → β} (idem : ∀ x, write (write x) = write x) {is : List Nat}
    (hs : ∀ i ∈ is, ∀ d j, read (step d i) j =
      if place j = i then write (read d j) else read d j) (d : Device) (j : ι) :
    read (is.foldl step d) j = if place j ∈ is then write (read d j) else read d j := by
  induction is generalizing d with
  | nil => simp
  | cons i is ih =>
    rw [List.foldl_cons, ih fun x hx => hs x (List.mem_cons_of_mem i hx),
      hs i List.mem_cons_self]
    by_cases hi : place j = i <;> by_cases hm : place j ∈ is <;> simp [hi, hm, idem]

/-- A fold of steps that write one block alone writes that block alone. -/
theorem foldl_writes_block {α : Type} {step : Device → Nat → Device}
    {put : Device → α → Device} {get : Device → α} (hg : ∀ d, put d (get d) = d)
    (hp : ∀ d x y, put (put d x) y = put d y)
    (hs : ∀ d i, ∃ x, step d i = put d x) (is : List Nat) (d : Device) :
    ∃ x, is.foldl step d = put d x := by
  induction is generalizing d with
  | nil => exact ⟨get d, (hg d).symm⟩
  | cons i is ih =>
    obtain ⟨x, hx⟩ := hs d i
    obtain ⟨y, hy⟩ := ih (step d i)
    exact ⟨y, by rw [List.foldl_cons, hy, hx, hp]⟩

/-- The indices of a range, as the statements say them. -/
theorem mem_range'_iff (index count i : Nat) :
    i ∈ List.range' index count ↔ decide (index ≤ i ∧ i < index + count) = true := by
  rw [List.mem_range'_1, decide_eq_true_eq]

/-- A line is the one of an index below 5 when its number is the index. -/
theorem ofIndex_eq_iff {i : Nat} (h : i < 5) (l : Line) : l = Line.ofIndex i ↔ l.toNat = i := by
  interval_cases i <;> cases l <;> decide

/-- A line interface after a write of one line. -/
theorem lineIf_setLineIf (d : Device) (l m : Line) (x : LineIf) :
    (d.setLineIf l x).lineIf m = if m = l then x else d.lineIf m := by
  by_cases h : m = l
  · rw [if_pos h, h]
    exact PerLine.get_set_self _ _ _
  · rw [if_neg h]
    exact PerLine.get_set_of_ne _ _ h

/-- A meter's state after a write of one meter. -/
theorem meterState_setMeterState (d : Device) (m n : Nat) (x : MeterState) :
    (d.setMeterState m x).meterState n = if n = m then x else d.meterState n :=
  Table.get_put ..

/- ### CLEAR (R174) -/

/-- A line interface with its flags cleared and its capture record emptied (R11). -/
def LineIf.flagsCleared (x : LineIf) : LineIf :=
  { x with headerError := false, payloadError := false,
           capture := { filled := none, errorCount := 0 } }

/-- A line interface with its counters at 0 (R11). -/
def LineIf.countersCleared (x : LineIf) : LineIf := { x with counters := Table.empty }

/-- A line's part of a CLEAR at one index of its range. -/
theorem lineIf_cleared {step : Device → Line → Device} {write : LineIf → LineIf}
    (hs : ∀ d l, step d l = d.setLineIf l (write (d.lineIf l))) {i : Nat} (h : i < 5) (d : Device)
    (l : Line) : (step d (Line.ofIndex i)).lineIf l =
      if l.toNat = i then write (d.lineIf l) else d.lineIf l := by
  rw [hs, lineIf_setLineIf]
  by_cases e : l = Line.ofIndex i
  · rw [if_pos e, if_pos ((ofIndex_eq_iff h l).1 e), e]
  · rw [if_neg e, if_neg fun x => e ((ofIndex_eq_iff h l).2 x)]

/-- An accepted CLEAR leaves every request unanswered but its own, and calls for no attention. -/
theorem clear_calm (unit : Nat) (is : List Nat) (d : Device) :
    (is.foldl (clearEntry unit) d).endpoint.attnPending = d.endpoint.attnPending ∧
    (is.foldl (clearEntry unit) d).endpoint.inProgress = d.endpoint.inProgress := by
  induction is generalizing d with
  | nil => exact ⟨rfl, rfl⟩
  | cons i is ih =>
    have one : (clearEntry unit d i).endpoint.attnPending = d.endpoint.attnPending ∧
        (clearEntry unit d i).endpoint.inProgress = d.endpoint.inProgress := by
      unfold clearEntry
      split <;> exact ⟨rfl, rfl⟩
    obtain ⟨ha, hp⟩ := ih (clearEntry unit d i)
    exact ⟨ha.trans one.1, hp.trans one.2⟩

/-- A CLEAR is performed by its own rule and answered, and nothing more. -/
theorem exec_clear {now : Nat} {req : Request} {s : State} (takes : s.dev.takes req)
    (bare : req.entries = []) (one : 1 ≤ req.count.toNat) (sixteen : req.count.toNat ≤ 16)
    {after : Device} {r : Reply}
    (h : performClear req.unit.toNat req.index.toNat req.count.toNat
      (s.dev.arrived now (requestFrame .clear req)) = (after, r))
    (calm : after.endpoint.attnPending = s.dev.endpoint.attnPending ∧
      after.endpoint.inProgress = s.dev.endpoint.inProgress) :
    exec (.clear now req) s = .next { s with dev := after.replied .clear req r } := by
  obtain ⟨-, ⟨-, hp, -, ha⟩, -, -⟩ := id takes
  refine exec_request_replied now .clear takes (after := after) ?_ (calm.1.trans ha) ?_
  · rw [performRequest_bare _ (by decide) bare (countOk_of_range _ one sixteen)]
    unfold performOp
    simp only [requestRecord_unit, requestRecord_index, requestRecord_count]
    rw [h]
  · unfold Device.restarting
    rw [calm.2, hp]
    rfl

/-- Settles O52: each unit's CLEAR writes one place of one block at each index of the range. -/
theorem clearSetsTheRangeToZero : Obligations.ClearSetsTheRangeToZero := by
  intro now req s takes bare one sixteen arrived unit index count inRange answer
  refine ⟨fun other => ?_, fun indices size low high shape => ?_⟩
  · refine exec_clear takes bare one sixteen (after := arrived) (if_pos ?_) ⟨rfl, rfl⟩
    rw [Bool.not_eq_true', Bool.and_eq_false_iff, decide_eq_false_iff_not,
      decide_eq_false_iff_not]
    exact not_and_or.1 other
  have clears : ¬ (!(decide (16 ≤ unit) && decide (unit ≤ 21))) = true := by simp [low, high]
  refine ⟨fun above => ?_, fun within => ?_⟩
  · refine exec_clear takes bare one sixteen (after := arrived) ?_ ⟨rfl, rfl⟩
    unfold performClear
    rw [if_neg clears, shape]
    exact if_pos above
  · let is := List.range' index count
    have mem (i : Nat) : i ∈ is ↔ inRange i = true := mem_range'_iff ..
    refine ⟨is.foldl (clearEntry unit) arrived, ?_, ?stations, ?flags, ?counters, ?circuits,
      ?meters, ?device⟩
    · refine exec_clear takes bare one sixteen ?_ (clear_calm ..)
      unfold performClear
      rw [if_neg clears, shape]
      exact if_neg (Nat.not_lt.2 within)
    all_goals
      intro hu
      rw [hu] at shape
      cases shape
      rw [hu]
    case stations =>
      obtain ⟨x, hx⟩ := foldl_writes_block (step := clearEntry 16) (get := Device.stations)
        (put := fun d x => { d with stations := x }) (fun _ => rfl) (fun _ _ _ => rfl)
        (fun _ _ => ⟨_, rfl⟩) is arrived
      refine ⟨by rw [hx], fun i => ?_⟩
      have h := foldl_places (step := clearEntry 16) (is := is) (place := id)
        (read := fun d i => d.stations.get Station.powerOn i)
        (write := fun x => { x with counters := Table.empty }) (fun _ => rfl)
        (fun i _ d j => by
          dsimp only [id]
          exact (Table.get_put ..).trans (by split <;> simp [*])) arrived i
      simp only [id, mem] at h
      exact h
    case flags =>
      obtain ⟨x, hx⟩ := foldl_writes_block (step := clearEntry 17) (get := Device.lines)
        (put := fun d x => { d with lines := x }) (fun _ => rfl) (fun _ _ _ => rfl)
        (fun _ _ => ⟨_, rfl⟩) is arrived
      refine ⟨by rw [hx], fun l => ?_⟩
      have h := foldl_places (step := clearEntry 17) (is := is) (place := Line.toNat)
        (read := Device.lineIf) (write := LineIf.flagsCleared) (fun _ => rfl)
        (fun i hi d j => lineIf_cleared (step := clearLineFlags) (fun _ _ => rfl)
          (by rw [List.mem_range'_1] at hi; omega) d j) arrived l
      simp only [mem] at h
      exact h
    case counters =>
      obtain ⟨x, hx⟩ := foldl_writes_block (step := clearEntry 18) (get := Device.lines)
        (put := fun d x => { d with lines := x }) (fun _ => rfl) (fun _ _ _ => rfl)
        (fun _ _ => ⟨_, rfl⟩) is arrived
      refine ⟨by rw [hx], fun l => ?_⟩
      have h := foldl_places (step := clearEntry 18) (is := is) (place := Line.toNat)
        (read := Device.lineIf) (write := LineIf.countersCleared) (fun _ => rfl)
        (fun i hi d j => lineIf_cleared (step := clearLineCounters) (fun _ _ => rfl)
          (by rw [List.mem_range'_1] at hi; omega) d j) arrived l
      simp only [mem] at h
      exact h
    case circuits =>
      obtain ⟨x, hx⟩ := foldl_writes_block (step := clearEntry 19) (get := Device.circuitCounters)
        (put := fun d x => { d with circuitCounters := x }) (fun _ => rfl) (fun _ _ _ => rfl)
        (fun _ _ => ⟨_, rfl⟩) is arrived
      refine ⟨by rw [hx], fun cid c => ?_⟩
      have h := foldl_places (step := clearEntry 19) (is := is) (place := id)
        (read := fun d i => d.circuitCounters.get Table.empty i)
        (write := fun _ => Table.empty) (fun _ => rfl)
        (fun i _ d j => Table.get_put ..) arrived cid
      simp only [id, mem] at h
      refine (congrArg (fun t => t.get 0 c.pos) h).trans ?_
      split
      · exact Table.get_empty ..
      · rfl
    case meters =>
      obtain ⟨x, hx⟩ := foldl_writes_block (step := clearEntry 20) (get := Device.meters)
        (put := fun d x => { d with meters := x }) (fun _ => rfl) (fun _ _ _ => rfl)
        (fun _ _ => ⟨_, rfl⟩) is arrived
      refine ⟨by rw [hx], fun m => ?_⟩
      have h := foldl_places (step := clearEntry 20) (is := is) (place := id)
        (read := Device.meterState) (write := fun x => { x with green := 0, yellow := 0, red := 0 })
        (fun _ => rfl)
        (fun i _ d j => (meterState_setMeterState ..).trans (by split <;> simp [*])) arrived m
      simp only [id, mem] at h
      exact h
    case device =>
      have single : is = [0] := by
        have : index = 0 ∧ count = 1 := by omega
        simp only [is]
        rw [this.1, this.2]
        rfl
      rw [single]
      rfl

end Sys2Proof.Machine

/-! Proofs about RESTART: its answer, and the restart at the end of that answer's transmission. -/

namespace Sys2Proof.Machine

open Device (Writes)

set_option Elab.async false in
/-- A pending ATTENTION of a part that sends nothing is sent at the end of the event, where the slot
is empty (R98, R171). -/
theorem settle_sends_attention {d : Device} (ht : d.trunkTx = none) (hs : d.endpoint.slot = none)
    (hp : d.endpoint.inProgress = none) (hq : d.endpoint.queue = [])
    (hn : d.endpoint.attnPending = true) :
    settle d = { d with
      trunkTx := some { holds := .record false,
                        wire := trunkData Config.managementCid 0 (attentionRecord d) },
      endpoint := { d.endpoint with attnPending := false } } :=
  (settle_pending hs hp hq hn).trans (answered_idle (by exact ht) _ _)

/-- The ATTENTION that is sent is one of the part as the event leaves it (R176). -/
theorem settle_attention_sent {d : Device} (ht : d.trunkTx = none) (hs : d.endpoint.slot = none)
    (hp : d.endpoint.inProgress = none) (hq : d.endpoint.queue = [])
    (hn : d.endpoint.attnPending = true) :
    (settle d).endpoint.slot = none ∧ (settle d).trunkTx =
      some { holds := .record false,
             wire := trunkData Config.managementCid 0 (attentionRecord (settle d)) } := by
  rw [settle_sends_attention ht hs hp hq hn]
  exact ⟨hs, rfl⟩

/-- The end of an event on a part that sends nothing, has nothing to send but a record, and has
neither a request in hand nor a queue: at most the slot, the transmitter and the pending ATTENTION
change (R98, R171). -/
theorem settle_idle {d : Device} (ht : d.trunkTx = none) (hp : d.endpoint.inProgress = none)
    (hq : d.endpoint.queue = []) (ha : d.trunkAdm = .mgmtOnly) :
    ∃ tx slot, settle d = { d with
      trunkTx := tx, endpoint := { d.endpoint with slot := slot, attnPending := false } } := by
  have notReady : ∀ b, d.endpoint.inProgress ≠ some (.ready b) := by
    intro b hb
    exact nomatch hp.symm.trans hb
  cases hs : d.endpoint.slot with
  | none =>
    cases hn : d.endpoint.attnPending with
    | false =>
      refine ⟨d.trunkTx, d.endpoint.slot, (settle_quiet ⟨hs, hp, hq, hn⟩ (.inr (.inl ha))).trans ?_⟩
      rw [← hn]
    | true =>
      exact ⟨_, d.endpoint.slot, settle_sends_attention ht hs hp hq hn⟩
  | some r =>
    have sent := trunkChoose_record ht hs
    cases hn : d.endpoint.attnPending with
    | false =>
      refine ⟨some { holds := .record r.isRestart,
                     wire := trunkData Config.managementCid 0 r.bytes }, none,
        (settle_steps (fillSlot_full hs) sent
        (fillSlot_idle rfl notReady hq hn) (trunkChoose_sending rfl)).trans ?_⟩
      rw [← hn]
    | true =>
      exact ⟨_, _, settle_steps (fillSlot_full hs) sent (fillSlot_attention rfl hp hn)
        (trunkChoose_sending rfl)⟩

/-- Of such a part the end of an event changes the transmitter and the Endpoint alone, and leaves no
ATTENTION pending. -/
theorem settle_idle_writes {d : Device} (ht : d.trunkTx = none) (hp : d.endpoint.inProgress = none)
    (hq : d.endpoint.queue = []) (ha : d.trunkAdm = .mgmtOnly) :
    Writes [.trunkTx, .endpoint] d (settle d) ∧ ∃ slot,
      (settle d).endpoint = { d.endpoint with slot := slot, attnPending := false } := by
  obtain ⟨tx, slot, h⟩ := settle_idle ht hp hq ha
  rw [h]
  exact ⟨⟨fun f hf => by cases f <;> first | rfl | simp at hf, ⟨id, id, id, id, id⟩⟩, slot, rfl⟩

/-- A station's record and configuration bit after the restart of its index (R126). -/
theorem station_restartStation (d : Device) (i j : Nat) :
    ((restartStation d i).stations.get Station.powerOn j,
      ((restartStation d i).tables.stations.get StationConfig.powerOn j).configured) =
    if j = i then
      ((d.stations.get Station.powerOn j).restarted
        (d.tables.stations.get StationConfig.powerOn j).configured,
        (d.tables.stations.get StationConfig.powerOn j).configured)
    else (d.stations.get Station.powerOn j,
      (d.tables.stations.get StationConfig.powerOn j).configured) := by
  have placed : (restartStation d i).stations.get Station.powerOn j = _ := Table.get_put ..
  have tables : (restartStation d i).tables = d.tables := rfl
  rw [placed, tables]
  split
  · rename_i h
    rw [h]
  · rfl

/-- Every station is restarted by its configuration in force (R126). -/
theorem station_restarted (d : Device) {k : Branch} {st : Nat} (h1 : 1 ≤ st) (h2 : st ≤ 30) :
    ((List.range 120).foldl restartStation d).station k st =
      (d.station k st).restarted (d.stationConfig k st).configured := by
  have h := foldl_places (step := restartStation) (is := List.range 120) (place := id)
    (read := fun d i => (d.stations.get Station.powerOn i,
      (d.tables.stations.get StationConfig.powerOn i).configured))
    (write := fun x => (x.1.restarted x.2, x.2)) (fun _ => rfl)
    (fun i _ d j => station_restartStation d i j) d (stationIndex k st)
  have mem : stationIndex k st ∈ List.range 120 := by
    rw [List.mem_range]
    unfold stationIndex
    cases k <;> simp only [Branch.toNat] <;> omega
  rw [if_pos (by exact mem)] at h
  exact congrArg Prod.fst h

/-- The part after a restart but for the stations and RESTARTED (R177). -/
def Device.cleared (d : Device) : Device :=
  { d with
    trunkAdm := .mgmtOnly, branchAdm := PerBranch.all .shut, accumulators := PerLine.all 0,
    pool := Pool.allFree, timer := Timer.unlockedAt d.timer.cycle, egress := d.restartedEgress,
    slots := Table.empty, trunkTx := none, seqs := d.restartedSeqs, contexts := [],
    change := d.change.restarted, endpoint := d.endpoint.restarted }

/-- The part after a restart but for RESTARTED: what each owner is left in (R177). -/
def Device.restarted (d : Device) : Device := (List.range 120).foldl restartStation d.cleared

theorem restartStation_writes (d : Device) (i : Nat) : Writes [.stations] d (restartStation d i) :=
  stations_writes ..

theorem restarted_writes (d : Device) : Writes [.stations] d.cleared d.restarted :=
  .foldl restartStation_writes _ d.cleared

/-- RESTARTED is raised last (R177). -/
theorem restartNow_eq (d : Device) : restartNow d =
    raiseEvent .restarted none none d.endpoint.queue.length d.restarted := rfl

theorem restartedEgress_get (d : Device) (l : Line) :
    d.restartedEgress.get l = Egress.fresh (d.settings l) := by cases l <;> rfl

theorem restartedSeqs_get (d : Device) (k : Branch) :
    d.restartedSeqs.get k = (d.seq k).restarted := by cases k <;> rfl

section Restart

variable (d : Device)

theorem restartNow_writes : Writes [.endpoint] d.restarted (restartNow d) := by
  rw [restartNow_eq]
  exact raiseEvent_writes ..

set_option Elab.async false in
/-- The Endpoint and the transmitter after a restart, before the event's end (R177). -/
theorem restartNow_idle : (restartNow d).trunkTx = none ∧
    (restartNow d).endpoint.inProgress = none ∧ (restartNow d).endpoint.queue = [] ∧
    (restartNow d).trunkAdm = .mgmtOnly ∧
    (restartNow d).endpoint.slot = d.endpoint.slot := by
  have owners := restarted_writes d
  have raised := restartNow_writes d
  refine ⟨raised.trunkTx.trans owners.trunkTx, ?_, ?_, raised.trunkAdm.trans owners.trunkAdm, ?_⟩
  all_goals rw [restartNow_eq]
  · exact (joinEvent_inProgress _ _).trans (congrArg Endpoint.inProgress owners.endpoint)
  · exact (joinEvent_queue _ _).trans (congrArg Endpoint.queue owners.endpoint)
  · exact (joinEvent_slot _ _).trans ((congrArg Endpoint.slot owners.endpoint).trans rfl)

/-- RESTARTED finds room: its record joins the list, and it calls for attention by itself (R175 to
R177). -/
theorem restartNow_room (h : d.endpoint.events.length < 32) {attention : Bool}
    (ha : (d.endpoint.events.isEmpty && d.tables.device.attentionEnable) = attention) :
    (restartNow d).endpoint = { d.endpoint.restarted with
      events := d.endpoint.events ++ [{ kind := .restarted, cycle := d.timer.cycle, line := none,
                                        station := none, detail := d.endpoint.queue.length }],
      attnPending := attention, attnOutstanding := attention } := by
  have owners := restarted_writes d
  have endpoint : d.restarted.endpoint = d.endpoint.restarted := owners.endpoint
  have joined := raiseEvent_room .restarted none none d.endpoint.queue.length (d := d.restarted)
    (attention := attention) (by rw [endpoint]; exact h)
    (by rw [endpoint, owners.tables]; exact (Bool.and_true _).trans ha)
  rw [restartNow_eq, joined, Device.eventNow, owners.timer]
  dsimp only
  rw [endpoint]
  rfl

/-- RESTARTED finds the list full and is lost (R175). -/
theorem restartNow_full (h : 32 ≤ d.endpoint.events.length) :
    (restartNow d).endpoint = { d.endpoint.restarted with eventsLost := true } := by
  have endpoint : d.restarted.endpoint = d.endpoint.restarted := (restarted_writes d).endpoint
  have lost := raiseEvent_full .restarted none none d.endpoint.queue.length (d := d.restarted)
    (by rw [endpoint]; exact h)
  rw [restartNow_eq, lost]
  dsimp only
  rw [endpoint]

/-- What the restart's event leaves of every owner but the stations, the Endpoint and the
transmitter. -/
theorem restart_writes :
    Writes [.trunkTx, .endpoint, .stations] d.cleared (settle (restartNow d)) := by
  obtain ⟨ht, hp, hq, ha, -⟩ := restartNow_idle d
  have ended := (settle_idle_writes ht hp hq ha).1
  have raised : Writes [.endpoint, .stations] d.cleared (restartNow d) :=
    (restarted_writes d).mono.andThen (restartNow_writes d)
  exact raised.mono.andThen ended

/-- Every station after the restart's event (R126). -/
theorem restart_station {k : Branch} {st : Nat} (h1 : 1 ≤ st) (h2 : st ≤ 30) :
    (settle (restartNow d)).station k st =
      (d.station k st).restarted (d.stationConfig k st).configured := by
  obtain ⟨ht, hp, hq, ha, -⟩ := restartNow_idle d
  have ended := (settle_idle_writes ht hp hq ha).1
  have same := ended.stations.trans (restartNow_writes d).stations
  exact (congrArg (fun t : Table Station => t.get Station.powerOn (stationIndex k st)) same).trans
    (station_restarted d.cleared h1 h2)

/-- The Endpoint after the restart's event, but for the slot. -/
theorem restart_endpoint : ∃ slot, (settle (restartNow d)).endpoint =
    { (restartNow d).endpoint with slot := slot, attnPending := false } := by
  obtain ⟨ht, hp, hq, ha, -⟩ := restartNow_idle d
  exact (settle_idle_writes ht hp hq ha).2

/-- A restart that calls for no attention sends nothing. -/
theorem restart_calm (h : d.endpoint.slot = none)
    (calm : d.endpoint.events ≠ [] ∨ d.tables.device.attentionEnable = false) :
    (settle (restartNow d)).trunkTx = none ∧ (settle (restartNow d)).endpoint.slot = none := by
  obtain ⟨ht, hp, hq, ha, hs⟩ := restartNow_idle d
  have pending : (restartNow d).endpoint.attnPending = false := by
    rcases Nat.lt_or_ge d.endpoint.events.length 32 with short | long
    · rw [restartNow_room d short (attention := false) (by rcases calm with h | h <;> simp [h])]
    · rw [restartNow_full d long]
      rfl
  rw [settle_quiet ⟨hs.trans h, hp, hq, pending⟩ (.inr (.inl ha))]
  exact ⟨ht, hs.trans h⟩

/-- A restart that calls for attention sends its ATTENTION (R176). -/
theorem restart_calls (h : d.endpoint.slot = none) (empty : d.endpoint.events = [])
    (enabled : d.tables.device.attentionEnable = true) :
    (settle (restartNow d)).endpoint.slot = none ∧ (settle (restartNow d)).trunkTx =
      some { holds := .record false,
             wire := trunkData Config.managementCid 0
               (attentionRecord (settle (restartNow d))) } := by
  obtain ⟨ht, hp, hq, -, hs⟩ := restartNow_idle d
  have pending : (restartNow d).endpoint.attnPending = true := by
    rw [restartNow_room d (by rw [empty]; decide) (attention := true) (by rw [empty, enabled]; rfl)]
  exact settle_attention_sent ht (hs.trans h) hp hq pending

/-- No attention is outstanding after a restart but the one RESTARTED calls for (R176, R177). -/
theorem restart_outstanding : (restartNow d).endpoint.attnOutstanding = true ↔
    d.endpoint.events = [] ∧ d.tables.device.attentionEnable = true := by
  rcases Nat.lt_or_ge d.endpoint.events.length 32 with short | long
  · rw [restartNow_room d short rfl, Bool.and_eq_true, List.isEmpty_iff]
  · rw [restartNow_full d long]
    refine ⟨(fun h => nomatch h), fun ⟨h, _⟩ => ?_⟩
    rw [h] at long
    exact absurd long (by decide)

end Restart

/-- The part whose trunk transmission has ended, before what the end leads to (R13, R100). -/
def Device.sent (d : Device) : Device := { d.bumpLine .t .framesSent with trunkTx := none }

/-- The end of the transmission of a RESTART's response makes the restart take place (R177). -/
theorem trunkComplete_restart {d : Device} {wire : List Byte}
    (h : d.trunkTx = some { holds := .record true, wire := wire }) :
    trunkComplete d = restartNow d.sent := by
  unfold trunkComplete
  rw [h]
  rfl

/-- Settles O6: RESTART is answered as any request; at its transmission's end each owner is left as
`Device.cleared` and `restart_station` say, RESTARTED is raised, and the end of the event places its
ATTENTION. -/
theorem restartIsAnsweredThenTakesPlace : Obligations.RestartIsAnsweredThenTakesPlace := by
  refine ⟨?answer, ?restart⟩
  case answer =>
    intro now req s takes bare waits
    refine exec_request_replied now .restart takes (after := waits) ?_ takes.2.1.2.2.2 rfl
    rw [performRequest_bare _ (by decide) bare rfl]
    rfl
  case restart =>
    intro now wire s running sending
    obtain ⟨d, hd⟩ : ∃ d : Device, d = ({ s.dev with now := now } : Device).sent := ⟨_, rfl⟩
    have event : exec (.trunkTransmissionComplete now) s =
        .next { s with dev := settle (restartNow d) } := by
      rw [hd, ← trunkComplete_restart (d := { s.dev with now := now }) sending]
      exact next_congr (Device.event_running running _ _)
    have owned := restart_writes d
    obtain ⟨slot, ended⟩ := restart_endpoint d
    obtain ⟨-, progress, queue, -, -⟩ := restartNow_idle d
    have egr (l : Line) : (settle (restartNow d)).egr l = Egress.fresh (d.settings l) :=
      (congrArg (PerLine.get · l) owned.egress).trans (restartedEgress_get d l)
    have station := @restart_station d
    have room := restartNow_room d
    have full := restartNow_full d
    have calm := restart_calm d
    have calls := restart_calls d
    have outstanding := restart_outstanding d
    refine ⟨_, event, (congrArg Endpoint.queue ended).trans queue,
      (congrArg Endpoint.inProgress ended).trans progress, owned.trunkAdm, fun k => ?admission,
      .of_eq ((congrArg Pool.free owned.pool).trans Pool.allFree_free),
      congrArg (fun p : Pool => p.frames.cells) owned.pool, fun l => ?usage,
      congrArg Pool.sharedCount owned.pool, congrArg Pool.emptyArmed owned.pool, owned.contexts,
      fun l c => ?queues, fun l => ?credits, congrArg Table.cells owned.slots, fun k => ?seqs,
      fun k st h1 h2 => ?stations, ?timer, ?change, fun l => ?accumulators, ?tables,
      ?meters, ?circuits, ?lines, fun h => ?joined, fun h => ?lost,
      ?outstanding, congrArg Endpoint.attnPending ended, ?calm, ?calls⟩
    case admission =>
      exact (congrArg (PerBranch.get · k) owned.branchAdm).trans (PerBranch.get_all _ k)
    case usage =>
      exact (congrArg (fun p : Pool => p.usage.get l) owned.pool).trans (PerLine.get_all _ l)
    case queues =>
      exact ⟨(congrArg (fun x : Egress => x.queues.get c) (egr l)).trans (PerClass.get_all _ c),
        (congrArg (fun x : Egress => x.release.get c) (egr l)).trans (PerClass.get_all _ c)⟩
    case accumulators =>
      exact (congrArg (PerLine.get · l) owned.accumulators).trans (PerLine.get_all _ l)
    all_goals dsimp only
    case credits =>
      rw [egr l, hd]
      exact ⟨rfl, rfl⟩
    case seqs =>
      refine ((congrArg (PerBranch.get · k) owned.seqs).trans (restartedSeqs_get d k)).trans ?_
      rw [hd]
      rfl
    case stations =>
      rw [station h1 h2, hd]
      rfl
    case timer =>
      rw [owned.timer, hd]
      rfl
    case change =>
      rw [owned.change, hd]
      rfl
    case tables =>
      rw [owned.tables, hd]
      rfl
    case meters =>
      rw [owned.meters, hd]
      rfl
    case circuits =>
      rw [owned.circuitCounters, hd]
      rfl
    case lines =>
      rw [owned.lines, hd]
      rfl
    case joined =>
      rw [ended]
      refine (congrArg Endpoint.events (room (by rw [hd]; exact h) rfl)).trans ?_
      rw [hd]
      rfl
    case lost =>
      rw [ended]
      have lost := full (by rw [hd]; exact h)
      refine ⟨(congrArg Endpoint.events lost).trans ?_, (congrArg Endpoint.eventsLost lost).trans rfl⟩
      rw [hd]
      rfl
    case outstanding =>
      rw [ended]
      refine outstanding.trans ?_
      rw [hd]
      rfl
    case calm =>
      intro hs hq
      exact calm (by rw [hd]; exact hs) (by rw [hd]; exact hq)
    case calls =>
      intro hs he ha
      exact calls (by rw [hd]; exact hs) (by rw [hd]; exact he) (by rw [hd]; exact ha)

end Sys2Proof.Machine

/-! What the replies of a transaction, the arrivals, the expiries and the cycle starts write. -/

namespace Sys2Proof.Machine

open Device (Writes)

/- ### Replies and arrivals on a branch -/

section Replies

variable (d : Device) (k : Branch)

set_option Elab.async false in
theorem exchangeData_writes (f : BranchFrame) :
    Writes [.lines, .circuitCounters, .pool, .endpoint] d (exchangeData k f d).2 := by
  unfold exchangeData
  split
  · dsimp only
    exact (countReason_writes ..).mono
  · split <;> dsimp only
    · exact (countReason_writes ..).mono
    · rename_i met
      exact (storeReceipt_writes d k f (room_of_receiptRefusal met)).mono

theorem exchangeReply_writes (r : InFlight) (f : BranchFrame) :
    Writes transactionFields d (exchangeReply k r f d) := by
  unfold exchangeReply
  split
  · exact (exchangeData_writes d k f).mono.andThen (endTransaction_writes ..)
  · exact endTransaction_writes ..

theorem deliverAck_writes (s : Nat) (c : Class) (segment : Nat) :
    Writes [.stations, .egress, .queued, .seqs, .pool] d (deliverAck k s c segment d) := by
  have flipped := (flipDown_writes d k s).mono (fs := [.stations, .egress, .queued, .seqs, .pool])
  unfold deliverAck
  dsimp only
  split
  · exact flipped
  · split
    · exact flipped
    · split
      · exact (flipped.andThen (removeHead_writes ..)).andThen (releaseFrame_writes ..)
      · exact (flipped.andThen (setQueue_writes ..)).andThen (setSeq_core_writes _ (by rfl))

theorem deliverBusy_writes (s : Nat) (c : Class) :
    Writes [.lines, .stations, .egress, .queued, .seqs, .pool, .circuitCounters] d
      (deliverBusy k s c d) := by
  have held := ((bumpBoth_writes d k s .busyReceived .busyReceived).mono
    (fs := [.lines, .stations, .egress, .queued, .seqs, .pool, .circuitCounters])).andThen
    (holdClass_writes _ k c)
  unfold deliverBusy
  dsimp only
  split
  · exact held
  · split
    · exact (held.andThen (removeHead_writes ..)).andThen (dropFrame_writes ..)
    · exact held.andThen (setQueue_writes ..)

theorem deliverReply_writes (r : InFlight) (c : Class) (segment : Nat) (f : BranchFrame) :
    Writes transactionFields d (deliverReply k r c segment f d) := by
  unfold deliverReply
  dsimp only
  refine Writes.andThen ?_ (endTransaction_writes ..)
  split
  · exact (deliverAck_writes ..).mono
  · split
    · exact (deliverBusy_writes ..).mono
    · exact .refl d

theorem sendAnswer_writes (r : InFlight) (kind : BranchKind) :
    Writes [.seqs, .cores] d (sendAnswer k r kind d) :=
  (setInFlight_writes ..).andThen (sendBranch_writes ..)

theorem answerAck_writes (r : InFlight) (received : Option Nat) :
    Writes [.stations, .seqs, .cores] d (answerAck k r received d) :=
  (flipUp_writes ..).mono.andThen (sendAnswer_writes ..)

theorem answerBusy_writes (r : InFlight) :
    Writes [.lines, .stations, .seqs, .cores] d (answerBusy k r d) :=
  (bumpBoth_writes ..).mono.andThen (sendAnswer_writes ..)

theorem serviceData_writes (r : InFlight) (f : BranchFrame) :
    Writes [.lines, .stations, .seqs, .cores, .pool, .contexts, .endpoint] d (serviceData k r f d) := by
  unfold serviceData
  split
  · exact (answerBusy_writes ..).mono
  · split
    · exact (bumpBoth_writes ..).mono.andThen (sendAnswer_writes ..)
    · split
      · split
        · exact (answerBusy_writes ..).mono
        · rename_i met
          exact (storeReceipt_writes d k f (room_of_receiptRefusal met)).mono.andThen
            (answerAck_writes ..)
      · dsimp only
        split
        · exact (takeSegment_writes ..).mono.andThen (answerAck_writes ..)
        · exact (takeSegment_writes ..).mono.andThen (answerBusy_writes ..)

theorem serviceReply_writes (r : InFlight) (f : BranchFrame) :
    Writes transactionFields d (serviceReply k r f d) := by
  unfold serviceReply
  split
  · exact (serviceData_writes ..).mono
  · exact endTransaction_writes ..

theorem acceptReply_writes (r : InFlight) (f : BranchFrame) :
    Writes transactionFields d (acceptReply k r f d) := by
  have waited := ((setInFlight_writes d k (some { r with replyWait := none })).mono
    (fs := transactionFields)).andThen (resyncOnReply_writes _ k r.station)
  unfold acceptReply
  dsimp only
  split
  · exact waited.andThen (exchangeReply_writes ..)
  · exact waited.andThen (deliverReply_writes ..)
  · exact waited.andThen (serviceReply_writes ..)
  · exact waited.andThen (serviceReply_writes ..)

theorem unexpectedFrame_writes (f : BranchFrame) :
    Writes [.lines, .stations] d (unexpectedFrame k f d) := by
  unfold unexpectedFrame
  split
  · exact (bumpLine_writes ..).mono
  · exact bumpBoth_writes ..

set_option Elab.async false in
theorem validArrival_writes (f : BranchFrame) :
    Writes transactionFields d (validArrival k f d) := by
  unfold validArrival
  split
  · exact (unexpectedFrame_writes ..).mono
  · split
    · exact acceptReply_writes ..
    · exact (bumpBoth_writes ..).mono.andThen (failAttempt_writes ..)

theorem erroredArrival_writes : Writes transactionFields d (erroredArrival k d) := by
  unfold erroredArrival
  split
  · exact failAttempt_writes ..
  · exact .refl d

theorem branchChecked_writes (c : Checked BranchFrame) :
    Writes transactionFields d (branchChecked k c d) := by
  unfold branchChecked
  split
  · exact (headerErrorOn_writes ..).mono.andThen (erroredArrival_writes ..)
  · exact (payloadErrorOn_writes ..).mono.andThen (erroredArrival_writes ..)
  · exact (bumpLine_writes ..).mono.andThen (validArrival_writes ..)

theorem collect_writes (l : Line) (size : Nat) (bytes : List Byte) :
    Writes [.lines] d (collect l size bytes d) := setLineIf_writes ..

theorem branchArrival_writes (start : Nat) (bytes : List Byte) :
    Writes transactionFields d (branchArrival k start bytes d) := by
  unfold branchArrival
  split
  · exact (bumpLineBy_writes ..).mono
  · split
    · exact .refl d
    · exact (collect_writes ..).mono.andThen (branchChecked_writes ..)

end Replies

/- ### Expiries and completions on a branch -/

section Expiries

variable (d : Device) (k : Branch)

theorem now_writes (now : Nat) : Writes [.now] d { d with now := now } :=
  ⟨fun f hf => by cases f <;> first | rfl | simp at hf, ⟨id, id, id, id, id⟩⟩

/-- The fields that an event of a branch writes when it sets the instant itself. -/
abbrev expiryFields : List Field :=
  [.now, .branchAdm, .lines, .circuitCounters, .pool, .egress, .queued, .slots, .contexts, .seqs,
    .cores, .stations,
    .endpoint, .meters, .accumulators]

theorem replyTimeoutDue_writes : Writes expiryFields d (replyTimeoutDue k d) := by
  unfold replyTimeoutDue
  split
  · exact .refl d
  · split
    · exact .refl d
    · exact (now_writes ..).mono.andThen (failAttempt_writes ..)

theorem startWait_writes (r : InFlight) : Writes [.seqs, .cores] d (startWait k r d) :=
  setInFlight_writes ..

theorem afterBranchFrame_writes (role : TxRole) :
    Writes transactionFields d (afterBranchFrame k role d) := by
  unfold afterBranchFrame
  split
  · split
    · exact (startWait_writes ..).mono
    · exact endTransaction_writes ..
    · exact .refl d
  · split
    · split
      · exact (beginCycle_writes ..).mono
      · exact (periodicStep_writes ..).mono
      · exact .refl d
    · exact .refl d

theorem branchComplete_writes : Writes expiryFields d (branchComplete k d) := by
  unfold branchComplete
  split
  · exact .refl d
  · exact (((now_writes ..).mono.andThen (setSeq_writes ..)).andThen
      (bumpLine_writes ..)).andThen (afterBranchFrame_writes ..)

theorem shaperRelease_writes (l : Line) (c : Class) :
    Writes expiryFields d (shaperRelease l c d) := by
  unfold shaperRelease
  split
  · exact .refl d
  · rename_i due _
    exact ((now_writes d due).mono.andThen (setRelease_writes ..)).andThen (notice_writes ..)

end Expiries

/- ### Trunk arrivals and cycle starts -/

section Trunk

variable (d : Device)

theorem countNotMine_writes : Writes [.endpoint] d (countNotMine d) := endpoint_writes _ _ id id

set_option Elab.async false in
theorem requestArrival_writes (bs : List Byte) : Writes [.endpoint] d (requestArrival bs d) := by
  unfold requestArrival
  split
  · exact countNotMine_writes d
  · split
    · exact endpoint_writes _ _ id id
    · rename_i room
      refine endpoint_writes _ _ (fun _ => ?_) id
      rw [List.length_append]
      exact Nat.lt_of_not_le room

/-- The fields that the hand-out of a cycle start writes. -/
abbrev handOutFields : List Field :=
  [.meters, .lines, .circuitCounters, .pool, .slots, .contexts, .stations, .seqs, .cores]

theorem handOut_writes : Writes handOutFields d (handOut d) := by
  unfold handOut
  dsimp only
  exact ((((refillMeters_writes d).mono.andThen (discardLate_writes _)).andThen
    (ageContexts_writes _)).andThen (countDownProbes_writes _)).andThen
    (.foldl (fun x k => branchCycleStart_writes x k _ _) _ _)

theorem applyAtStart_writes : Writes (.choices :: applyFields) d (applyAtStart d) := by
  have drawn : Writes [.choices] d { d with choices := d.choices + 1 } :=
    ⟨fun f hf => by cases f <;> first | rfl | simp at hf, ⟨id, id, id, id, id⟩⟩
  unfold applyAtStart
  split
  · dsimp only
    split
    · exact (drawn.mono.andThen (discardLate_writes _)).andThen (applyList_writes _)
    · exact drawn.mono.andThen (applyList_writes _)
  · exact (applyList_writes d).mono

theorem actOnCommit_writes (act : ChangeAct) :
    Writes (.choices :: applyFields) d (actOnCommit act d) := by
  unfold actOnCommit
  split
  · exact .refl d
  · exact applyAtStart_writes d
  · exact (change_writes ..).mono

theorem raiseCommit_writes (act : ChangeAct) : Writes [.endpoint] d (raiseCommit act d) := by
  unfold raiseCommit
  split
  · exact .refl d
  · exact raiseEvent_writes ..
  · exact raiseEvent_writes ..

theorem raiseFrameEvents_writes (old : Timer) (slip : Bool) :
    Writes [.endpoint] d (raiseFrameEvents old slip d) := by
  have locked : Writes [.endpoint] d (if old.state ≠ .locked then
      raiseEvent .cycleLocked (some .t) none old.miss d else d) := by
    split
    · exact raiseEvent_writes ..
    · exact .refl d
  unfold raiseFrameEvents
  dsimp only
  split
  · exact locked.andThen (raiseEvent_writes ..)
  · exact locked

theorem timer_writes (t : Timer) : Writes [.timer] d { d with timer := t } :=
  ⟨fun f hf => by cases f <;> first | rfl | simp at hf, ⟨id, id, id, id, id⟩⟩

theorem goFree_writes : Writes [.endpoint, .timer] d (goFree d) :=
  (timer_writes ..).mono.andThen (raiseEvent_writes ..)

theorem raiseLocalEvents_writes (fromLocked : Bool) (before : Nat) :
    Writes [.endpoint, .timer] d (raiseLocalEvents fromLocked before d) := by
  have coasting : Writes [.endpoint, .timer] d (if fromLocked then
      raiseEvent .cycleCoasting (some .t) none 0 d else d) := by
    split
    · exact (raiseEvent_writes ..).mono
    · exact .refl d
  unfold raiseLocalEvents
  dsimp only
  generalize (if fromLocked = true then
    raiseEvent .cycleCoasting (some .t) none 0 d else d) = x at coasting ⊢
  split
  · exact coasting.andThen (goFree_writes x)
  · exact coasting

end Trunk

end Sys2Proof.Machine

/-! What the performing of a request, the end of an event, a cycle start and a command write. -/

namespace Sys2Proof.Machine

open Device (Writes)

/- ### Requests -/

section Requests

variable (d : Device)

/-- The fields that the performing of a request writes. -/
abbrev requestFields : List Field :=
  [.lines, .trunkAdm, .branchAdm, .openedAt, .meters, .circuitCounters, .pool, .egress, .queued,
    .slots, .seqs, .cores, .stations, .contexts, .tables, .change, .endpoint]

/-- The fields that a COMMIT writes. -/
abbrev commitFields : List Field := .endpoint :: applyFields

set_option Elab.async false in
theorem commitNow_writes : Writes commitFields d (commitNow d).1 :=
  (applyList_writes d).mono.andThen (raiseEvent_writes ..)

theorem performCommit_writes (kind : Nat) (number : Cycle) :
    Writes commitFields d (performCommit kind number d).1 := by
  have armed : ∀ target, Writes commitFields d (armList target d).1 :=
    fun target => (change_writes ..).mono
  unfold performCommit
  dsimp only
  repeat' split
  all_goals first | exact commitNow_writes d | exact armed _ | exact .refl d

theorem clearEntry_writes (unit i : Nat) :
    Writes [.stations, .lines, .circuitCounters, .meters, .endpoint] d (clearEntry unit d i) := by
  unfold clearEntry
  split
  · exact (stations_writes ..).mono
  · exact (setLineIf_writes ..).mono
  · exact (setLineIf_writes ..).mono
  · exact (circuitCounters_writes ..).mono
  · exact (setMeterState_writes ..).mono
  · exact Writes.mono (endpoint_writes d _ id id)
  · exact .refl d

theorem performClear_writes (unit index count : Nat) :
    Writes [.stations, .lines, .circuitCounters, .meters, .endpoint] d
      (performClear unit index count d).1 := by
  unfold performClear
  split
  · exact .refl d
  · split
    · exact .refl d
    · split
      · exact .refl d
      · exact .foldl (fun d i => clearEntry_writes d unit i) _ d

theorem performTakeEvents_writes (count : Nat) :
    Writes [.endpoint] d (performTakeEvents count d).1 :=
  endpoint_writes _ _ id fun h => (List.drop_sublist _ _).length_le.trans h

theorem openBranch_writes (k : Branch) :
    Writes [.branchAdm, .openedAt, .stations, .egress, .seqs] d (openBranch k d) := by
  have opened : Writes [.branchAdm, .openedAt] d
      { d.setAdmission k .opened with openedAt := d.openedAt.set k d.now } :=
    ⟨fun f hf => by cases f <;> first | rfl | simp at hf, ⟨id, id, id, id, id⟩⟩
  exact opened.mono.andThen (markResyncAll_writes ..)

theorem setBranch_writes (k : Branch) (state : Nat) (op : Byte) (tag : List Byte) :
    Writes requestFields d (setBranch k state op tag d).1 := by
  have shutting : Writes [.branchAdm, .endpoint] d { d.setAdmission k .shutting with
      endpoint := { d.endpoint with inProgress := some (.setLine k op tag) } } :=
    ⟨fun f hf => by cases f <;> first | rfl | simp at hf, ⟨id, id, id, id, id⟩⟩
  unfold setBranch
  repeat' split
  all_goals dsimp only
  · exact .refl d
  · exact (shutBranch_writes ..).mono
  · exact shutting.mono
  · exact .refl d
  · exact .refl d
  · exact (openBranch_writes ..).mono
  · exact .refl d

theorem performSetLine_writes (line state : Nat) (op : Byte) (tag : List Byte) :
    Writes requestFields d (performSetLine line state op tag d).1 := by
  unfold performSetLine
  split
  · exact .refl d
  · split
    · exact (setTrunk_writes state d).mono
    · exact setBranch_writes ..

theorem performOp_writes (op : Op) (bs : List Byte) :
    Writes requestFields d (performOp op bs d).1 := by
  cases op with
  | read => exact .refl d
  | stage => exact (performStage_writes ..).mono
  | discard => exact (change_writes ..).mono
  | commit => exact (performCommit_writes ..).mono
  | setLine => exact performSetLine_writes ..
  | clear => exact (performClear_writes ..).mono
  | takeEvents => exact (performTakeEvents_writes ..).mono
  | restart => exact Writes.mono (endpoint_writes d _ id id)

theorem performRequest_writes (bs : List Byte) :
    Writes requestFields d (performRequest bs d).1 := by
  unfold performRequest
  split
  · exact .refl d
  · exact performOp_writes ..

theorem performHead_writes (bs : List Byte) : Writes requestFields d (performHead bs d) := by
  have performed := performRequest_writes d bs
  unfold performHead
  split
  · rename_i d' h
    rw [h] at performed
    exact performed
  · rename_i d' r h
    rw [h] at performed
    exact performed.andThen (endpoint_writes _ _ id id)

/-- A shorter queue, and another count, are written to the Endpoint alone. -/
theorem takeHead_writes (queue : List (List Byte)) (h : queue.length ≤ d.endpoint.queue.length) :
    Writes requestFields d (takeHead queue d) := by
  induction queue generalizing d with
  | nil => exact Writes.mono (endpoint_writes d _ (fun _ => Nat.zero_le _) id)
  | cons bs rest ih =>
    have taken : Writes requestFields d { d with endpoint := { d.endpoint with queue := rest } } :=
      Writes.mono (endpoint_writes d _ (fun hq => (Nat.le_of_succ_le h).trans hq) id)
    unfold takeHead
    dsimp only
    split
    · exact taken.andThen (performHead_writes ..) (List.Subset.refl _)
    · exact (taken.andThen (countNotMine_writes _)).andThen (ih _ (Nat.le_refl _))
        (List.Subset.refl _)

set_option Elab.async false in
theorem fillSlot_writes : Writes requestFields d (fillSlot d) := by
  unfold fillSlot
  split
  · exact .refl d
  · exact Writes.mono (endpoint_writes d _ id id)
  · exact .refl d
  · exact (placeAttention_writes d).mono
  · split
    · exact (placeAttention_writes d).mono
    · exact takeHead_writes d _ (Nat.le_refl _)

theorem settle_writes : Writes (.trunkTx :: requestFields) d (settle d) := by
  have once (d : Device) : Writes (.trunkTx :: requestFields) d (trunkChoose (fillSlot d)) :=
    (fillSlot_writes d).mono.andThen (trunkChoose_writes _)
  exact (once d).andThen (once _) (List.Subset.refl _)

end Requests

/- ### Cycle starts -/

section Starts

variable (d : Device)

/-- The fields that a cycle start writes. -/
abbrev startFields : List Field :=
  [.choices, .timer, .tables, .change, .lines, .meters, .circuitCounters, .pool, .egress, .slots,
    .seqs, .cores, .queued, .stations, .contexts, .endpoint]

theorem startTimer_writes (number : Cycle) (st : TimerState) (miss : Nat) :
    Writes [.timer] d (startTimer number st miss d) := timer_writes ..

theorem setExpiry_writes : Writes [.timer] d (setExpiry d) := timer_writes ..

theorem frameStart_writes (number : Cycle) : Writes startFields d (frameStart number d) := by
  unfold frameStart
  dsimp only
  exact (((((startTimer_writes ..).mono.andThen (actOnCommit_writes ..)).andThen
    (setExpiry_writes _)).andThen (raiseFrameEvents_writes ..)).andThen
    (raiseCommit_writes ..)).andThen (handOut_writes _)

theorem localStart_writes : Writes startFields d (localStart d) := by
  unfold localStart
  dsimp only
  exact (((((startTimer_writes ..).mono.andThen (actOnCommit_writes ..)).andThen
    (setExpiry_writes _)).andThen (raiseLocalEvents_writes ..)).andThen
    (raiseCommit_writes ..)).andThen (handOut_writes _)

theorem timerArrival_writes (number : Cycle) : Writes startFields d (timerArrival number d) := by
  unfold timerArrival
  split
  · split
    · exact (bumpLine_writes ..).mono
    · exact frameStart_writes ..
  · exact frameStart_writes ..

theorem lockWindowDue_writes : Writes (.now :: startFields) d (lockWindowDue d) := by
  unfold lockWindowDue
  split
  · exact (now_writes ..).mono.andThen (localStart_writes _)
  · exact .refl d

theorem localCycleDue_writes : Writes (.now :: startFields) d (localCycleDue d) := by
  unfold localCycleDue
  split
  · exact (now_writes ..).mono.andThen (localStart_writes _)
  · exact .refl d

/-- The fields that a trunk arrival writes. -/
abbrev trunkFields : List Field :=
  [.choices, .timer, .tables, .change, .lines, .meters, .accumulators, .circuitCounters, .pool,
    .egress, .queued, .slots, .seqs, .cores, .stations, .contexts, .endpoint]

theorem trunkDataFrame_writes (cid priority : Nat) (payload : List Byte) :
    Writes classifyFields d (trunkDataFrame cid priority payload d) := by
  unfold trunkDataFrame
  split
  · exact (requestArrival_writes ..).mono
  · exact classifyTrunk_writes ..

theorem trunkChecked_writes (c : Checked TrunkFrame) :
    Writes trunkFields d (trunkChecked c d) := by
  unfold trunkChecked
  split
  · exact (headerErrorOn_writes ..).mono
  · exact (payloadErrorOn_writes ..).mono
  · exact (bumpLine_writes ..).mono.andThen (timerArrival_writes ..)
  · exact (bumpLine_writes ..).mono.andThen (trunkDataFrame_writes ..)

theorem trunkArrival_writes (bytes : List Byte) : Writes trunkFields d (trunkArrival bytes d) := by
  unfold trunkArrival
  dsimp only
  exact (collect_writes ..).mono.andThen (trunkChecked_writes ..)

end Starts

/- ### The end of a trunk transmission -/

section Sent

variable (d : Device)

/-- The fields that a restart writes. -/
abbrev restartFields : List Field :=
  [.trunkAdm, .branchAdm, .accumulators, .pool, .timer, .egress, .queued, .slots, .trunkTx, .seqs,
    .cores, .contexts, .change, .endpoint, .stations]

set_option Elab.async false in
theorem cleared_kept : d.Kept d.cleared :=
  ⟨fun _ => Nat.zero_le 4, id, fun _ => Nat.zero_le 16, fun _ => Table.sorted_empty,
    fun _ => (poolOk_iff _).2 poolAgrees_allFree⟩

theorem cleared_writes : Writes restartFields d d.cleared :=
  ⟨fun f hf => by cases f <;> first | exact absurd (by decide) hf | rfl, cleared_kept d⟩

theorem restartNow_writes_all : Writes restartFields d (restartNow d) :=
  ((cleared_writes d).andThen (restarted_writes d)).andThen (restartNow_writes d)

/-- The fields that the end of a trunk transmission writes. -/
abbrev sentFields : List Field := .lines :: restartFields

theorem trunkSent_writes (tx : TrunkSending) : Writes sentFields d (trunkSent tx d) := by
  have idle := (trunkTx_writes d none).mono (fs := sentFields)
  unfold trunkSent
  dsimp only
  split
  · exact idle.andThen (releaseFrame_writes ..)
  · split
    · exact idle.andThen (restartNow_writes_all _)
    · exact idle

theorem trunkComplete_writes : Writes sentFields d (trunkComplete d) := by
  unfold trunkComplete
  split
  · exact .refl d
  · exact (bumpLine_writes ..).mono.andThen (trunkSent_writes ..)

end Sent

end Sys2Proof.Machine

/-! What a step does to the part, and the bounds and the slots that every step keeps. -/

namespace Sys2Proof.Machine

open Device (Writes)

/- ### The moves of a part -/

/-- What one command may do to the part: nothing, a reset, or an event with its end. -/
inductive Device.Moves (d : Device) : Device → Prop
  | stays : d.Moves d
  | resets (now node : Nat) (inReset : Bool) :
    d.Moves { Device.powerOn now inReset node with choices := d.choices }
  | trunkArrival (now : Nat) (bytes : List Byte) :
    d.Moves (settle (trunkArrival bytes { d with now := now }))
  | lockWindow : d.Moves (settle (lockWindowDue d))
  | localCycle : d.Moves (settle (localCycleDue d))
  | trunkComplete (now : Nat) : d.Moves (settle (trunkComplete { d with now := now }))
  | shaperRelease (l : Line) (c : Class) : d.Moves (settle (shaperRelease l c d))
  | branchArrival (k : Branch) (start now : Nat) (bytes : List Byte) :
    d.Moves (settle (branchArrival k start bytes { d with now := now }))
  | replyTimeout (k : Branch) : d.Moves (settle (replyTimeoutDue k d))
  | branchComplete (k : Branch) : d.Moves (settle (branchComplete k d))

set_option Elab.async false in
theorem Device.Moves.event {d : Device} {act : Device → Device} (now : Nat)
    (h : d.Moves (settle (act { d with now := now }))) : d.Moves (d.event now act) := by
  unfold Device.event
  split
  · exact .stays
  · exact h

theorem Device.Moves.expiry {d : Device} {act : Device → Device} (h : d.Moves (settle (act d))) :
    d.Moves (d.expiry act) := by
  unfold Device.expiry
  split
  · exact .stays
  · exact h

theorem exec_moves (c : Instr) (s : State) :
    ∃ d, exec c s = .next { s with dev := d } ∧ s.dev.Moves d := by
  cases c with
  | powerOnReset now => exact ⟨_, rfl, .resets now 0 true⟩
  | resetRelease now straps =>
    by_cases h : s.dev.inReset = true
    · exact ⟨_, if_pos h, .resets now (strapNode straps) false⟩
    · exact ⟨s.dev, if_neg h, .stays⟩
  | trunkCycleArrival now frame => exact ⟨_, rfl, .event now (.trunkArrival now frame)⟩
  | lockWindowExpiry => exact ⟨_, rfl, .expiry .lockWindow⟩
  | localCycleExpiry => exact ⟨_, rfl, .expiry .localCycle⟩
  | trunkDataArrival now frame => exact ⟨_, rfl, .event now (.trunkArrival now frame)⟩
  | read now req => exact ⟨_, rfl, .event now (.trunkArrival now (requestFrame .read req))⟩
  | stage now req => exact ⟨_, rfl, .event now (.trunkArrival now (requestFrame .stage req))⟩
  | discard now req => exact ⟨_, rfl, .event now (.trunkArrival now (requestFrame .discard req))⟩
  | commit now req => exact ⟨_, rfl, .event now (.trunkArrival now (requestFrame .commit req))⟩
  | setLine now req => exact ⟨_, rfl, .event now (.trunkArrival now (requestFrame .setLine req))⟩
  | clear now req => exact ⟨_, rfl, .event now (.trunkArrival now (requestFrame .clear req))⟩
  | takeEvents now req =>
    exact ⟨_, rfl, .event now (.trunkArrival now (requestFrame .takeEvents req))⟩
  | restart now req => exact ⟨_, rfl, .event now (.trunkArrival now (requestFrame .restart req))⟩
  | trunkTransmissionComplete now => exact ⟨_, rfl, .event now (.trunkComplete now)⟩
  | shaperReleaseExpiry l c => exact ⟨_, rfl, .expiry (.shaperRelease l c)⟩
  | branchFrameArrival k start now frame =>
    exact ⟨_, rfl, .event now (.branchArrival k start now frame)⟩
  | replyTimeout k => exact ⟨_, rfl, .expiry (.replyTimeout k)⟩
  | branchTransmissionComplete k => exact ⟨_, rfl, .expiry (.branchComplete k)⟩

/-- A step moves the part. -/
theorem step_moves {s t : State} (h : step s = .next t) : s.dev.Moves t.dev := by
  cases hp : s.pending with
  | nil =>
    have idle : step s = .next s := by
      unfold step
      rw [hp]
    rw [idle] at h
    cases h
    exact .stays
  | cons c rest =>
    obtain ⟨d, hd, moves⟩ := exec_moves c { s with pending := rest }
    have taken : step s = exec c { s with pending := rest } := by
      unfold step
      rw [hp]
    rw [taken, hd] at h
    cases h
    exact moves

/- ### Bounds and order -/

theorem Device.Kept.refl (d : Device) : d.Kept d := ⟨id, id, id, id, id⟩

theorem Device.Kept.trans {d d' d'' : Device} (h : d.Kept d') (g : d'.Kept d'') : d.Kept d'' :=
  ⟨g.queue ∘ h.queue, g.events ∘ h.events, g.contexts ∘ h.contexts, g.slots ∘ h.slots,
    g.pool ∘ h.pool⟩

/-- Every move keeps the bounds of the Endpoint and the contexts, and the order of the slots. -/
theorem Device.Moves.kept {d d' : Device} (h : d.Moves d') : d.Kept d' := by
  have ended {x : Device} (h : d.Kept x) : d.Kept (settle x) := h.trans (settle_writes x).kept
  cases h with
  | stays => exact .refl d
  | resets now node inReset =>
    exact ⟨fun _ => Nat.zero_le 4, fun _ => Nat.zero_le 32, fun _ => Nat.zero_le 16,
      fun _ => Table.sorted_empty, fun _ => (poolOk_iff _).2 poolAgrees_allFree⟩
  | trunkArrival now bytes =>
    exact ended ((now_writes d now).kept.trans (trunkArrival_writes _ bytes).kept)
  | lockWindow => exact ended (lockWindowDue_writes d).kept
  | localCycle => exact ended (localCycleDue_writes d).kept
  | trunkComplete now => exact ended ((now_writes d now).kept.trans (trunkComplete_writes _).kept)
  | shaperRelease l c => exact ended (shaperRelease_writes d l c).kept
  | branchArrival k start now bytes =>
    exact ended ((now_writes d now).kept.trans (branchArrival_writes _ k start bytes).kept)
  | replyTimeout k => exact ended (replyTimeoutDue_writes d k).kept
  | branchComplete k => exact ended (branchComplete_writes d k).kept

/-- After the transmitter's choice an idle transmitter has left no record in the slot (R98). -/
theorem slotServed_trunkChoose (d : Device) : (trunkChoose d).slotServed := by
  intro idle
  rcases trunkChoose_progress d with same | busy
  · rw [same] at idle ⊢
    cases hs : d.endpoint.slot with
    | none => rfl
    | some r =>
      have sent := congrArg Device.trunkTx ((trunkChoose_record idle hs).symm.trans same)
      exact absurd (sent.trans idle) (Option.some_ne_none _)
  · exact absurd idle busy

/-- Settles O57: every operation keeps the agreement of the pool with its holders. -/
theorem everyStepKeepsThePool : Obligations.EveryStepKeepsThePool :=
  fun _ _ ok h => (step_moves h).kept.pool ok

/-- Settles O56: the slots by `Moves.kept`, the response slot by the choice that ends every event. -/
theorem everyStepKeepsTheSlots : Obligations.EveryStepKeepsTheSlots := by
  intro s t h
  have moves := step_moves h
  refine ⟨fun served => ?_, moves.kept.slots⟩
  generalize t.dev = d' at moves
  cases moves with
  | stays => exact served
  | resets now node inReset => exact fun _ => rfl
  | _ => exact slotServed_trunkChoose _

end Sys2Proof.Machine

/-! A predicate of the timer, the tables, the Change Unit, the meters and the accumulators that the
few operations which write them keep is kept by every step. -/

namespace Sys2Proof.Machine

open Device (Writes)

/-- The timer, the tables, the Change Unit, the meters and the accumulators are not listed. -/
abbrev Settled (fs : List Field) : Prop :=
  .timer ∉ fs ∧ .tables ∉ fs ∧ .change ∉ fs ∧ .meters ∉ fs ∧ .accumulators ∉ fs

/-- The part at a cycle start, once the timer has gone on and the armed commit has acted (R76). -/
def startedCycle (number : Cycle) (st : TimerState) (miss : Nat) (slip : Bool) (d : Device) : Device :=
  let d1 := startTimer number st miss d
  setExpiry (actOnCommit (d1.changeAct slip) d1)

/-- The part at a local cycle start, once its events have been raised too (R80, R81). -/
def startedLocal (d : Device) : Device :=
  raiseLocalEvents (d.timer.state = .locked) d.tables.device.n
    (startedCycle (d.timer.cycle + 1) (if d.timer.state = .free then .free else .coasting)
      (min (d.timer.miss + 1) 65535) false d)

set_option Elab.async false in
theorem frameStart_eq (number : Cycle) (d : Device) :
    frameStart number d =
      handOut (raiseCommit ((startTimer number .locked 0 d).changeAct (d.timer.slips number))
        (raiseFrameEvents d.timer (d.timer.slips number)
          (startedCycle number .locked 0 (d.timer.slips number) d))) := rfl

theorem localStart_eq (d : Device) :
    localStart d = handOut (raiseCommit ((startTimer (d.timer.cycle + 1)
      (if d.timer.state = .free then .free else .coasting) (min (d.timer.miss + 1) 65535)
      d).changeAct false) (startedLocal d)) := rfl

/-- The operations that write what such a predicate is about keep it. -/
structure Keeps (P : Device → Prop) : Prop where
  frame : ∀ {fs : List Field} {d d' : Device}, d.Writes fs d' → Settled fs → P d → P d'
  reset : ∀ now node inReset choices,
    P { Device.powerOn now inReset node with choices := choices }
  colour : ∀ m n d, P d → P (colourFrame m n d)
  thin : ∀ l d, P d → P (thinLine l d)
  refill : ∀ d, P d → P (refillMeters d)
  stage : ∀ bs d, requestCheck bs = .ok .stage → P d →
    P (performStage (rd1 bs 4) (rd2 bs 5) (rd1 bs 7) (bs.drop 11) d).1
  discard : ∀ d, P d → P (performDiscard d).1
  commit : ∀ kind number d, P d → P (performCommit kind number d).1
  clear : ∀ unit index count d, P d → P (performClear unit index count d).1
  restart : ∀ d, P d → P d.cleared
  cycle : ∀ number slip d, P d → P (startedCycle number .locked 0 slip d)
  localCycle : ∀ d, P d → P (startedLocal d)

namespace Keeps

variable {P : Device → Prop} (keeps : Keeps P) {d : Device}

include keeps

/- ### The Classifier -/

theorem discardArriving (h : P d) (a : Arriving) (r : Reason) : P (discardArriving a r d) :=
  keeps.frame (discardArriving_writes ..) (by decide) h

theorem acceptFrame (h : P d) {a : Arriving} (c : Circuit) (room : d.hasRoom a) :
    P (acceptFrame a c d) :=
  keeps.frame (acceptFrame_writes d a c room) (by decide) h

theorem classify (h : P d) (a : Arriving) : P (classify a d) := by
  unfold Machine.classify
  split
  · exact keeps.discardArriving h ..
  · split
    · exact keeps.discardArriving h ..
    · rename_i passed
      have room := hasRoom_of_refusal passed
      unfold meterFrame
      split
      · exact keeps.acceptFrame h _ room
      · rename_i m _
        have coloured := keeps.colour m a.length d h
        dsimp only
        split
        · exact keeps.acceptFrame coloured _ room
        · exact keeps.acceptFrame coloured _ room
        · split
          · exact keeps.discardArriving (keeps.thin _ _ coloured) ..
          · exact keeps.acceptFrame (keeps.thin _ _ coloured) _ room
        · exact keeps.discardArriving coloured ..
        · exact keeps.acceptFrame coloured _ room

theorem handOver (h : P d) (ref : Nat) (o : Origin) : P (handOver ref o d) := by
  unfold Machine.handOver
  split
  · exact h
  · dsimp only
    split
    · exact keeps.discardArriving h ..
    · exact keeps.classify h _

/- ### Branches -/

theorem endTransaction (h : P d) (k : Branch) (r : InFlight) (o : Outcome) :
    P (endTransaction k r o d) := by
  have reported : P (reportOutcome k r.station (r.txn == .probe) o d) :=
    keeps.frame (reportOutcome_writes ..) (by decide) h
  have handed : P (handOverReceived k r (reportOutcome k r.station (r.txn == .probe) o d)) := by
    unfold handOverReceived
    split
    · exact reported
    · exact keeps.handOver reported ..
    · exact keeps.handOver reported ..
  have settled := keeps.frame (settleTransaction_writes _ k r o) (by decide) handed
  have ceased := keeps.frame (setInFlight_writes _ k none) (by decide) settled
  exact keeps.frame (nextStep_writes _ k) (by decide) ceased

theorem failAttempt (h : P d) (k : Branch) (r : InFlight) : P (failAttempt k r d) := by
  unfold Machine.failAttempt
  split
  · exact keeps.frame (startAttempt_writes ..) (by decide)
      (keeps.frame (bumpLine_writes ..) (by decide) h)
  · exact keeps.endTransaction h ..

theorem serviceReply (h : P d) (k : Branch) (r : InFlight) (f : BranchFrame) :
    P (serviceReply k r f d) := by
  unfold Machine.serviceReply
  split
  · exact keeps.frame (serviceData_writes ..) (by decide) h
  · exact keeps.endTransaction h ..

theorem exchangeReply (h : P d) (k : Branch) (r : InFlight) (f : BranchFrame) :
    P (exchangeReply k r f d) := by
  unfold Machine.exchangeReply
  split
  · exact keeps.endTransaction (keeps.frame (exchangeData_writes ..) (by decide) h) ..
  · exact keeps.endTransaction h ..

theorem deliverReply (h : P d) (k : Branch) (r : InFlight) (c : Class) (segment : Nat)
    (f : BranchFrame) : P (deliverReply k r c segment f d) := by
  unfold Machine.deliverReply
  dsimp only
  refine keeps.endTransaction ?_ ..
  split
  · exact keeps.frame (deliverAck_writes ..) (by decide) h
  · split
    · exact keeps.frame (deliverBusy_writes ..) (by decide) h
    · exact h

theorem validArrival (h : P d) (k : Branch) (f : BranchFrame) : P (validArrival k f d) := by
  unfold Machine.validArrival
  split
  · exact keeps.frame (unexpectedFrame_writes ..) (by decide) h
  · rename_i r _
    split
    · have waited := keeps.frame (resyncOnReply_writes _ k r.station) (by decide)
        (keeps.frame (setInFlight_writes d k (some { r with replyWait := none })) (by decide) h)
      unfold acceptReply
      dsimp only
      split
      · exact keeps.exchangeReply waited ..
      · exact keeps.deliverReply waited ..
      · exact keeps.serviceReply waited ..
      · exact keeps.serviceReply waited ..
    · exact keeps.failAttempt (keeps.frame (bumpBoth_writes ..) (by decide) h) ..

set_option Elab.async false in
theorem erroredArrival (h : P d) (k : Branch) : P (erroredArrival k d) := by
  unfold Machine.erroredArrival
  split
  · exact keeps.failAttempt h ..
  · exact h

theorem branchArrival (h : P d) (k : Branch) (start : Nat) (bytes : List Byte) :
    P (branchArrival k start bytes d) := by
  unfold Machine.branchArrival
  split
  · exact keeps.frame (bumpLineBy_writes ..) (by decide) h
  · split
    · exact h
    · dsimp only
      have collected := keeps.frame (collect_writes d k.line Config.branchBuffer bytes) (by decide) h
      unfold branchChecked
      split
      · exact keeps.erroredArrival (keeps.frame (headerErrorOn_writes ..) (by decide) collected) _
      · exact keeps.erroredArrival (keeps.frame (payloadErrorOn_writes ..) (by decide) collected) _
      · exact keeps.validArrival (keeps.frame (bumpLine_writes ..) (by decide) collected) ..

theorem replyTimeoutDue (h : P d) (k : Branch) : P (replyTimeoutDue k d) := by
  unfold Machine.replyTimeoutDue
  split
  · exact h
  · split
    · exact h
    · exact keeps.failAttempt (keeps.frame (now_writes ..) (by decide) h) ..

theorem branchComplete (h : P d) (k : Branch) : P (branchComplete k d) := by
  unfold Machine.branchComplete
  split
  · exact h
  · rename_i tx _
    dsimp only
    have sent : P (({ d with now := tx.ends }.setSeq k
        { d.seq k with sending := none }).bumpLine k.line .framesSent) :=
      keeps.frame (bumpLine_writes ..) (by decide) (keeps.frame (setSeq_writes ..) (by decide)
        (keeps.frame (now_writes d tx.ends) (by decide) h))
    unfold afterBranchFrame
    split
    · split
      · exact keeps.frame (startWait_writes ..) (by decide) sent
      · exact keeps.endTransaction sent ..
      · exact sent
    · split
      · split
        · exact keeps.frame (beginCycle_writes ..) (by decide) sent
        · exact keeps.frame (periodicStep_writes ..) (by decide) sent
        · exact sent
      · exact sent

theorem shaperRelease (h : P d) (l : Line) (c : Class) : P (shaperRelease l c d) := by
  unfold Machine.shaperRelease
  split
  · exact h
  · exact keeps.frame (notice_writes ..) (by decide) (keeps.frame (setRelease_writes ..) (by decide)
      (keeps.frame (now_writes ..) (by decide) h))

/- ### The trunk -/

theorem handOut (h : P d) : P (handOut d) := by
  have refilled := keeps.refill d h
  have late := keeps.frame (discardLate_writes _) (by decide) refilled
  have aged := keeps.frame (ageContexts_writes _) (by decide) late
  have counted := keeps.frame (countDownProbes_writes _) (by decide) aged
  exact keeps.frame (Writes.foldl (fun x k => branchCycleStart_writes x k _ _) _ _) (by decide) counted

theorem frameStart (h : P d) (number : Cycle) : P (frameStart number d) := by
  rw [frameStart_eq]
  exact keeps.handOut (keeps.frame (raiseCommit_writes ..) (by decide)
    (keeps.frame (raiseFrameEvents_writes ..) (by decide) (keeps.cycle _ _ d h)))

theorem localStart (h : P d) : P (localStart d) := by
  rw [localStart_eq]
  exact keeps.handOut (keeps.frame (raiseCommit_writes ..) (by decide) (keeps.localCycle d h))

theorem trunkArrival (h : P d) (bytes : List Byte) : P (trunkArrival bytes d) := by
  unfold Machine.trunkArrival
  dsimp only
  have collected := keeps.frame (collect_writes d .t Config.trunkBuffer bytes) (by decide) h
  unfold trunkChecked
  split
  · exact keeps.frame (headerErrorOn_writes ..) (by decide) collected
  · exact keeps.frame (payloadErrorOn_writes ..) (by decide) collected
  · have counted := keeps.frame (bumpLine_writes _ .t .framesReceived) (by decide) collected
    unfold timerArrival
    split
    · split
      · exact keeps.frame (bumpLine_writes ..) (by decide) counted
      · exact keeps.frameStart counted _
    · exact keeps.frameStart counted _
  · have counted := keeps.frame (bumpLine_writes _ .t .framesReceived) (by decide) collected
    unfold trunkDataFrame
    split
    · exact keeps.frame (requestArrival_writes ..) (by decide) counted
    · unfold classifyTrunk
      dsimp only
      split
      · exact keeps.discardArriving counted ..
      · exact keeps.classify counted _

theorem trunkComplete (h : P d) : P (trunkComplete d) := by
  unfold Machine.trunkComplete
  split
  · exact h
  · have counted := keeps.frame (bumpLine_writes d .t .framesSent) (by decide) h
    have idle := keeps.frame (trunkTx_writes _ none) (by decide) counted
    unfold trunkSent
    dsimp only
    split
    · exact keeps.frame (releaseFrame_writes ..) (by decide) idle
    · split
      · exact keeps.frame (restartNow_writes _) (by decide)
          (keeps.frame (restarted_writes _) (by decide) (keeps.restart _ idle))
      · exact idle

/- ### The end of an event -/

theorem performOp (h : P d) {op : Op} {bs : List Byte} (checked : requestCheck bs = .ok op) :
    P (performOp op bs d).1 := by
  cases op with
  | read => exact h
  | stage => exact keeps.stage bs d checked h
  | discard => exact keeps.discard d h
  | commit => exact keeps.commit _ _ d h
  | setLine =>
    unfold Machine.performOp performSetLine
    dsimp only
    split
    · exact h
    · split
      · exact keeps.frame (setTrunk_writes ..) (by decide) h
      · unfold setBranch
        repeat' split
        all_goals dsimp only
        · exact h
        · exact keeps.frame (shutBranch_writes ..) (by decide) h
        · exact keeps.frame (endpoint_writes (d.setAdmission _ .shutting) _ id id) (by decide)
            (keeps.frame (setAdmission_writes d _ .shutting) (by decide) h)
        · exact h
        · exact h
        · exact keeps.frame (openBranch_writes ..) (by decide) h
        · exact h
  | clear => exact keeps.clear _ _ _ d h
  | takeEvents => exact keeps.frame (performTakeEvents_writes ..) (by decide) h
  | restart => exact keeps.frame (endpoint_writes d _ id id) (by decide) h

theorem performHead (h : P d) (bs : List Byte) : P (performHead bs d) := by
  have performed : P (performRequest bs d).1 := by
    unfold performRequest
    split
    · exact h
    · rename_i checked
      exact keeps.performOp h checked
  unfold Machine.performHead
  split
  · rename_i d' hp
    rw [hp] at performed
    exact performed
  · rename_i d' r hp
    rw [hp] at performed
    exact keeps.frame (endpoint_writes d' _ id id) (by decide) performed

set_option Elab.async false in
theorem takeHead (h : P d) (queue : List (List Byte)) (hq : queue.length ≤ d.endpoint.queue.length) :
    P (takeHead queue d) := by
  induction queue generalizing d with
  | nil => exact keeps.frame (endpoint_writes d _ (fun _ => Nat.zero_le _) id) (by decide) h
  | cons bs rest ih =>
    have taken : P { d with endpoint := { d.endpoint with queue := rest } } :=
      keeps.frame (endpoint_writes d _ (fun q => (Nat.le_of_succ_le hq).trans q) id) (by decide) h
    unfold Machine.takeHead
    dsimp only
    split
    · exact keeps.performHead taken _
    · exact ih (keeps.frame (countNotMine_writes _) (by decide) taken) (Nat.le_refl _)

theorem fillSlot (h : P d) : P (fillSlot d) := by
  unfold Machine.fillSlot
  split
  · exact h
  · exact keeps.frame (endpoint_writes d _ id id) (by decide) h
  · exact h
  · exact keeps.frame (placeAttention_writes d) (by decide) h
  · split
    · exact keeps.frame (placeAttention_writes d) (by decide) h
    · exact keeps.takeHead h _ (Nat.le_refl _)

theorem settle (h : P d) : P (settle d) :=
  keeps.frame (trunkChoose_writes _) (by decide) (keeps.fillSlot
    (keeps.frame (trunkChoose_writes _) (by decide) (keeps.fillSlot h)))

/-- Every move keeps the predicate. -/
theorem moves {d' : Device} (m : d.Moves d') (h : P d) : P d' := by
  have at_ (now : Nat) : P { d with now := now } := keeps.frame (now_writes d now) (by decide) h
  cases m with
  | stays => exact h
  | resets now node inReset => exact keeps.reset ..
  | trunkArrival now bytes => exact keeps.settle (keeps.trunkArrival (at_ now) bytes)
  | lockWindow =>
    refine keeps.settle ?_
    unfold lockWindowDue
    split
    · exact keeps.localStart (at_ _)
    · exact h
  | localCycle =>
    refine keeps.settle ?_
    unfold localCycleDue
    split
    · exact keeps.localStart (at_ _)
    · exact h
  | trunkComplete now => exact keeps.settle (keeps.trunkComplete (at_ now))
  | shaperRelease l c => exact keeps.settle (keeps.shaperRelease h l c)
  | branchArrival k start now bytes =>
    exact keeps.settle (keeps.branchArrival (at_ now) k start bytes)
  | replyTimeout k => exact keeps.settle (keeps.replyTimeoutDue h k)
  | branchComplete k => exact keeps.settle (keeps.branchComplete h k)

end Keeps

end Sys2Proof.Machine

/-! What the Change Unit's operations do to the tables and the list, and the predicates of the part
that those operations keep. -/

namespace Sys2Proof.Machine

open Device (Writes)

/- ### What a STAGE adds (R159) -/

set_option Elab.async false in
/-- A record that passes the format checks as a STAGE has an entry at least, and the size that its
unit's entries ask for (R172). -/
theorem requestCheck_stage {bs : List Byte} (h : requestCheck bs = .ok .stage) :
    1 ≤ rd1 bs 7 ∧ ∀ indices size, isLoadable (rd1 bs 4) = true →
      unitShape (rd1 bs 4) = some (indices, size) → (bs.drop 11).length = rd1 bs 7 * size := by
  unfold requestCheck at h
  split at h
  · cases h
  · split at h
    · cases h
    · rename_i op _
      split at h
      · cases h
      · rename_i counted
        split at h
        · rename_i unsized
          cases h
          refine ⟨?_, fun indices size loads shape => ?_⟩
          · simp only [countOk, Bool.not_eq_true', Bool.not_eq_false, Bool.and_eq_true,
              decide_eq_true_eq] at counted
            exact counted.1
          · simp [requestSize, loads, shape] at unsized
        · rename_i n sized
          split at h
          · rename_i length
            cases h
            refine ⟨?_, fun indices size loads shape => ?_⟩
            · simp only [countOk, Bool.not_eq_true', Bool.not_eq_false, Bool.and_eq_true,
                decide_eq_true_eq] at counted
              exact counted.1
            · simp only [requestSize, loads, shape, if_true, Option.map_some,
                Option.some.injEq] at sized
              rw [List.length_drop]
              omega
          · cases h

/-- A unit that exists and is not read-only is loadable (R155, R173). -/
theorem isLoadable_of_shape {unit : Nat} {shape : Nat × Nat} (h : unitShape unit = some shape)
    (writable : isReadOnly unit = false) : isLoadable unit = true := by
  simp only [isReadOnly, Bool.and_eq_false_iff, decide_eq_false_iff_not] at writable
  by_cases high : 22 < unit
  · unfold unitShape at h
    split at h
    all_goals first | omega | cases h
  · simp only [isLoadable, Bool.and_eq_true, decide_eq_true_eq]
    refine ⟨Nat.one_le_iff_ne_zero.2 ?_, ?_⟩
    · rintro rfl
      cases h
    · by_contra above
      have : 9 ≤ unit ∧ unit ≤ 15 := by omega
      obtain ⟨low, up⟩ := this
      interval_cases unit <;> cases h

/-- What a STAGE that is taken adds to the list (R159). -/
structure Device.Staging (d : Device) (new : List Staged) : Prop where
  nonempty : new ≠ []
  apart : (new.map Staged.place).Nodup
  inRange : ∀ e ∈ new, e.inRange
  room : d.change.list.length + newEntries d.change.list new ≤ Config.maxStaged
  unarmed : d.change.state ≠ .armed

/-- The part after a STAGE that is taken (R159). -/
def Device.staged (d : Device) (new : List Staged) : Device :=
  { d with change := { d.change with
      state := .staging, list := new.foldl stageEntry d.change.list } }

/-- The entries of a STAGE that passes its checks are in range (R21, R158, R159). -/
theorem stagedEntries_inRange {unit index count indices size : Nat} {bs : List Byte}
    (loads : isLoadable unit = true) (shape : unitShape unit = some (indices, size))
    (within : index + count ≤ indices) (valid : entriesOk unit size count bs = true)
    (length : bs.length = count * size) :
    ∀ e ∈ stagedEntries unit size index count bs, e.inRange := by
  rw [stagedEntries_eq]
  rw [entriesOk_eq, List.all_eq_true] at valid
  intro e he
  obtain ⟨j, hj, rfl⟩ := List.mem_map.1 he
  have below := List.mem_range.1 hj
  refine ⟨indices, size, loads, shape, show index + j < indices by omega, ?_⟩
  dsimp only
  have fits : (j + 1) * size ≤ count * size := Nat.mul_le_mul_right size below
  rw [Nat.succ_mul] at fits
  by_cases removes : (unit = 1 ∨ unit = 3) ∧ rd1 ((bs.drop (j * size)).take size) 0 = 0
  · rw [show actionOf unit ((bs.drop (j * size)).take size) = .remove from if_pos removes]
    exact removes.1
  · have content : actionOf unit ((bs.drop (j * size)).take size) =
        .content ((bs.drop (j * size)).take size) := if_neg removes
    rw [content]
    refine ⟨?_, valid j hj, content⟩
    rw [List.length_take, List.length_drop, length]
    omega

/-- A STAGE changes nothing, or adds what passed its checks to the list (R159). -/
theorem performStage_stages {bs : List Byte} {d : Device} (h : requestCheck bs = .ok .stage) :
    (performStage (rd1 bs 4) (rd2 bs 5) (rd1 bs 7) (bs.drop 11) d).1 = d ∨
    ∃ new, d.Staging new ∧
      (performStage (rd1 bs 4) (rd2 bs 5) (rd1 bs 7) (bs.drop 11) d).1 = d.staged new := by
  obtain ⟨one, sized⟩ := requestCheck_stage h
  unfold performStage
  split
  · exact .inl rfl
  · rename_i indices size shape
    dsimp only
    split
    · exact .inl rfl
    rename_i writable
    split
    · exact .inl rfl
    rename_i within
    split
    · exact .inl rfl
    rename_i unarmed
    split
    · exact .inl rfl
    rename_i valid
    split
    · exact .inl rfl
    rename_i room
    refine .inr ⟨_, ⟨?_, stagedEntries_nodup .., ?_, Nat.le_of_not_lt room, unarmed⟩, rfl⟩
    · rw [stagedEntries_eq]
      intro empty
      have := congrArg List.length empty
      simp only [List.length_map, List.length_range, List.length_nil] at this
      omega
    · have loads := isLoadable_of_shape shape (by simpa using writable)
      exact stagedEntries_inRange loads shape (Nat.le_of_not_lt within) (by simpa using valid)
        (sized indices size loads shape)

/- ### What an application leaves (R166) -/

/-- The part with a list in force, before the effects of R167. -/
def Device.inForce (d : Device) : Device :=
  { d with tables := d.tables.withList d.change.list, change := d.change.applied }

/-- The effects of an application change neither the tables nor the list (R167). -/
theorem applyList_effects_write (d : Device) :
    Writes (applyFields.drop 2) d.inForce (applyList d) := by
  have slots : Writes (applyFields.drop 2) d.inForce _ :=
    (Writes.foldl (fun x e => applyToSlot_writes x e d.tables.circuits) d.change.list _).mono
  have stations := (slots.andThen (.foldl (fun d e => applyToMeter_writes d e) d.change.list _)).andThen
    (.foldl (fun x e => applyToStation_writes x e d.tables.stations) d.change.list _)
  exact stations.andThen (.foldl (fun d e => applyToCredits_writes d e) d.change.list _)

/-- The validation passes when the resulting tables have passed their checks (R163 to R165). -/
theorem conflict_none {d : Device} (h : d.conflict = none) :
    (d.tables.withList d.change.list).checked ∧
      (d.tables.withList d.change.list).device.crossOk = true := by
  unfold Device.conflict at h
  dsimp only at h
  split at h
  iterate 4 cases h
  rename_i shapes references _ _
  refine ⟨⟨?_, ?_⟩, ?_⟩
  · intro c hc
    unfold Tables.badCircuit at shapes
    simpa using List.find?_eq_none.1 (Option.map_eq_none_iff.1 shapes) c hc
  · intro c hc
    unfold Tables.badReference at references
    simpa using List.find?_eq_none.1 (Option.map_eq_none_iff.1 references) c hc
  · split at h
    · assumption
    · cases h

end Sys2Proof.Machine

/-! Predicates of the tables, the Change Unit, the meters and the accumulators: what keeps them when
the timer goes on, and what keeps them when they are about the tables and the list alone. -/

namespace Sys2Proof.Machine

open Device (Writes)

/-- The tables, the Change Unit, the meters and the accumulators are not listed. -/
abbrev SettledButTimer (fs : List Field) : Prop :=
  .tables ∉ fs ∧ .change ∉ fs ∧ .meters ∉ fs ∧ .accumulators ∉ fs

set_option Elab.async false in
theorem choices_writes (d : Device) (n : Nat) : Writes [.choices] d { d with choices := n } :=
  ⟨fun f hf => by cases f <;> first | rfl | simp at hf, ⟨id, id, id, id, id⟩⟩

/-- The operations that write the tables, the Change Unit, the meters and the accumulators keep a
predicate that is not about the timer. -/
structure Untimed (P : Device → Prop) : Prop where
  frame : ∀ {fs : List Field} {d d' : Device}, d.Writes fs d' → SettledButTimer fs → P d → P d'
  reset : ∀ now node inReset choices,
    P { Device.powerOn now inReset node with choices := choices }
  colour : ∀ m n d, P d → P (colourFrame m n d)
  thin : ∀ l d, P d → P (thinLine l d)
  refill : ∀ d m, P d → P (refillMeter d m)
  clear : ∀ d m, P d → P (clearMeter d m)
  stage : ∀ d new, d.Staging new → P d → P (d.staged new)
  discard : ∀ d, P d → P (performDiscard d).1
  arm : ∀ target d, d.change.state ≠ .empty → d.conflict = none → P d → P (armList target d).1
  abandon : ∀ d, d.change.state = .armed → P d → P { d with change := d.change.abandoned }
  apply : ∀ d, d.change.state = .armed ∨ d.conflict = none → P d → P (applyList d)
  restart : ∀ d, P d → P d.cleared

namespace Untimed

variable {P : Device → Prop} (keeps : Untimed P) {d : Device}

include keeps

theorem performStage (h : P d) {bs : List Byte} (checked : requestCheck bs = .ok .stage) :
    P (performStage (rd1 bs 4) (rd2 bs 5) (rd1 bs 7) (bs.drop 11) d).1 := by
  rcases performStage_stages (d := d) checked with same | ⟨new, staging, staged⟩
  · rw [same]
    exact h
  · rw [staged]
    exact keeps.stage d new staging h

theorem performCommit (h : P d) (kind : Nat) (number : Cycle) :
    P (performCommit kind number d).1 := by
  unfold Machine.performCommit
  dsimp only
  split
  · exact h
  rename_i listed
  iterate 5
    split
    · exact h
  split
  · exact h
  · rename_i passed
    split
    · exact keeps.frame (raiseEvent_writes ..) (by decide) (keeps.apply d (.inr passed) h)
    · exact keeps.arm _ d listed passed h

theorem performClear (h : P d) (unit index count : Nat) : P (performClear unit index count d).1 := by
  have entry (d : Device) (i : Nat) (h : P d) : P (clearEntry unit d i) := by
    unfold clearEntry
    split
    · exact keeps.frame (stations_writes d _) (by decide) h
    · exact keeps.frame (setLineIf_writes d _ _) (by decide) h
    · exact keeps.frame (setLineIf_writes d _ _) (by decide) h
    · exact keeps.frame (circuitCounters_writes d _) (by decide) h
    · exact keeps.clear d i h
    · exact keeps.frame (endpoint_writes d _ id id) (by decide) h
    · exact h
  unfold Machine.performClear
  split
  · exact h
  · split
    · exact h
    · split
      · exact h
      · exact List.foldlRecOn (motive := P) (List.range' index count) _ h fun d h i _ => entry d i h

theorem changeAct_acts (h : P d) (slip : Bool) : P (actOnCommit (d.changeAct slip) d) := by
  unfold Device.changeAct
  split
  · rename_i target armed _
    split
    · exact keeps.abandon d armed h
    · split
      · unfold actOnCommit applyAtStart
        dsimp only
        split
        · have chosen : P { d with choices := d.choices + 1 } :=
            keeps.frame (choices_writes d _) (by decide) h
          split
          · have late := discardLate_writes { d with choices := d.choices + 1 }
            exact keeps.apply _ (.inl ((congrArg Change.state late.change).trans armed))
              (keeps.frame late (by decide) chosen)
          · exact keeps.apply _ (.inl armed) chosen
        · exact keeps.apply d (.inl armed) h
      · exact h
  · exact h

theorem startedCycle (h : P d) (number : Cycle) (st : TimerState) (miss : Nat) (slip : Bool) :
    P (startedCycle number st miss slip d) :=
  keeps.frame (setExpiry_writes _) (by decide)
    (keeps.changeAct_acts (keeps.frame (startTimer_writes d number st miss) (by decide) h) slip)

/-- What keeps such a predicate while the timer goes on is kept by every operation. -/
theorem all : Keeps P where
  frame w settled h := keeps.frame w settled.2 h
  reset := keeps.reset
  colour := keeps.colour
  thin := keeps.thin
  refill d h := List.foldlRecOn (motive := P) (List.range 64) _ h fun d h m _ => keeps.refill d m h
  stage _ _ checked h := keeps.performStage h checked
  discard := keeps.discard
  commit kind number _ h := keeps.performCommit h kind number
  clear unit index count _ h := keeps.performClear h unit index count
  restart := keeps.restart
  cycle number slip _ h := keeps.startedCycle h number .locked 0 slip
  localCycle d h := keeps.frame (raiseLocalEvents_writes ..) (by decide)
    (keeps.startedCycle h (d.timer.cycle + 1) _ _ false)

end Untimed

/- ### Predicates of the tables and the list -/

/-- The operations of the Change Unit keep a predicate of the tables and the list. -/
structure Listed (Q : Tables → Change → Prop) : Prop where
  reset : ∀ node, Q (Tables.powerOn node) Change.powerOn
  stage : ∀ (d : Device) new, d.Staging new → Q d.tables d.change → Q d.tables (d.staged new).change
  empty : ∀ t c, Q t c → Q t c.restarted
  arm : ∀ (d : Device) target, d.change.state ≠ .empty → d.conflict = none → Q d.tables d.change →
    Q d.tables { d.change with state := .armed, target := some target }
  abandon : ∀ t c, c.state = .armed → Q t c → Q t c.abandoned
  apply : ∀ d : Device, d.change.state = .armed ∨ d.conflict = none → Q d.tables d.change →
    Q (d.tables.withList d.change.list) d.change.applied

/-- A predicate of the tables and the list is kept when the Change Unit keeps it. -/
theorem Listed.untimed {Q : Tables → Change → Prop} (keeps : Listed Q) :
    Untimed fun d => Q d.tables d.change where
  frame w settled h := by
    obtain ⟨tables, change, -, -⟩ := settled
    rw [w.tables tables, w.change change]
    exact h
  reset _ node _ _ := keeps.reset node
  colour _ _ _ h := h
  thin _ _ h := h
  refill _ _ h := h
  clear _ _ h := h
  stage d new staging h := keeps.stage d new staging h
  discard d h := keeps.empty _ _ h
  arm target d listed passed h := keeps.arm d target listed passed h
  abandon d armed h := keeps.abandon _ _ armed h
  apply d ready h := by
    have effects := applyList_effects_write d
    rw [effects.tables, effects.change]
    exact keeps.apply d ready h
  restart d h := keeps.empty _ _ h

/-- A predicate of the tables alone is kept when every staged entry that is put in force keeps
it. -/
theorem Listed.ofTables {Q : Tables → Prop} (reset : ∀ node, Q (Tables.powerOn node))
    (entry : ∀ t e, Q t → Q (t.withEntry e)) : Listed fun t _ => Q t where
  reset := reset
  stage _ _ _ h := h
  empty _ _ h := h
  arm _ _ _ _ h := h
  abandon _ _ _ h := h
  apply d _ h := List.foldlRecOn (motive := Q) d.change.list _ h fun t h e _ => entry t e h

end Sys2Proof.Machine

/-! The predicates of the timer, the tables, the Change Unit, the meters and the accumulators that
every step keeps. -/

namespace Sys2Proof.Machine

open Device (Writes)

/- ### The timer (R75) -/

set_option Elab.async false in
theorem actOnCommit_timer (act : ChangeAct) (d : Device) : (actOnCommit act d).timer = d.timer :=
  (actOnCommit_writes d act).timer

/-- The timer after a cycle start is the one gone on, with the expiry of its state (R74, R76). -/
theorem startedCycle_timer (number : Cycle) (st : TimerState) (miss : Nat) (slip : Bool)
    (d : Device) : ∃ e, (startedCycle number st miss slip d).timer =
      { d.timer with state := st, cycle := number, miss := miss, lastStart := some d.now,
                     expiry := some e } ∧
      if st = .locked then ∃ early due, e = .lockWindow early due else ∃ due, e = .localCycle due := by
  unfold startedCycle setExpiry
  dsimp only
  refine ⟨_, by rw [actOnCommit_timer]; rfl, ?_⟩
  unfold Device.newExpiry
  dsimp only
  rw [actOnCommit_timer]
  cases st with
  | locked => exact ⟨_, _, rfl⟩
  | unlocked => exact ⟨_, rfl⟩
  | coasting => exact ⟨_, rfl⟩
  | free => exact ⟨_, rfl⟩

/-- The events of a local start leave the timer, or take a COASTING one to FREE (R80, R81). -/
theorem raiseLocalEvents_timer (fromLocked : Bool) (before : Nat) (d : Device) :
    (raiseLocalEvents fromLocked before d).timer = d.timer ∨
    d.timer.state = .coasting ∧
      (raiseLocalEvents fromLocked before d).timer = { d.timer with state := .free } := by
  have coasts : (if fromLocked = true then raiseEvent .cycleCoasting (some .t) none 0 d else d).timer
      = d.timer := by
    split
    · exact (raiseEvent_writes ..).timer
    · rfl
  unfold raiseLocalEvents
  dsimp only
  generalize (if fromLocked = true then raiseEvent .cycleCoasting (some .t) none 0 d else d) = x
    at coasts ⊢
  split
  · rename_i free
    refine .inr ⟨?_, ?_⟩
    · unfold Device.becomesFree at free
      rw [Bool.and_eq_true, beq_iff_eq, coasts] at free
      exact free.1
    · unfold goFree
      rw [(raiseEvent_writes ..).timer, ← coasts]
  · exact .inl coasts

theorem startedLocal_consistent (d : Device) : (startedLocal d).timer.consistent := by
  unfold startedLocal
  obtain ⟨e, timer, kind⟩ := startedCycle_timer (d.timer.cycle + 1)
    (if d.timer.state = .free then .free else .coasting) (min (d.timer.miss + 1) 65535) false d
  have some : 1 ≤ min (d.timer.miss + 1) 65535 ∧ min (d.timer.miss + 1) 65535 ≤ 65535 := by omega
  generalize min (d.timer.miss + 1) 65535 = miss at timer some ⊢
  by_cases free : d.timer.state = .free
  · rw [if_pos free] at timer kind ⊢
    obtain ⟨due, rfl⟩ := kind
    rcases raiseLocalEvents_timer (d.timer.state = .locked) d.tables.device.n
      (startedCycle (d.timer.cycle + 1) .free miss false d) with same | ⟨coasts, _⟩
    · rw [same, timer]
      exact some
    · rw [timer] at coasts
      cases coasts
  · rw [if_neg free] at timer kind ⊢
    obtain ⟨due, rfl⟩ := kind
    rcases raiseLocalEvents_timer (d.timer.state = .locked) d.tables.device.n
      (startedCycle (d.timer.cycle + 1) .coasting miss false d) with same | ⟨_, freed⟩
    · rw [same, timer]
      exact some
    · rw [freed, timer]
      exact some

theorem keeps_timer : Keeps fun d => d.timer.consistent where
  frame w settled h := by
    rw [w.timer settled.1]
    exact h
  reset _ _ _ _ := rfl
  colour _ _ _ h := h
  thin _ _ h := h
  refill d h := by
    rw [(refillMeters_writes d).timer]
    exact h
  stage bs d _ h := by
    rw [(performStage_writes ..).timer]
    exact h
  discard _ h := h
  commit kind number d h := by
    rw [(performCommit_writes d kind number).timer]
    exact h
  clear unit index count d h := by
    rw [(performClear_writes d unit index count).timer]
    exact h
  restart _ _ := rfl
  cycle number slip d _ := by
    obtain ⟨e, timer, kind⟩ := startedCycle_timer number .locked 0 slip d
    obtain ⟨early, due, rfl⟩ := kind
    rw [timer]
    rfl
  localCycle d _ := startedLocal_consistent d

/- ### The list (R158, R159) -/

/-- What STAGE makes of a list holds nothing but entries of the list and staged ones (R159). -/
theorem mem_foldl_stageEntry {new list : List Staged} {e : Staged}
    (h : e ∈ new.foldl stageEntry list) : e ∈ list ∨ e ∈ new := by
  induction new generalizing list with
  | nil => exact .inl h
  | cons x xs ih =>
    rcases ih h with staged | later
    · unfold stageEntry at staged
      split at staged
      · obtain ⟨y, hy, rfl⟩ := List.mem_map.1 staged
        split
        · exact .inr List.mem_cons_self
        · exact .inl hy
      · rcases List.mem_append.1 staged with old | one
        · exact .inl old
        · exact .inr (List.mem_singleton.1 one ▸ List.mem_cons_self)
    · exact .inr (List.mem_cons_of_mem x later)

/-- The places of the list are kept in their order, and the new ones join the end (R159). -/
theorem foldl_stageEntry_places {new list : List Staged} (h : (new.map Staged.place).Nodup) :
    (new.foldl stageEntry list).map Staged.place = list.map Staged.place ++
      (new.filter fun e => !(list.any fun x => x.unit == e.unit && x.index == e.index)).map
        Staged.place := by
  rw [foldl_stageEntry new list h, List.map_append, List.map_map]
  refine congrArg (· ++ _) (List.map_congr_left fun x _ => ?_)
  simp only [Function.comp_apply]
  rcases found : new.find? (fun e => e.unit == x.unit && e.index == x.index) with _ | e
  · rw [found]
    rfl
  · have same := List.find?_some found
    rw [Staged.place_beq, decide_eq_true_eq] at same
    rw [found]
    exact same

theorem foldl_stageEntry_nodup {new list : List Staged} (h : (new.map Staged.place).Nodup)
    (hl : (list.map Staged.place).Nodup) :
    ((new.foldl stageEntry list).map Staged.place).Nodup := by
  rw [foldl_stageEntry_places h]
  refine List.nodup_append'.2 ⟨hl, ?_, ?_⟩
  · exact h.sublist (List.filter_sublist.map _)
  · intro place old new
    obtain ⟨x, hx, rfl⟩ := List.mem_map.1 old
    obtain ⟨e, he, same⟩ := List.mem_map.1 new
    have fresh := (List.mem_filter.1 he).2
    simp only [Staged.place_beq, Bool.not_eq_true', List.any_eq_false, decide_eq_true_eq] at fresh
    exact fresh x hx same.symm

theorem foldl_stageEntry_length {new list : List Staged} (h : (new.map Staged.place).Nodup) :
    (new.foldl stageEntry list).length = list.length + newEntries list new := by
  have := congrArg List.length (foldl_stageEntry_places (list := list) h)
  simpa [newEntries] using this

theorem foldl_stageEntry_ne_nil {new list : List Staged} (h : (new.map Staged.place).Nodup)
    (nonempty : new ≠ []) : new.foldl stageEntry list ≠ [] := by
  intro empty
  have length := foldl_stageEntry_length (list := list) h
  rw [empty, List.length_nil] at length
  have none : list = [] := List.length_eq_zero_iff.1 (by omega)
  rw [none] at length
  have all : newEntries [] new = new.length := by simp [newEntries]
  rw [all] at length
  exact nonempty (List.length_eq_zero_iff.1 (by simpa using length.symm))

theorem listed_consistent : Listed fun _ c => c.consistent where
  reset _ := ⟨by decide, by decide, List.nodup_nil, fun _ h => nomatch h⟩
  stage d new staging h := by
    obtain ⟨-, target, apart, inRange⟩ := h
    refine ⟨⟨(fun e => nomatch e), fun e => absurd e ?_⟩, ⟨(fun e => nomatch e), fun held => ?_⟩, ?_, ?_⟩
    · exact foldl_stageEntry_ne_nil staging.apart staging.nonempty
    · exact absurd (target.2 held) staging.unarmed
    · exact foldl_stageEntry_nodup staging.apart apart
    · intro e he
      exact (mem_foldl_stageEntry he).elim (inRange e) (staging.inRange e)
  empty t c _ := ⟨⟨fun _ => rfl, fun _ => rfl⟩, by simp [Change.restarted], List.nodup_nil,
    fun _ h => nomatch h⟩
  arm d target listed _ h := by
    obtain ⟨empty, -, apart, inRange⟩ := h
    exact ⟨⟨(fun e => nomatch e), fun e => absurd (empty.2 e) listed⟩, by simp, apart, inRange⟩
  abandon t c armed h := by
    obtain ⟨empty, -, apart, inRange⟩ := h
    refine ⟨⟨(fun e => nomatch e), fun e => ?_⟩, by simp [Change.abandoned], apart, inRange⟩
    rw [armed] at empty
    exact nomatch empty.2 e
  apply _ _ _ := ⟨⟨fun _ => rfl, fun _ => rfl⟩, by simp [Change.applied], List.nodup_nil,
    fun _ h => nomatch h⟩

theorem listed_bounded : Listed fun _ c => c.list.length ≤ Config.maxStaged where
  reset _ := by decide
  stage d new staging _ := by
    unfold Device.staged
    dsimp only
    rw [foldl_stageEntry_length staging.apart]
    exact staging.room
  empty _ _ _ := Nat.zero_le _
  arm _ _ _ _ h := h
  abandon _ _ _ h := h
  apply _ _ _ := Nat.zero_le _

end Sys2Proof.Machine

/-! The predicates of the tables in force, the meters and the accumulators that every step keeps. -/

namespace Sys2Proof.Machine

open Device (Writes)

/- ### The tables in force -/

set_option Elab.async false in
/-- An entry put in force keeps the sizes of the Priority Maps and the Thinning Table (R30, R51). -/
theorem withEntry_sized {t : Tables} (e : Staged) (h : t.sized) : (t.withEntry e).sized := by
  obtain ⟨priorities, thinning⟩ := h
  unfold Tables.withEntry
  split <;> simp [Tables.sized, priorities, thinning]

/-- An entry put in force keeps the tables listed by index in order (R22, R109). -/
theorem withEntry_ordered {t : Tables} (e : Staged) (h : t.ordered) : (t.withEntry e).ordered := by
  obtain ⟨circuits, meters, schedule, stations⟩ := h
  unfold Tables.withEntry
  split
  · exact ⟨Table.sorted_erase circuits _, meters, schedule, stations⟩
  · exact ⟨circuits, meters, Table.sorted_erase schedule _, stations⟩
  · exact ⟨circuits, meters, schedule, stations⟩
  · exact ⟨Table.sorted_insert circuits _ _, meters, schedule, stations⟩
  · exact ⟨circuits, Table.sorted_put meters _ _ _, schedule, stations⟩
  · exact ⟨circuits, meters, Table.sorted_insert schedule _ _, stations⟩
  · exact ⟨circuits, meters, schedule, Table.sorted_put stations _ _ _⟩
  all_goals exact ⟨circuits, meters, schedule, stations⟩

theorem listed_sized : Listed fun t _ => t.sized :=
  .ofTables (fun _ => ⟨rfl, rfl⟩) fun _ e => withEntry_sized e

theorem listed_ordered : Listed fun t _ => t.ordered :=
  .ofTables (fun _ => ⟨Table.sorted_empty, Table.sorted_empty, Table.sorted_empty,
    Table.sorted_empty⟩) fun _ e => withEntry_ordered e

/-- What the validation checks of the resulting tables holds of the tables in force and of those an
armed list leaves, from the arming to the application (R162, R166). -/
theorem Listed.ofChecks {R : Tables → Prop} (reset : ∀ node, R (Tables.powerOn node))
    (passed : ∀ d : Device, d.conflict = none → R (d.tables.withList d.change.list)) :
    Listed fun t c => R t ∧ (c.state = .armed → R (t.withList c.list)) where
  reset node := ⟨reset node, fun h => nomatch h⟩
  stage _ _ _ h := ⟨h.1, fun h => nomatch h⟩
  empty _ _ h := ⟨h.1, fun h => nomatch h⟩
  arm d _ _ pass h := ⟨h.1, fun _ => passed d pass⟩
  abandon _ _ _ h := ⟨h.1, fun h => nomatch h⟩
  apply d ready h := ⟨ready.elim h.2 (passed d), fun h => nomatch h⟩

theorem listed_settingsOk : Listed fun t c => t.device.crossOk = true ∧
    (c.state = .armed → (t.withList c.list).device.crossOk = true) :=
  .ofChecks (R := fun t => t.device.crossOk = true)
    (fun _ => by simp [Tables.powerOn, DeviceSettings.powerOn, DeviceSettings.crossOk])
    fun _ h => (conflict_none h).2

theorem listed_checked : Listed fun t c => t.checked ∧
    (c.state = .armed → (t.withList c.list).checked) :=
  .ofChecks (R := Tables.checked) (fun _ => ⟨(fun _ h => nomatch h), fun _ h => nomatch h⟩)
    fun _ h => (conflict_none h).1

/-- Settles O55: each part is kept by the operations that write what it is about. -/
theorem everyStepKeepsTimerAndChange : Obligations.EveryStepKeepsTimerAndChange := by
  intro s t h
  have moves := step_moves h
  exact ⟨keeps_timer.moves moves, listed_consistent.untimed.all.moves moves,
    listed_settingsOk.untimed.all.moves moves, listed_sized.untimed.all.moves moves,
    listed_ordered.untimed.all.moves moves, listed_checked.untimed.all.moves moves⟩

/- ### The meters (R46) -/

/-- A meter in METER mode holds at most CBS and EBS in its buckets (R46). -/
def MeterState.within (x : MeterState) (s : MeterSettings) : Prop :=
  s.mode = .meter → x.committed ≤ s.cbs ∧ x.excess ≤ s.ebs

theorem MeterState.within_afterColour {x : MeterState} {s : MeterSettings} (h : x.within s)
    (length : Nat) (c : Colour) : (x.afterColour s.mode length c).within s := by
  intro mode
  obtain ⟨committed, excess⟩ := h mode
  cases c with
  | green =>
    simp only [MeterState.afterColour, mode, if_true]
    exact ⟨(Nat.sub_le _ _).trans committed, excess⟩
  | yellow => exact ⟨committed, (Nat.sub_le _ _).trans excess⟩
  | red => exact ⟨committed, excess⟩

theorem MeterState.within_refilled {x : MeterState} {s : MeterSettings} (h : x.within s) :
    (x.refilled s).within s := by
  intro mode
  obtain ⟨committed, excess⟩ := h mode
  unfold MeterState.refilled
  rw [mode]
  dsimp only
  split
  · exact ⟨by assumption, excess⟩
  · exact ⟨Nat.le_refl _, Nat.min_le_right _ _⟩

/-- A write of one meter that leaves it within its sizes leaves every meter so. -/
theorem setMeterState_metersOk {d : Device} (h : d.metersOk) {m : Nat} {x : MeterState}
    (hx : x.within (d.meterSettings m)) : (d.setMeterState m x).metersOk := by
  intro n mode
  rw [meterState_setMeterState]
  split
  · rename_i same
    subst same
    exact hx mode
  · exact h n mode

/-- An application fills each meter that it lists (R50). -/
theorem foldl_applyToMeter (list : List Staged) (d : Device) (m : Nat) :
    (list.foldl applyToMeter d).meterState m =
      if list.any (fun e => e.unit == 2 && e.index == m) then
        { d.meterState m with
          committed := (d.meterSettings m).cbs, excess := (d.meterSettings m).ebs }
      else d.meterState m := by
  induction list generalizing d with
  | nil => rfl
  | cons e es ih =>
    rw [List.foldl_cons, ih, List.any_cons]
    have settings : (applyToMeter d e).meterSettings m = d.meterSettings m :=
      congrArg (fun t : Tables => t.meters.get MeterSettings.powerOn m)
        (applyToMeter_writes d e).tables
    have one : (applyToMeter d e).meterState m =
        if e.unit = 2 ∧ e.index = m then { d.meterState m with
          committed := (d.meterSettings m).cbs, excess := (d.meterSettings m).ebs }
        else d.meterState m := by
      unfold applyToMeter
      split
      · rename_i unit
        unfold fillMeter
        rw [meterState_setMeterState]
        by_cases index : m = e.index
        · subst index
          rw [if_pos rfl, if_pos ⟨unit, rfl⟩]
        · rw [if_neg index, if_neg fun h => index h.2.symm]
      · rename_i unit
        rw [if_neg fun h => unit h.1]
    rw [settings, one]
    by_cases listed : e.unit = 2 ∧ e.index = m
    · simp [listed]
    · have : (e.unit == 2 && e.index == m) = false := by simpa using listed
      rw [if_neg listed, this, Bool.false_or]

set_option Elab.async false in
/-- The settings of a meter that no entry is for are as they were (R166). -/
theorem withList_meterSettings {list : List Staged} {m : Nat}
    (h : list.any (fun e => e.unit == 2 && e.index == m) = false) (t : Tables) :
    (t.withList list).meters.get MeterSettings.powerOn m = t.meters.get MeterSettings.powerOn m := by
  unfold Tables.withList
  induction list generalizing t with
  | nil => rfl
  | cons e es ih =>
    rw [List.any_cons, Bool.or_eq_false_iff] at h
    rw [List.foldl_cons, ih h.2]
    unfold Tables.withEntry
    split
    case h_5 bs action unit =>
      rw [Table.get_put, if_neg]
      rintro rfl
      simp [unit] at h
    all_goals rfl

/-- An application leaves every meter within its sizes: those it lists are full, the others have
their settings still (R50, R166). -/
theorem applyList_metersOk {d : Device} (h : d.metersOk) : (applyList d).metersOk := by
  obtain ⟨slots, slots_eq⟩ : ∃ x, x = d.change.list.foldl (applyToSlot d.tables.circuits) d.inForce :=
    ⟨_, rfl⟩
  have before : Writes [.lines, .circuitCounters, .pool, .slots] d.inForce slots :=
    slots_eq ▸ .foldl (fun x e => applyToSlot_writes x e d.tables.circuits) d.change.list _
  have after : Writes [.egress, .stations, .seqs, .contexts, .pool, .lines]
      (d.change.list.foldl applyToMeter slots) (applyList d) := by
    have stations := Writes.foldl (fun x e => applyToStation_writes x e d.tables.stations)
      d.change.list (d.change.list.foldl applyToMeter slots)
    have credits := Writes.foldl (fun d e => applyToCredits_writes d e) d.change.list
      (d.change.list.foldl (applyToStation d.tables.stations)
        (d.change.list.foldl applyToMeter slots))
    have both := stations.mono.andThen (fs := [.egress, .stations, .seqs, .contexts, .pool, .lines])
      credits
    rw [slots_eq] at both ⊢
    exact both
  intro m mode
  have settings : (applyList d).meterSettings m =
      (d.tables.withList d.change.list).meters.get MeterSettings.powerOn m :=
    congrArg (fun t : Tables => t.meters.get MeterSettings.powerOn m)
      (applyList_effects_write d).tables
  have kept : slots.meterSettings m =
      (d.tables.withList d.change.list).meters.get MeterSettings.powerOn m :=
    congrArg (fun t : Tables => t.meters.get MeterSettings.powerOn m) before.tables
  have state : (applyList d).meterState m = (d.change.list.foldl applyToMeter slots).meterState m :=
    congrArg (fun t : Table MeterState => t.get MeterState.powerOn m) after.meters
  have start : slots.meterState m = d.meterState m :=
    congrArg (fun t : Table MeterState => t.get MeterState.powerOn m) before.meters
  rw [state, foldl_applyToMeter, start]
  rw [settings] at mode ⊢
  split
  · rw [kept]
    exact ⟨Nat.le_refl _, Nat.le_refl _⟩
  · rename_i unlisted
    rw [withList_meterSettings (by simpa using unlisted)] at mode ⊢
    exact h m mode

theorem untimed_meters : Untimed Device.metersOk where
  frame w settled h := by
    obtain ⟨tables, -, meters, -⟩ := settled
    intro m
    unfold Device.meterSettings Device.meterState
    rw [w.tables tables, w.meters meters]
    exact h m
  reset _ _ _ _ := fun _ mode => nomatch mode
  colour m n d h := setMeterState_metersOk h (MeterState.within_afterColour (h m) _ _)
  thin _ _ h := h
  refill d m h := setMeterState_metersOk h (MeterState.within_refilled (h m))
  clear d m h := setMeterState_metersOk h (h m)
  stage _ _ _ h := h
  discard _ h := h
  arm _ _ _ _ h := h
  abandon _ _ h := h
  apply _ _ h := applyList_metersOk h
  restart _ h := h

/- ### The accumulators (R51, R52) -/

theorem withEntry_weights {t : Tables} {e : Staged} (h : ∀ w ∈ t.thinning, w ≤ 1024)
    (he : e.weightOk) : ∀ w ∈ (t.withEntry e).thinning, w ≤ 1024 := by
  unfold Tables.withEntry
  split
  case h_10 bs action unit =>
    intro w hw
    rcases List.mem_or_eq_of_mem_set hw with old | new
    · exact h w old
    · simpa [Staged.weightOk, action, unit, new] using he
  all_goals exact h

/-- An entry in range would put a weight of at most 1024 in force (R51, R159). -/
theorem Staged.inRange.weightOk {e : Staged} (h : e.inRange) : e.weightOk := by
  obtain ⟨_, _, -, -, -, content⟩ := h
  unfold Staged.weightOk
  split
  · rename_i bs unit action
    rw [action] at content
    simpa [unit, entryOk] using content.2.1
  · trivial

/-- The weights of the Thinning Table and of the staged entries lie in 0..1024 (R51). -/
def weightsOk (t : Tables) (c : Change) : Prop :=
  (∀ w ∈ t.thinning, w ≤ 1024) ∧ ∀ e ∈ c.list, e.weightOk

theorem listed_weightsOk : Listed weightsOk where
  reset _ := ⟨by simp [Tables.powerOn], fun _ h => nomatch h⟩
  stage d new staging h := ⟨h.1, fun e he =>
    (mem_foldl_stageEntry he).elim (h.2 e) fun staged => (staging.inRange e staged).weightOk⟩
  empty _ _ h := ⟨h.1, fun _ h => nomatch h⟩
  arm _ _ _ _ h := h
  abandon _ _ _ h := h
  apply d _ h := ⟨List.foldlRecOn (motive := fun t : Tables => ∀ w ∈ t.thinning, w ≤ 1024)
    d.change.list _ h.1 fun _ ht e he => withEntry_weights ht (h.2 e he), fun _ h => nomatch h⟩

/-- A thinning decision keeps the accumulator below 1024 (R51 to R53). -/
theorem thinLine_below {d : Device} (l : Line) (h : ∀ m, d.accumulators.get m ≤ 1023)
    (weights : ∀ w ∈ d.tables.thinning, w ≤ 1024) (m : Line) :
    (thinLine l d).accumulators.get m ≤ 1023 := by
  have weight : d.tables.thinning.getD (min 15 (d.pool.usage.get l / 32)) 0 ≤ 1024 := by
    rw [List.getD_eq_getElem?_getD]
    rcases found : d.tables.thinning[min 15 (d.pool.usage.get l / 32)]? with _ | w
    · exact Nat.zero_le _
    · exact weights w (List.mem_of_getElem? found)
  have old := h l
  unfold thinLine
  dsimp only
  by_cases same : m = l
  · subst same
    rw [PerLine.get_set_self]
    unfold Device.thinningSum
    split <;> omega
  · rw [PerLine.get_set_of_ne _ _ same]
    exact h m

theorem untimed_accumulators : Untimed Device.accumulatorsOk where
  frame w settled h := by
    obtain ⟨tables, change, -, accumulators⟩ := settled
    unfold Device.accumulatorsOk
    rw [w.tables tables, w.change change, w.accumulators accumulators]
    exact h
  reset _ node _ _ := ⟨fun l => (PerLine.get_all 0 l).le.trans (by decide),
    listed_weightsOk.reset node⟩
  colour _ _ _ h := h
  thin l _ h := ⟨thinLine_below l h.1 h.2.1, h.2⟩
  refill _ _ h := h
  clear _ _ h := h
  stage d new staging h := ⟨h.1, listed_weightsOk.stage d new staging h.2⟩
  discard _ h := ⟨h.1, listed_weightsOk.empty _ _ h.2⟩
  arm target d listed passed h := ⟨h.1, listed_weightsOk.arm d target listed passed h.2⟩
  abandon _ armed h := ⟨h.1, listed_weightsOk.abandon _ _ armed h.2⟩
  apply d ready h := by
    have effects := applyList_effects_write d
    unfold Device.accumulatorsOk
    rw [effects.tables, effects.change, effects.accumulators]
    exact ⟨h.1, listed_weightsOk.apply d ready h.2⟩
  restart _ h := ⟨fun l => (PerLine.get_all 0 l).le.trans (by decide),
    listed_weightsOk.empty _ _ h.2⟩

/-- Settles O58: each part is kept by the operations that write what it is about. -/
theorem everyStepKeepsMetersAndAccumulators : Obligations.EveryStepKeepsMetersAndAccumulators := by
  intro s t h
  exact ⟨untimed_meters.all.moves (step_moves h), untimed_accumulators.all.moves (step_moves h)⟩

end Sys2Proof.Machine

/-! The agreement of a branch's admission, sequencer and transaction: what an operation may do to the
branches it is not about, and the starts of transactions. -/

namespace Sys2Proof.Machine

open Device (Writes)

/- ### The agreement of one branch -/

/-- What O54 asks of the sequencer of a branch (R106, R128, R137). -/
def Sequencer.txnOk (q : Sequencer) : Prop :=
  (q.state = .waiting ∨ q.state = .done → q.inFlight = none) ∧
  ∀ r, q.inFlight = some r →
    (r.received ≠ none → r.replyWait = none ∧ q.sending.map BranchSending.role = some .answer) ∧
    (r.replyWait ≠ none → q.sending = none)

/-- What O54 asks of the admission state of a branch and its transaction (R17, R112). -/
def Device.branchOk (d : Device) (k : Branch) : Prop :=
  (d.admission k = .shut → (d.seq k).inFlight = none) ∧
  (d.admission k = .shutting → (d.seq k).inFlight.isSome)

section Core

variable {q q' : Sequencer}

set_option Elab.async false in
theorem Sequencer.state_of_core (h : q'.core = q.core) : q'.state = q.state :=
  congrArg Prod.fst h

theorem Sequencer.inFlight_of_core (h : q'.core = q.core) : q'.inFlight = q.inFlight :=
  congrArg (fun x => x.2.1) h

theorem Sequencer.sending_of_core (h : q'.core = q.core) : q'.sending = q.sending :=
  congrArg (fun x => x.2.2) h

theorem Sequencer.txnOk_of_core (h : q'.core = q.core) (ok : q.txnOk) : q'.txnOk := by
  unfold Sequencer.txnOk
  rw [state_of_core h, inFlight_of_core h, sending_of_core h]
  exact ok

/-- A sequencer with no transaction in flight agrees with everything. -/
theorem Sequencer.txnOk_of_idle (h : q.inFlight = none) : q.txnOk :=
  ⟨fun _ => h, fun r hr => by rw [h] at hr; cases hr⟩

/-- A sequencer in PERIODIC or APERIODIC, in which a transaction may be in flight (R106). -/
def Sequencer.active (q : Sequencer) : Prop := q.state ≠ .waiting ∧ q.state ≠ .done

theorem Sequencer.active_of_core (h : q'.core = q.core) (active : q.active) : q'.active := by
  unfold Sequencer.active
  rw [state_of_core h]
  exact active

/-- A transaction is in flight only in PERIODIC or APERIODIC (R106). -/
theorem Sequencer.txnOk.active {r : InFlight} (ok : q.txnOk) (h : q.inFlight = some r) :
    q.active := by
  refine ⟨fun waiting => ?_, fun done => ?_⟩
  · rw [ok.1 (.inl waiting)] at h
    cases h
  · rw [ok.1 (.inr done)] at h
    cases h

/-- An attempt that waits for its reply has received nothing (R128, R137). -/
theorem Sequencer.txnOk.unreceived {r : InFlight} (ok : q.txnOk) (h : q.inFlight = some r)
    (waits : r.replyWait ≠ none) : r.received = none := by
  by_contra received
  exact waits ((ok.2 r h).1 received).1

end Core

theorem seq_setSeq (d : Device) (k j : Branch) (q : Sequencer) :
    (d.setSeq k q).seq j = if j = k then q else d.seq j := by
  unfold Device.seq Device.setSeq
  by_cases same : j = k
  · rw [if_pos same, same, PerBranch.get_set_self]
  · rw [if_neg same, PerBranch.get_set_of_ne _ _ same]

theorem seq_setSeq_self (d : Device) (k : Branch) (q : Sequencer) : (d.setSeq k q).seq k = q :=
  (seq_setSeq ..).trans (if_pos rfl)

theorem seq_setSeq_of_ne (d : Device) {k j : Branch} (q : Sequencer) (h : j ≠ k) :
    (d.setSeq k q).seq j = d.seq j :=
  (seq_setSeq ..).trans (if_neg h)

/- ### Operations about one branch -/

/-- The cores of no sequencer but one differ, and the admission states are the same. -/
structure Device.OnlyAt (k : Branch) (d d' : Device) : Prop where
  admission : d'.branchAdm = d.branchAdm
  others : ∀ j, j ≠ k → (d'.seq j).core = (d.seq j).core

namespace Device.OnlyAt

variable {k : Branch} {d d' d'' : Device}

theorem trans (h : OnlyAt k d d') (g : OnlyAt k d' d'') : OnlyAt k d d'' :=
  ⟨g.admission.trans h.admission, fun j hj => (g.others j hj).trans (h.others j hj)⟩

set_option Elab.async false in
theorem of_writes {fs : List Field} (w : Writes fs d d') (cores : .cores ∉ fs := by decide)
    (adm : .branchAdm ∉ fs := by decide) : OnlyAt k d d' :=
  ⟨w.branchAdm adm, fun j _ => w.core j cores⟩

theorem setSeq (d : Device) (k : Branch) (q : Sequencer) : OnlyAt k d (d.setSeq k q) :=
  ⟨rfl, fun j hj => congrArg Sequencer.core (seq_setSeq_of_ne d q hj)⟩

end Device.OnlyAt

open Device (OnlyAt)

section Starts

variable (d : Device) (k : Branch)

/-- The sequencer once an attempt has started (R112). -/
theorem startAttempt_seq (r : InFlight) : ∃ starts ends wire, (startAttempt k r d).seq k =
    { d.seq k with
      inFlight := some { r with replyWait := none },
      sending := some { role := .request, starts := starts, ends := ends, wire := wire } } := by
  unfold startAttempt sendBranch
  simp only [seq_setSeq_self]
  exact ⟨_, _, _, rfl⟩

theorem startAttempt_only (r : InFlight) : OnlyAt k d (startAttempt k r d) :=
  (OnlyAt.setSeq ..).trans (OnlyAt.setSeq ..)

/-- An attempt that has received nothing agrees with its sequencer (R112, R128). -/
theorem startAttempt_txnOk {r : InFlight} (received : r.received = none)
    (active : (d.seq k).active) : ((startAttempt k r d).seq k).txnOk := by
  obtain ⟨starts, ends, wire, seq⟩ := startAttempt_seq d k r
  rw [seq]
  refine ⟨fun stopped => (stopped.elim active.1 active.2).elim, fun r' hr => ?_⟩
  cases hr
  exact ⟨fun some => absurd received some, fun some => absurd rfl some⟩

variable {d k}

/-- An attempt that starts after operations that leave the sequencer's core. -/
theorem startAttempt_after {fs : List Field} {d' : Device} {r : InFlight} (w : Writes fs d d')
    (received : r.received = none) (cores : .cores ∉ fs := by decide)
    (adm : .branchAdm ∉ fs := by decide) :
    OnlyAt k d (startAttempt k r d') ∧
      ((d.seq k).active → ((startAttempt k r d').seq k).txnOk) :=
  ⟨(OnlyAt.of_writes w cores adm).trans (startAttempt_only ..), fun active =>
    startAttempt_txnOk d' k received (Sequencer.active_of_core (w.core k cores) active)⟩

variable (d k)

theorem startExchange_only (e : Element) : OnlyAt k d (startExchange k e d) ∧
    ((d.seq k).active → ((startExchange k e d).seq k).txnOk) := by
  unfold startExchange
  dsimp only
  split
  · exact startAttempt_after (takeFrame_writes ..) rfl
  · exact startAttempt_after (.refl (fs := []) d) rfl

theorem startDeliver_only (c : Class) : OnlyAt k d (startDeliver k c d) ∧
    ((d.seq k).inFlight = none → (d.seq k).active → ((startDeliver k c d).seq k).txnOk) := by
  unfold startDeliver
  split
  · exact ⟨.of_writes (.refl (fs := []) d), fun idle _ => Sequencer.txnOk_of_idle idle⟩
  · exact ⟨(startAttempt_after (setHold_writes ..) (by rfl)).1, fun _ =>
      (startAttempt_after (setHold_writes ..) (by rfl)).2⟩

theorem startService_only : OnlyAt k d (startService k d) ∧
    ((d.seq k).inFlight = none → (d.seq k).active → ((startService k d).seq k).txnOk) := by
  unfold startService
  split
  · exact ⟨.of_writes (.refl (fs := []) d), fun idle _ => Sequencer.txnOk_of_idle idle⟩
  · rename_i s _
    have started := startAttempt_after (k := k) (d := d)
      (r := firstAttempt .service s (serviceWorst (d.settings k.line)))
      (((markServiced_writes d k s).mono (fs := [.stations, .seqs])).andThen
        (setSeq_core_writes _ (k := k)
          (q := { (markServiced k s d).seq k with lastServiced := s }) rfl)) rfl
    exact ⟨started.1, fun _ => started.2⟩

theorem startProbe_only (s : Nat) : OnlyAt k d (startProbe k s d) ∧
    ((d.seq k).active → ((startProbe k s d).seq k).txnOk) :=
  startAttempt_after (markServiced_writes ..) rfl

theorem startPick_only (s : Source) : OnlyAt k d (startPick k s d) ∧
    ((d.seq k).inFlight = none → (d.seq k).active → ((startPick k s d).seq k).txnOk) := by
  cases s with
  | cls c => exact startDeliver_only d k c
  | service => exact startService_only d k

theorem setSeqState_seq (st : SeqState) :
    (setSeqState k st d).seq k = { d.seq k with state := st } := seq_setSeq_self ..

set_option Elab.async false in
theorem selectBranch_only : OnlyAt k d (selectBranch k d) ∧
    ((d.seq k).inFlight = none → ((selectBranch k d).seq k).txnOk) := by
  have swept := sweep_writes d k
  unfold selectBranch
  dsimp only
  split
  · refine ⟨(OnlyAt.of_writes swept).trans (OnlyAt.setSeq ..), fun idle => ?_⟩
    refine Sequencer.txnOk_of_idle ?_
    rw [setSeqState_seq]
    exact (Sequencer.inFlight_of_core (swept.core k)).trans idle
  · rename_i s credits _
    have credited := (swept.mono (fs := [.egress, .queued, .seqs, .lines, .circuitCounters,
      .pool])).andThen (setCredits_writes (sweep k d) k.line credits)
    have picked := startPick_only (setSeqState k .aperiodic ((sweep k d).setCredits k.line credits))
      k s
    refine ⟨((OnlyAt.of_writes credited).trans (OnlyAt.setSeq ..)).trans picked.1, fun idle => ?_⟩
    refine picked.2 ?_ ?_
    · rw [setSeqState_seq]
      exact (Sequencer.inFlight_of_core (credited.core k)).trans idle
    · rw [setSeqState_seq]
      exact ⟨(fun h => nomatch h), fun h => nomatch h⟩

theorem aperiodicStep_only : OnlyAt k d (aperiodicStep k d) ∧
    ((d.seq k).inFlight = none → ((aperiodicStep k d).seq k).txnOk) := by
  have free : OnlyAt k d (setSeqState k .aperiodic d) := OnlyAt.setSeq ..
  have selected := selectBranch_only (setSeqState k .aperiodic d) k
  have select : OnlyAt k d (selectBranch k (setSeqState k .aperiodic d)) ∧
      ((d.seq k).inFlight = none →
        ((selectBranch k (setSeqState k .aperiodic d)).seq k).txnOk) := by
    refine ⟨free.trans selected.1, fun idle => selected.2 ?_⟩
    rw [setSeqState_seq]
    exact idle
  unfold aperiodicStep
  dsimp only
  split
  · exact select
  · split
    · have probed := startProbe_only (setSeqState k .aperiodic d) k
      refine ⟨free.trans (probed _).1, fun _ => (probed _).2 ?_⟩
      rw [setSeqState_seq]
      exact ⟨(fun h => nomatch h), fun h => nomatch h⟩
    · exact select

theorem periodicStep_only (es : List Element) : OnlyAt k d (periodicStep k es d) ∧
    ((d.seq k).inFlight = none → (d.seq k).active → ((periodicStep k es d).seq k).txnOk) := by
  induction es generalizing d with
  | nil => exact ⟨(aperiodicStep_only d k).1, fun idle _ => (aperiodicStep_only d k).2 idle⟩
  | cons e es ih =>
    have later {fs : List Field} {d' : Device} (w : Writes fs d d') (cores : .cores ∉ fs)
        (adm : .branchAdm ∉ fs) : OnlyAt k d (periodicStep k es d') ∧
        ((d.seq k).inFlight = none → (d.seq k).active →
          ((periodicStep k es d').seq k).txnOk) :=
      ⟨(OnlyAt.of_writes w cores adm).trans (ih d').1, fun idle active => (ih d').2
        ((Sequencer.inFlight_of_core (w.core k cores)).trans idle)
        (Sequencer.active_of_core (w.core k cores) active)⟩
    unfold periodicStep
    split
    · exact later (skipElement_writes d k e) (by decide) (by decide)
    · split
      · exact later (missElement_writes d k e) (by decide) (by decide)
      · exact ⟨(startExchange_only d k e).1, fun _ => (startExchange_only d k e).2⟩

theorem sendBranch_inFlight (role : TxRole) (f : BranchFrame) :
    ((sendBranch k role f d).seq k).inFlight = (d.seq k).inFlight := by
  unfold sendBranch
  dsimp only
  rw [seq_setSeq_self]

theorem beginCycle_only (cycle : Cycle) (deadline : Nat) :
    OnlyAt k d (beginCycle k cycle deadline d) ∧
    ((beginCycle k cycle deadline d).seq k).inFlight = (d.seq k).inFlight := by
  have cleared := ((Writes.foldl (fun d e => missElement_writes d k e) (d.pendingElements k)
    d).mono (fs := [.seqs, .lines, .stations])).andThen (clearServiced_writes _ k)
  have kept := Sequencer.inFlight_of_core (cleared.core k)
  unfold beginCycle
  dsimp only
  generalize clearServiced k ((d.pendingElements k).foldl (missElement k) d) = clear at cleared kept ⊢
  refine ⟨((OnlyAt.of_writes cleared).trans (OnlyAt.setSeq ..)).trans
    ((OnlyAt.of_writes (bumpLine_writes ..)).trans (OnlyAt.setSeq ..)), ?_⟩
  refine (sendBranch_inFlight ..).trans ?_
  refine (Sequencer.inFlight_of_core ((bumpLine_writes ..).core k)).trans ?_
  exact (congrArg Sequencer.inFlight (seq_setSeq_self ..)).trans kept

end Starts

/- ### What an event does to a branch that it is not about -/

/-- A branch keeps its admission state, and its sequencer's core unless it is OPEN and its
transaction agrees still. -/
structure Device.Stirred (d d' : Device) (k : Branch) : Prop where
  admission : d'.admission k = d.admission k
  core : (d'.seq k).core = (d.seq k).core ∨
    d.admission k = .opened ∧ ((d.seq k).txnOk → (d'.seq k).txnOk)

namespace Device.Stirred

variable {k : Branch} {d d' d'' : Device}

theorem txnOk (h : Stirred d d' k) (ok : (d.seq k).txnOk) : (d'.seq k).txnOk :=
  h.core.elim (Sequencer.txnOk_of_core · ok) fun opened => opened.2 ok

theorem branchOk (h : Stirred d d' k) (ok : d.branchOk k) : d'.branchOk k := by
  unfold Device.branchOk
  rw [h.admission]
  rcases h.core with core | ⟨opened, -⟩
  · rw [Sequencer.inFlight_of_core core]
    exact ok
  · rw [opened]
    exact ⟨(fun h => nomatch h), fun h => nomatch h⟩

theorem trans (h : Stirred d d' k) (g : Stirred d' d'' k) : Stirred d d'' k := by
  refine ⟨g.admission.trans h.admission, ?_⟩
  rcases h.core with core | ⟨opened, -⟩
  · rcases g.core with core' | ⟨opened, _⟩
    · exact .inl (core'.trans core)
    · exact .inr ⟨h.admission ▸ opened, g.txnOk ∘ h.txnOk⟩
  · exact .inr ⟨opened, g.txnOk ∘ h.txnOk⟩

theorem of_writes {fs : List Field} (w : Writes fs d d') (k : Branch)
    (cores : .cores ∉ fs := by decide) (adm : .branchAdm ∉ fs := by decide) : Stirred d d' k :=
  ⟨congrArg (PerBranch.get · k) (w.branchAdm adm), .inl (w.core k cores)⟩

end Device.Stirred

theorem Device.OnlyAt.stirred {k j : Branch} {d d' : Device} (h : OnlyAt k d d') (hj : j ≠ k) :
    d.Stirred d' j :=
  ⟨congrArg (PerBranch.get · j) h.admission, .inl (h.others j hj)⟩

open Device (Stirred)

section Stirs

variable (d : Device) (j : Branch)

/-- A branch that is woken was in DONE, with nothing in flight (R106, R122). -/
theorem wakeBranch_stirs (k : Branch) : Stirred d (wakeBranch k d) j := by
  unfold wakeBranch
  split
  · rename_i woken
    obtain ⟨only, txn⟩ := selectBranch_only d k
    by_cases same : j = k
    · subst same
      exact ⟨congrArg (PerBranch.get · j) only.admission,
        .inr ⟨woken.1, fun ok => txn (ok.1 (.inr woken.2))⟩⟩
    · exact only.stirred same
  · exact .of_writes (.refl (fs := []) d) j

theorem notice_stirs (l : Line) : Stirred d (notice d l) j := by
  unfold notice
  split
  · exact .of_writes (.refl (fs := []) d) j
  · exact wakeBranch_stirs ..

set_option Elab.async false in
theorem foldl_stirs {α : Type} {f : Device → α → Device} (h : ∀ d x, Stirred d (f d x) j)
    (xs : List α) : Stirred d (xs.foldl f d) j := by
  induction xs generalizing d with
  | nil => exact .of_writes (.refl (fs := []) d) j
  | cons x xs ih => exact (h d x).trans (ih _)

theorem placeAperiodic_stirs (c : Circuit) (cid ref : Nat) (q : Class) (lines : List Line) :
    Stirred d (placeAperiodic c cid ref q lines d) j :=
  (Stirred.of_writes (.foldl (fun d l => enqueue_writes d c cid ref q l) lines d) j).trans
    (foldl_stirs _ j (fun d l => notice_stirs d j l) lines)

theorem acceptFrame_stirs (a : Arriving) (c : Circuit) (room : d.hasRoom a) : Stirred d (acceptFrame a c d) j := by
  have counted := (((settleBlocks_writes d a c (d.reducedSet c).length room).mono
    (fs := [.pool, .endpoint, .circuitCounters])).andThen
    (bumpCircuit_writes _ a.cid .acceptedFrames)).andThen
    (bumpCircuitBy_writes _ a.cid .acceptedBytes a.length)
  unfold acceptFrame
  dsimp only
  split
  · exact (Stirred.of_writes counted j).trans (placeAperiodic_stirs ..)
  · exact (Stirred.of_writes counted j).trans (.of_writes (placePeriodic_writes ..) j)

theorem discardArriving_stirs (a : Arriving) (r : Reason) : Stirred d (discardArriving a r d) j :=
  .of_writes (discardArriving_writes ..) j

theorem meterFrame_stirs (a : Arriving) (c : Circuit) (room : d.hasRoom a) : Stirred d (meterFrame a c d) j := by
  unfold meterFrame
  split
  · exact acceptFrame_stirs d j a c room
  · rename_i m _
    have coloured := Stirred.of_writes (colourFrame_writes d m a.length) j
    have thinned := coloured.trans (.of_writes (thinLine_writes _ c.ingressLine) j)
    dsimp only
    split
    · exact coloured.trans (acceptFrame_stirs _ j a c room)
    · exact coloured.trans (acceptFrame_stirs _ j a c room)
    · split
      · exact thinned.trans (discardArriving_stirs ..)
      · exact thinned.trans (acceptFrame_stirs _ j a c room)
    · exact coloured.trans (discardArriving_stirs ..)
    · exact coloured.trans (acceptFrame_stirs _ j a c room)

theorem classify_stirs (a : Arriving) : Stirred d (classify a d) j := by
  unfold classify
  split
  · exact discardArriving_stirs ..
  · split
    · exact discardArriving_stirs ..
    · rename_i passed
      exact meterFrame_stirs d j a _ (hasRoom_of_refusal passed)

theorem classifyTrunk_stirs (cid priority : Nat) (payload : List Byte) :
    Stirred d (classifyTrunk cid priority payload d) j := by
  unfold classifyTrunk
  dsimp only
  split
  · exact discardArriving_stirs ..
  · exact classify_stirs ..

theorem handOver_stirs (ref : Nat) (o : Origin) : Stirred d (handOver ref o d) j := by
  unfold handOver
  split
  · exact .of_writes (.refl (fs := []) d) j
  · dsimp only
    split
    · exact discardArriving_stirs ..
    · exact classify_stirs ..

theorem handOverReceived_stirs (k : Branch) (r : InFlight) :
    Stirred d (handOverReceived k r d) j := by
  unfold handOverReceived
  split
  · exact .of_writes (.refl (fs := []) d) j
  · exact handOver_stirs ..
  · exact handOver_stirs ..

end Stirs

end Sys2Proof.Machine

/-! The agreement of a branch's admission, sequencer and transaction: what the operations on a
branch's own transaction do to it. -/

namespace Sys2Proof.Machine

open Device (Writes OnlyAt Stirred)

/-- Every branch that agreed agrees still. -/
structure Device.Agrees (d d' : Device) : Prop where
  txn : ∀ k, (d.seq k).txnOk → (d'.seq k).txnOk
  branch : ∀ k, d.branchOk k → d'.branchOk k

namespace Device.Agrees

variable {d d' d'' : Device}

set_option Elab.async false in
theorem trans (h : Agrees d d') (g : Agrees d' d'') : Agrees d d'' :=
  ⟨fun k => g.txn k ∘ h.txn k, fun k => g.branch k ∘ h.branch k⟩

theorem of_stirs (h : ∀ k, Stirred d d' k) : Agrees d d' :=
  ⟨fun k => (h k).txnOk, fun k => (h k).branchOk⟩

/-- One branch agrees still, and the others are stirred at most. -/
theorem of_others {k : Branch} (others : ∀ j, j ≠ k → Stirred d d' j)
    (txn : (d.seq k).txnOk → (d'.seq k).txnOk) (branch : d.branchOk k → d'.branchOk k) :
    Agrees d d' where
  txn j ok := by
    by_cases same : j = k
    · exact same ▸ txn (same ▸ ok)
    · exact (others j same).txnOk ok
  branch j ok := by
    by_cases same : j = k
    · exact same ▸ branch (same ▸ ok)
    · exact (others j same).branchOk ok

theorem of_writes {fs : List Field} (w : Writes fs d d') (cores : .cores ∉ fs := by decide)
    (adm : .branchAdm ∉ fs := by decide) : Agrees d d' :=
  of_stirs fun k => .of_writes w k cores adm

theorem refl (d : Device) : Agrees d d := of_writes (.refl (fs := []) d)

end Device.Agrees

open Device (Agrees)

/-- One branch agrees, whatever it did before, and the others are stirred at most. -/
structure Device.Turns (k : Branch) (d d' : Device) : Prop where
  others : ∀ j, j ≠ k → Stirred d d' j
  txn : (d'.seq k).txnOk
  branch : d'.branchOk k

open Device (Turns)

section Turns

variable {d d' d'' : Device} {k : Branch}

theorem Device.Turns.agrees (h : Turns k d d') : Agrees d d' :=
  .of_others h.others (fun _ => h.txn) fun _ => h.branch

theorem Device.Turns.after (h : Turns k d' d'') (g : ∀ j, j ≠ k → Stirred d d' j) : Turns k d d'' :=
  ⟨fun j hj => (g j hj).trans (h.others j hj), h.txn, h.branch⟩

theorem Device.branchOk_of_opened (h : d.admission k = .opened) : d.branchOk k := by
  unfold Device.branchOk
  rw [h]
  exact ⟨(fun h => nomatch h), fun h => nomatch h⟩

theorem Device.branchOk_of_idle (h : (d.seq k).inFlight = none) (shuts : d.admission k ≠ .shutting) :
    d.branchOk k := ⟨fun _ => h, fun h => absurd h shuts⟩

/-- A start on an OPEN branch. -/
theorem Device.OnlyAt.turns (h : OnlyAt k d d') (opened : d.admission k = .opened)
    (txn : (d'.seq k).txnOk) : Turns k d d' :=
  ⟨fun _ hj => h.stirred hj, txn,
    Device.branchOk_of_opened ((congrArg (PerBranch.get · k) h.admission).trans opened)⟩

end Turns

/- ### Admission states -/

section Admission

variable (d : Device) (k : Branch)

theorem admission_setAdmission_self (a : BranchAdmission) :
    (d.setAdmission k a).admission k = a := PerBranch.get_set_self ..

theorem setAdmission_stirs (a : BranchAdmission) {j : Branch} (h : j ≠ k) :
    Stirred d (d.setAdmission k a) j := ⟨PerBranch.get_set_of_ne _ _ h, .inl rfl⟩

set_option Elab.async false in
theorem shutBranch_turns : Turns k d (shutBranch k d) ∧ (shutBranch k d).admission k = .shut := by
  have flushed := ((flushQueues_writes (d.setAdmission k .shut) k.line).mono
    (fs := [.lines, .circuitCounters, .pool, .egress, .queued, .slots, .contexts])).andThen
    (flushSlots_writes _ k.line) |>.andThen (flushContexts_writes _ k)
  unfold shutBranch
  dsimp only
  generalize flushContexts k (flushSlots k.line (flushQueues k.line (d.setAdmission k .shut))) = x
    at flushed ⊢
  have calmed := ((resetCredits_writes (x.setSeq k (x.seq k).flushed) k.line).mono
    (fs := [.egress, .stations, .seqs])).andThen (cancelReleases_writes _ k.line) |>.andThen
    (markResyncAll_writes _ k)
  have shut : (markResyncAll k (cancelReleases k.line (resetCredits k.line
      (x.setSeq k (x.seq k).flushed)))).admission k = .shut :=
    (congrArg (PerBranch.get · k) (calmed.branchAdm.trans flushed.branchAdm)).trans
      (admission_setAdmission_self d k .shut)
  have idle : ((markResyncAll k (cancelReleases k.line (resetCredits k.line
      (x.setSeq k (x.seq k).flushed)))).seq k).inFlight = none :=
    (Sequencer.inFlight_of_core (calmed.core k)).trans
      (congrArg Sequencer.inFlight (seq_setSeq_self x k (x.seq k).flushed))
  refine ⟨⟨fun j hj => ?_, Sequencer.txnOk_of_idle idle, Device.branchOk_of_idle idle ?_⟩, shut⟩
  · exact (((setAdmission_stirs d k .shut hj).trans (.of_writes flushed j)).trans
      ((OnlyAt.setSeq x k _).stirred hj)).trans (.of_writes calmed j)
  · rw [shut]
    exact fun h => nomatch h

theorem openBranch_agrees : Agrees d (openBranch k d) := by
  unfold openBranch
  obtain ⟨x, hx⟩ : ∃ x, x = { d.setAdmission k .opened with openedAt := d.openedAt.set k d.now } :=
    ⟨_, rfl⟩
  have opened : x.admission k = .opened := hx ▸ admission_setAdmission_self d k .opened
  have others : ∀ j, j ≠ k → Stirred d x j := fun j hj => hx ▸ ⟨PerBranch.get_set_of_ne _ _ hj, .inl rfl⟩
  have same : (x.seq k) = d.seq k := hx ▸ rfl
  have marked := markResyncAll_writes x k
  rw [← hx]
  refine .of_others (fun j hj => (others j hj).trans (.of_writes marked j))
    (Sequencer.txnOk_of_core ((marked.core k).trans (congrArg _ same)))
    fun _ => Device.branchOk_of_opened ?_
  exact (congrArg (PerBranch.get · k) marked.branchAdm).trans opened

end Admission

/- ### The next step and the end of a transaction (R114) -/

section Ends

variable (d : Device) (k : Branch)

theorem becomeShut_turns : Turns k d (becomeShut k d) := by
  obtain ⟨turns, shut⟩ := shutBranch_turns d k
  have told := ((raiseEvent_writes (shutBranch k d) .lineShut (some k.line) none 0)).andThen
    (readyResponse_writes _ k)
  exact ⟨fun j hj => (turns.others j hj).trans (.of_writes told j),
    Sequencer.txnOk_of_core (told.core k) turns.txn,
    (Stirred.of_writes told k).branchOk turns.branch⟩

theorem nextStep_turns (idle : (d.seq k).inFlight = none) : Turns k d (nextStep k d) := by
  unfold nextStep
  split
  · exact becomeShut_turns d k
  · rename_i shut
    refine ⟨fun j _ => .of_writes (.refl (fs := []) d) j, Sequencer.txnOk_of_idle idle,
      Device.branchOk_of_idle idle ?_⟩
    rw [shut]
    exact fun h => nomatch h
  · rename_i opened
    split
    · rename_i cycle deadline _
      obtain ⟨only, same⟩ := beginCycle_only d k cycle deadline
      exact only.turns opened (Sequencer.txnOk_of_idle (same.trans idle))
    · rename_i periodic
      obtain ⟨only, txn⟩ := periodicStep_only d k (d.pendingElements k)
      refine only.turns opened (txn idle ?_)
      unfold Sequencer.active
      rw [periodic]
      exact ⟨(fun h => nomatch h), fun h => nomatch h⟩
    · obtain ⟨only, txn⟩ := aperiodicStep_only d k
      exact only.turns opened (txn idle)
    · exact (OnlyAt.of_writes (.refl (fs := []) d)).turns opened (Sequencer.txnOk_of_idle idle)
    · exact (OnlyAt.of_writes (.refl (fs := []) d)).turns opened (Sequencer.txnOk_of_idle idle)

theorem endTransaction_turns (r : InFlight) (o : Outcome) : Turns k d (endTransaction k r o d) := by
  unfold endTransaction
  dsimp only
  refine (nextStep_turns _ k ?_).after fun j hj => ?_
  · exact congrArg Sequencer.inFlight (seq_setSeq_self ..)
  · exact (((Stirred.of_writes (reportOutcome_writes ..) j).trans
      (handOverReceived_stirs ..)).trans (.of_writes (settleTransaction_writes ..) j)).trans
      ((OnlyAt.setSeq ..).stirred hj)

/-- An attempt that waits fails: a retry has received nothing, as the attempt that waited has
(R113, R128). -/
theorem failAttempt_agrees {r : InFlight} (flies : (d.seq k).inFlight = some r)
    (waits : r.replyWait ≠ none) : Agrees d (failAttempt k r d) := by
  unfold failAttempt
  split
  · rename_i retries
    have opened : d.admission k = .opened := by
      unfold Device.retries at retries
      simp only [Bool.and_eq_true, beq_iff_eq] at retries
      exact retries.1.1.2
    have counted := bumpLine_writes d k.line .retries
    refine .of_stirs fun j => ?_
    by_cases same : j = k
    · subst same
      refine ⟨?_, .inr ⟨opened, fun ok => ?_⟩⟩
      · exact congrArg (PerBranch.get · j) ((OnlyAt.of_writes counted).trans
          (startAttempt_only _ j _)).admission
      · have received : r.received = none := ok.unreceived flies waits
        exact (startAttempt_after (r := { r with attempt := r.attempt + 1 }) counted received).2
          (ok.active flies)
    · exact ((OnlyAt.of_writes counted).trans (startAttempt_only ..)).stirred same
  · exact (endTransaction_turns ..).agrees

theorem waiting_some {r : InFlight} (h : d.waiting k = some r) :
    (d.seq k).inFlight = some r ∧ r.replyWait ≠ none := by
  obtain ⟨flies, waits⟩ := Option.filter_eq_some_iff.1 h
  exact ⟨flies, Option.isSome_iff_ne_none.1 waits⟩

theorem erroredArrival_agrees : Agrees d (erroredArrival k d) := by
  unfold erroredArrival
  split
  · rename_i r waiting
    obtain ⟨flies, waits⟩ := waiting_some d k waiting
    exact failAttempt_agrees d k flies waits
  · exact .refl d

end Ends

/- ### Replies (R129 to R137) -/

section Replies

variable (d : Device) (k : Branch)

/-- A write of a branch's own sequencer that keeps a transaction in flight, and the agreement. -/
theorem setSeq_agrees {q : Sequencer} (flies : q.inFlight.isSome)
    (before : (d.seq k).inFlight.isSome) (txn : (d.seq k).txnOk → q.txnOk) :
    Agrees d (d.setSeq k q) := by
  have self := seq_setSeq_self d k q
  refine .of_others (fun j hj => (OnlyAt.setSeq d k q).stirred hj) (by rw [self]; exact txn)
    fun ok => ⟨fun shut => ?_, fun _ => by rw [self]; exact flies⟩
  rw [ok.1 shut] at before
  cases before

/-- The part's answer is sent while the transaction is in flight (R137). -/
theorem sendAnswer_agrees (flies : (d.seq k).inFlight.isSome) (r : InFlight) (kind : BranchKind) :
    Agrees d (sendAnswer k r kind d) := by
  obtain ⟨starts, ends, wire, answered⟩ : ∃ starts ends wire, sendAnswer k r kind d =
      d.setSeq k { d.seq k with
        inFlight := some { r with replyWait := none },
        sending := some { role := .answer, starts := starts, ends := ends, wire := wire } } := by
    unfold sendAnswer setInFlight sendBranch
    simp only [seq_setSeq_self]
    simp only [Device.setSeq, PerBranch.set_set]
    exact ⟨_, _, _, rfl⟩
  rw [answered]
  refine setSeq_agrees d k rfl flies fun ok => ?_
  obtain ⟨r', hr⟩ := Option.isSome_iff_exists.1 flies
  refine ⟨fun stopped => (stopped.elim (ok.active hr).1 (ok.active hr).2).elim, fun r'' h => ?_⟩
  cases h
  exact ⟨fun _ => ⟨rfl, rfl⟩, fun waits => absurd rfl waits⟩

/-- The part's answer after operations that leave the sequencers' cores. -/
theorem sendAnswer_after {fs : List Field} {d' : Device} (flies : (d.seq k).inFlight.isSome)
    (r : InFlight) (kind : BranchKind) (w : Writes fs d d') (cores : .cores ∉ fs := by decide)
    (adm : .branchAdm ∉ fs := by decide) : Agrees d (sendAnswer k r kind d') :=
  (Agrees.of_writes w cores adm).trans (sendAnswer_agrees d' k
    (by rw [Sequencer.inFlight_of_core (w.core k cores)]; exact flies) r kind)

theorem serviceData_agrees (flies : (d.seq k).inFlight.isSome) (r : InFlight) (f : BranchFrame) :
    Agrees d (serviceData k r f d) := by
  have busy {fs : List Field} {d' : Device} (w : Writes fs d d') (cores : .cores ∉ fs)
      (adm : .branchAdm ∉ fs) : Agrees d (answerBusy k r d') :=
    (Agrees.of_writes w cores adm).trans (sendAnswer_after d' k
      (by rw [Sequencer.inFlight_of_core (w.core k cores)]; exact flies) r .busy
      (bumpBoth_writes ..))
  have ack {fs : List Field} {d' : Device} (received : Option Nat) (w : Writes fs d d')
      (cores : .cores ∉ fs) (adm : .branchAdm ∉ fs) : Agrees d (answerAck k r received d') :=
    (Agrees.of_writes w cores adm).trans (sendAnswer_after d' k
      (by rw [Sequencer.inFlight_of_core (w.core k cores)]; exact flies) _ .ack (flipUp_writes ..))
  unfold serviceData
  split
  · exact busy (.refl (fs := []) d) (by decide) (by decide)
  · split
    · exact sendAnswer_after d k flies _ _ (bumpBoth_writes ..)
    · split
      · split
        · exact busy (.refl (fs := []) d) (by decide) (by decide)
        · rename_i met
          exact ack _ (storeReceipt_writes d k f (room_of_receiptRefusal met)) (by decide)
            (by decide)
      · dsimp only
        split
        · exact ack _ (takeSegment_writes d k r.station f) (by decide) (by decide)
        · exact busy (takeSegment_writes d k r.station f) (by decide) (by decide)

set_option Elab.async false in
theorem serviceReply_agrees (flies : (d.seq k).inFlight.isSome) (r : InFlight) (f : BranchFrame) :
    Agrees d (serviceReply k r f d) := by
  unfold serviceReply
  split
  · exact serviceData_agrees d k flies r f
  · exact (endTransaction_turns ..).agrees

theorem exchangeReply_agrees (r : InFlight) (f : BranchFrame) : Agrees d (exchangeReply k r f d) := by
  unfold exchangeReply
  split
  · exact (Agrees.of_writes (exchangeData_writes d k f)).trans (endTransaction_turns ..).agrees
  · exact (endTransaction_turns ..).agrees

theorem deliverReply_agrees (r : InFlight) (c : Class) (segment : Nat) (f : BranchFrame) :
    Agrees d (deliverReply k r c segment f d) := by
  unfold deliverReply
  dsimp only
  refine Agrees.trans (d' := ite _ _ _) ?_ (endTransaction_turns ..).agrees
  split
  · exact .of_writes (deliverAck_writes ..)
  · split
    · exact .of_writes (deliverBusy_writes ..)
    · exact .refl d

theorem acceptReply_agrees {r : InFlight} (flies : (d.seq k).inFlight = some r)
    (waits : r.replyWait ≠ none) (f : BranchFrame) : Agrees d (acceptReply k r f d) := by
  have some : (d.seq k).inFlight.isSome := by rw [flies]; rfl
  have waited : Agrees d (setInFlight k (.some { r with replyWait := none }) d) := by
    refine setSeq_agrees d k rfl some fun ok => ?_
    refine ⟨fun stopped => (stopped.elim (ok.active flies).1 (ok.active flies).2).elim,
      fun r' hr => ?_⟩
    cases hr
    exact ⟨fun received => absurd (ok.unreceived flies waits) received,
      fun waits => absurd rfl waits⟩
  have resynced := resyncOnReply_writes (setInFlight k (.some { r with replyWait := none }) d) k
    r.station
  have before := waited.trans (.of_writes resynced)
  have still : ((resyncOnReply k r.station
      (setInFlight k (.some { r with replyWait := none }) d)).seq k).inFlight.isSome := by
    rw [Sequencer.inFlight_of_core (resynced.core k)]
    unfold setInFlight
    rw [seq_setSeq_self]
    rfl
  unfold acceptReply
  dsimp only
  split
  · exact before.trans (exchangeReply_agrees ..)
  · exact before.trans (deliverReply_agrees ..)
  · exact before.trans (serviceReply_agrees _ k still _ f)
  · exact before.trans (serviceReply_agrees _ k still _ f)

theorem validArrival_agrees (f : BranchFrame) : Agrees d (validArrival k f d) := by
  unfold validArrival
  split
  · exact .of_writes (unexpectedFrame_writes ..)
  · rename_i r waiting
    obtain ⟨flies, waits⟩ := waiting_some d k waiting
    split
    · exact acceptReply_agrees d k flies waits f
    · have counted := bumpBoth_writes d k r.station .protocolError .protocolError
      refine (Agrees.of_writes counted).trans (failAttempt_agrees _ k ?_ waits)
      exact (Sequencer.inFlight_of_core (counted.core k)).trans flies

end Replies

end Sys2Proof.Machine

/-! The agreement of a branch's admission, sequencer and transaction: every event keeps it. -/

namespace Sys2Proof.Machine

open Device (Writes OnlyAt Stirred Agrees)

section Events

variable (d : Device)

/- ### Branch events -/

set_option Elab.async false in
theorem branchArrival_agrees (k : Branch) (start : Nat) (bytes : List Byte) :
    Agrees d (branchArrival k start bytes d) := by
  unfold branchArrival
  split
  · exact .of_writes (bumpLineBy_writes ..)
  · split
    · exact .refl d
    · dsimp only
      have collected := Agrees.of_writes (collect_writes d k.line Config.branchBuffer bytes)
      unfold branchChecked
      split
      · exact (collected.trans (.of_writes (headerErrorOn_writes ..))).trans
          (erroredArrival_agrees ..)
      · exact (collected.trans (.of_writes (payloadErrorOn_writes ..))).trans
          (erroredArrival_agrees ..)
      · exact (collected.trans (.of_writes (bumpLine_writes ..))).trans (validArrival_agrees ..)

theorem replyTimeoutDue_agrees (k : Branch) : Agrees d (replyTimeoutDue k d) := by
  unfold replyTimeoutDue
  split
  · exact .refl d
  · rename_i r flies
    split
    · exact .refl d
    · rename_i due waits
      exact (Agrees.of_writes (now_writes d due)).trans
        (failAttempt_agrees { d with now := due } k flies (by rw [waits]; exact Option.some_ne_none due))

/-- The completion of a branch frame: a request's reply wait begins, an answer ends its transaction,
and with nothing in flight the sequencer goes on (R13, R115, R128, R137). -/
theorem branchComplete_agrees (k : Branch) : Agrees d (branchComplete k d) := by
  unfold branchComplete
  split
  · exact .refl d
  rename_i tx sends
  dsimp only
  obtain ⟨x, hx⟩ : ∃ x, x = ({ d with now := tx.ends }.setSeq k { d.seq k with sending := none }).bumpLine
    k.line .framesSent := ⟨_, rfl⟩
  rw [← hx]
  have seq : x.seq k = { d.seq k with sending := none } := hx ▸ seq_setSeq_self { d with now := tx.ends } k _
  have only : OnlyAt k d x := hx ▸ ((OnlyAt.of_writes (now_writes d tx.ends)).trans
    (OnlyAt.setSeq ..)).trans (.of_writes (bumpLine_writes ..))
  have adm : x.admission k = d.admission k := congrArg (PerBranch.get · k) only.admission
  have branch : d.branchOk k → x.branchOk k := by
    unfold Device.branchOk
    rw [adm, seq]
    exact id
  unfold afterBranchFrame
  split
  · rename_i r flies
    have before : (d.seq k).inFlight = some r := by rw [seq] at flies; exact flies
    have unanswered (ok : (d.seq k).txnOk) (role : tx.role ≠ .answer) : r.received = none := by
      by_contra received
      have answer := ((ok.2 r before).1 received).2
      rw [sends] at answer
      exact role (Option.some.inj answer)
    have active (ok : (d.seq k).txnOk) := ok.active before
    split
    · rename_i role
      refine .of_others (fun j hj => (only.stirred hj).trans ((OnlyAt.setSeq ..).stirred hj))
        (fun ok => ?_) fun ok => ?_
      · unfold startWait setInFlight
        rw [seq_setSeq_self, seq]
        refine ⟨fun stopped => (stopped.elim (active ok).1 (active ok).2).elim, fun r' hr => ?_⟩
        cases hr
        exact ⟨fun some => absurd (unanswered ok (by rw [role]; decide)) some, fun _ => rfl⟩
      · unfold startWait setInFlight
        refine ⟨fun shut => ?_, fun _ => by rw [seq_setSeq_self]; rfl⟩
        have none := ok.1 (adm.symm.trans shut)
        rw [before] at none
        cases none
    · exact ((endTransaction_turns ..).after fun j hj => only.stirred hj).agrees
    · rename_i role
      refine .of_others (fun j hj => only.stirred hj) (fun ok => ?_) branch
      rw [seq]
      refine ⟨fun stopped => (stopped.elim (active ok).1 (active ok).2).elim, fun r' hr => ?_⟩
      cases before.symm.trans hr
      exact ⟨fun some => absurd (unanswered ok (by rw [role]; decide)) some, fun _ => rfl⟩
  · rename_i idle
    have stays : Agrees d x := .of_others (fun j hj => only.stirred hj)
      (fun _ => Sequencer.txnOk_of_idle idle) branch
    split
    · rename_i opened
      split
      · rename_i cycle deadline _
        obtain ⟨begun, same⟩ := beginCycle_only x k cycle deadline
        exact ((begun.turns opened (Sequencer.txnOk_of_idle (same.trans idle))).after
          fun j hj => only.stirred hj).agrees
      · rename_i periodic
        obtain ⟨stepped, txn⟩ := periodicStep_only x k (x.pendingElements k)
        refine ((stepped.turns opened (txn idle ?_)).after fun j hj => only.stirred hj).agrees
        unfold Sequencer.active
        rw [periodic]
        exact ⟨(fun h => nomatch h), fun h => nomatch h⟩
      · exact stays
    · exact stays

theorem shaperRelease_agrees (l : Line) (c : Class) : Agrees d (shaperRelease l c d) := by
  unfold shaperRelease
  split
  · exact .refl d
  · rename_i due _
    exact ((Agrees.of_writes (now_writes d due)).trans (.of_writes (setRelease_writes ..))).trans
      (.of_stirs fun j => notice_stirs ..)

/- ### Cycle starts -/

theorem branchCycleStart_agrees (cycle : Cycle) (deadline : Nat) (k : Branch) :
    Agrees d (branchCycleStart cycle deadline d k) := by
  unfold branchCycleStart
  split
  · rename_i opened
    split
    · rename_i free
      obtain ⟨begun, same⟩ := beginCycle_only d k cycle deadline
      exact (begun.turns opened (Sequencer.txnOk_of_idle
        (same.trans (Option.isNone_iff_eq_none.1 free.1)))).agrees
    · exact .of_writes (deferCycle_writes ..)
  · exact .refl d

theorem handOut_agrees : Agrees d (handOut d) := by
  have counted := (((refillMeters_writes d).mono
    (fs := [.meters, .lines, .circuitCounters, .pool, .slots, .contexts, .stations])).andThen
    (discardLate_writes _)).andThen (ageContexts_writes _) |>.andThen (countDownProbes_writes _)
  unfold handOut
  dsimp only
  exact List.foldlRecOn (motive := Agrees d) Branch.all _ (.of_writes counted)
    fun x h k _ => h.trans (branchCycleStart_agrees ..)

theorem started_agrees (number : Cycle) (st : TimerState) (miss : Nat) (slip : Bool) :
    Agrees d (startedCycle number st miss slip d) :=
  ((Agrees.of_writes (startTimer_writes ..)).trans (.of_writes (actOnCommit_writes ..))).trans
    (.of_writes (setExpiry_writes ..))

theorem frameStart_agrees (number : Cycle) : Agrees d (frameStart number d) := by
  rw [frameStart_eq]
  exact (((started_agrees ..).trans (.of_writes (raiseFrameEvents_writes ..))).trans
    (.of_writes (raiseCommit_writes ..))).trans (handOut_agrees _)

theorem localStart_agrees : Agrees d (localStart d) := by
  rw [localStart_eq]
  exact (((started_agrees ..).trans (.of_writes (raiseLocalEvents_writes ..))).trans
    (.of_writes (raiseCommit_writes ..))).trans (handOut_agrees _)

/- ### The trunk -/

theorem trunkArrival_agrees (bytes : List Byte) : Agrees d (trunkArrival bytes d) := by
  unfold trunkArrival
  dsimp only
  refine (Agrees.of_writes (collect_writes d .t Config.trunkBuffer bytes)).trans ?_
  unfold trunkChecked
  split
  · exact .of_writes (headerErrorOn_writes ..)
  · exact .of_writes (payloadErrorOn_writes ..)
  · refine (Agrees.of_writes (bumpLine_writes _ .t .framesReceived)).trans ?_
    unfold timerArrival
    split
    · split
      · exact .of_writes (bumpLine_writes ..)
      · exact frameStart_agrees ..
    · exact frameStart_agrees ..
  · refine (Agrees.of_writes (bumpLine_writes _ .t .framesReceived)).trans ?_
    unfold trunkDataFrame
    split
    · exact .of_writes (requestArrival_writes ..)
    · exact .of_stirs fun j => classifyTrunk_stirs ..

/-- A restart leaves every branch SHUT with nothing in flight (R177). -/
theorem cleared_agrees : Agrees d d.cleared := by
  have idle (k : Branch) : (d.cleared.seq k).inFlight = none := by
    unfold Device.cleared Device.seq
    rw [restartedSeqs_get]
    rfl
  refine ⟨fun k _ => Sequencer.txnOk_of_idle (idle k), fun k _ =>
    Device.branchOk_of_idle (idle k) ?_⟩
  rw [show d.cleared.admission k = .shut from PerBranch.get_all ..]
  exact fun h => nomatch h

theorem trunkComplete_agrees : Agrees d (trunkComplete d) := by
  unfold trunkComplete
  split
  · exact .refl d
  · have idle := (Agrees.of_writes (bumpLine_writes d .t .framesSent)).trans
      (.of_writes (trunkTx_writes _ none))
    unfold trunkSent
    dsimp only
    split
    · exact idle.trans (.of_writes (releaseFrame_writes ..))
    · split
      · exact ((idle.trans (cleared_agrees _)).trans (.of_writes (restarted_writes _))).trans
          (.of_writes (restartNow_writes _))
      · exact idle

/- ### The end of an event -/

set_option Elab.async false in
theorem setBranch_agrees (k : Branch) (state : Nat) (op : Byte) (tag : List Byte) :
    Agrees d (setBranch k state op tag d).1 := by
  have same : Agrees d d := .refl d
  unfold setBranch
  split
  · exact same
  · split
    · dsimp only
      exact (shutBranch_turns d k).1.agrees
    · rename_i flies
      dsimp only
      refine Agrees.trans (d' := d.setAdmission k .shutting) ?_ (.of_writes (endpoint_writes _ _ id id))
      refine .of_others (fun j hj => setAdmission_stirs d k .shutting hj) id fun _ => ?_
      refine ⟨fun shut => ?_, fun _ => Option.isSome_iff_ne_none.2 fun none => ?_⟩
      · rw [admission_setAdmission_self] at shut
        cases shut
      · exact flies (Option.isNone_iff_eq_none.2 none)
  · exact same
  · split
    · exact same
    · dsimp only
      exact openBranch_agrees d k
  · exact same

theorem performOp_agrees (op : Op) (bs : List Byte) : Agrees d (performOp op bs d).1 := by
  cases op with
  | read => exact .refl d
  | stage => exact .of_writes (performStage_writes ..)
  | discard => exact .of_writes (change_writes d _)
  | commit => exact .of_writes (performCommit_writes d ..)
  | setLine =>
    unfold performOp performSetLine
    dsimp only
    split
    · exact .refl d
    · split
      · exact .of_writes (setTrunk_writes ..)
      · exact setBranch_agrees ..
  | clear => exact .of_writes (performClear_writes d ..)
  | takeEvents => exact .of_writes (performTakeEvents_writes d _)
  | restart => exact .of_writes (endpoint_writes d _ id id)

theorem performHead_agrees (bs : List Byte) : Agrees d (performHead bs d) := by
  have performed : Agrees d (performRequest bs d).1 := by
    unfold performRequest
    split
    · exact .refl d
    · exact performOp_agrees ..
  unfold performHead
  split
  · rename_i d' hp
    rw [hp] at performed
    exact performed
  · rename_i d' r hp
    rw [hp] at performed
    exact performed.trans (.of_writes (endpoint_writes d' _ id id))

theorem takeHead_agrees (queue : List (List Byte)) (hq : queue.length ≤ d.endpoint.queue.length) :
    Agrees d (takeHead queue d) := by
  induction queue generalizing d with
  | nil => exact .of_writes (endpoint_writes d _ (fun _ => Nat.zero_le _) id)
  | cons bs rest ih =>
    have taken := Agrees.of_writes (endpoint_writes d { d.endpoint with queue := rest }
      (fun q => (Nat.le_of_succ_le hq).trans q) id)
    unfold takeHead
    dsimp only
    split
    · exact taken.trans (performHead_agrees ..)
    · exact (taken.trans (.of_writes (countNotMine_writes _))).trans (ih _ (Nat.le_refl _))

theorem fillSlot_agrees : Agrees d (fillSlot d) := by
  unfold fillSlot
  split
  · exact .refl d
  · exact .of_writes (endpoint_writes d _ id id)
  · exact .refl d
  · exact .of_writes (placeAttention_writes d)
  · split
    · exact .of_writes (placeAttention_writes d)
    · exact takeHead_agrees d _ (Nat.le_refl _)

theorem settle_agrees : Agrees d (settle d) :=
  (((fillSlot_agrees d).trans (.of_writes (trunkChoose_writes _))).trans (fillSlot_agrees _)).trans
    (.of_writes (trunkChoose_writes _))

/-- Every move keeps the agreement of every branch. -/
theorem Device.Moves.agrees {d' : Device} (m : d.Moves d') : Agrees d d' := by
  have at_ (now : Nat) : Agrees d { d with now := now } := .of_writes (now_writes d now)
  cases m with
  | stays => exact .refl d
  | resets now node inReset =>
    exact ⟨fun k _ => Sequencer.txnOk_of_idle (by cases k <;> rfl), fun k _ =>
      Device.branchOk_of_idle (by cases k <;> rfl) (by cases k <;> exact fun h => nomatch h)⟩
  | trunkArrival now bytes => exact ((at_ now).trans (trunkArrival_agrees ..)).trans (settle_agrees _)
  | lockWindow =>
    refine Agrees.trans ?_ (settle_agrees _)
    unfold lockWindowDue
    split
    · exact (at_ _).trans (localStart_agrees _)
    · exact .refl d
  | localCycle =>
    refine Agrees.trans ?_ (settle_agrees _)
    unfold localCycleDue
    split
    · exact (at_ _).trans (localStart_agrees _)
    · exact .refl d
  | trunkComplete now => exact ((at_ now).trans (trunkComplete_agrees _)).trans (settle_agrees _)
  | shaperRelease l c => exact (shaperRelease_agrees ..).trans (settle_agrees _)
  | branchArrival k start now bytes =>
    exact ((at_ now).trans (branchArrival_agrees ..)).trans (settle_agrees _)
  | replyTimeout k => exact (replyTimeoutDue_agrees ..).trans (settle_agrees _)
  | branchComplete k => exact (branchComplete_agrees ..).trans (settle_agrees _)

end Events

/-- Settles O54: the bounds are kept by every operation, and the agreement of each branch by every
event. -/
theorem everyStepKeepsBoundsAndBranches : Obligations.EveryStepKeepsBoundsAndBranches := by
  intro s t h
  have moves := step_moves h
  have kept := moves.kept
  have agrees := moves.agrees
  refine ⟨fun ⟨queue, events, list, contexts⟩ => ?_, fun ok k => agrees.branch k (ok k),
    fun ok k => agrees.txn k (ok k)⟩
  exact ⟨kept.queue queue, kept.events events, listed_bounded.untimed.all.moves moves list,
    kept.contexts contexts⟩

end Sys2Proof.Machine

/-! The references to held frames: what the operations on the pool do to the agreement of reference
counts, holders and the shared count (R64, R65, R68). -/

namespace Sys2Proof.Machine

/-- The reference count of a frame, 0 where none is held. -/
def Pool.refsOf (p : Pool) (ref : Nat) : Nat := ((p.frames.find? ref).map Frame.refs).getD 0

/-- What a frame adds to the shared count (R68). -/
def sharedBlocks (c : Nat × Frame) : Nat := if c.2.shared then c.2.chain.length else 0

/-- The reference counts of a pool agree with the references to its frames: those of received frames,
`own`, of which each is the only one to a frame that is not shared, and the others, `open_`. -/
structure Refs (p : Pool) (own open_ : List Nat) : Prop where
  sorted : p.frames.sorted
  count : ∀ ref, p.refsOf ref = (own ++ open_).count ref
  held : ∀ ref f, p.frames.find? ref = some f → 1 ≤ f.refs
  shared : p.sharedCount = (p.frames.cells.map sharedBlocks).sum
  nodup : own.Nodup
  apart : ∀ ref ∈ own, ref ∉ open_
  unshared : ∀ ref ∈ own, ∀ f, p.frames.find? ref = some f → f.shared = false

/- ### What the frame table lists after a write -/

set_option Elab.async false in
theorem find?_insert {α : Type} (t : Table α) (i j : Nat) (v : α) :
    (t.insert i v).find? j = if j = i then some v else t.find? j := by
  by_cases same : j = i
  · rw [if_pos same, same, Table.find?_insert_self]
  · rw [if_neg same, Table.find?_insert_of_ne _ _ same]

theorem find?_erase {α : Type} (t : Table α) (i j : Nat) :
    (t.erase i).find? j = if j = i then none else t.find? j := by
  by_cases same : j = i
  · rw [if_pos same, same, Table.find?_erase_self]
  · rw [if_neg same, Table.find?_erase_of_ne _ same]

theorem sharedBlocks_eq {c : Nat × Frame} (h : c.2.shared = true) :
    sharedBlocks c = c.2.chain.length := if_pos h

theorem sharedBlocks_unshared {c : Nat × Frame} (h : c.2.shared = false) : sharedBlocks c = 0 := by
  unfold sharedBlocks
  rw [h]
  rfl

theorem count_cons_if (ref r : Nat) (xs : List Nat) :
    (ref :: xs).count r = (if r = ref then 1 else 0) + xs.count r := by
  rw [List.count_cons, Nat.add_comm]
  simp only [beq_iff_eq, eq_comm (a := ref)]

theorem count_replicate_if (n ref r : Nat) :
    (List.replicate n ref).count r = if r = ref then n else 0 := by
  rw [List.count_replicate]
  simp only [beq_iff_eq, eq_comm (a := ref)]

namespace Refs

variable {p : Pool} {own own' open_ open_' : List Nat} {ref : Nat}

theorem perm (h : Refs p own open_) (ho : own'.Perm own) (hp : open_'.Perm open_) :
    Refs p own' open_' where
  sorted := h.sorted
  count r := (h.count r).trans ((ho.append hp).count_eq r).symm
  held := h.held
  shared := h.shared
  nodup := ho.nodup_iff.2 h.nodup
  apart r hr hs := h.apart r (ho.subset hr) (hp.subset hs)
  unshared r hr := h.unshared r (ho.subset hr)

/-- A frame to which there is a reference is held. -/
theorem found (h : Refs p own open_) (hr : ref ∈ own ++ open_) :
    ∃ f, p.frames.find? ref = some f := by
  have positive := List.count_pos_iff.2 hr
  rw [← h.count ref] at positive
  unfold Pool.refsOf at positive
  cases hf : p.frames.find? ref with
  | none => rw [hf] at positive; exact absurd positive (Nat.lt_irrefl 0)
  | some f => exact ⟨f, rfl⟩

theorem count_eq (h : Refs p own open_) {f : Frame} (hf : p.frames.find? ref = some f) :
    f.refs = (own ++ open_).count ref := by
  rw [← h.count ref]
  unfold Pool.refsOf
  rw [hf]
  rfl

/-- A pool that lists other counts for one frame alone. -/
theorem refsOf_insert (p : Pool) (ref r : Nat) (f : Frame) {free : List Nat} {usage : PerLine Nat}
    {n : Nat} {armed : Bool} :
    Pool.refsOf { free := free, frames := p.frames.insert ref f, usage := usage, sharedCount := n,
                  emptyArmed := armed } r = if r = ref then f.refs else p.refsOf r := by
  unfold Pool.refsOf
  dsimp only
  rw [find?_insert]
  split <;> rfl

/-- A descriptor is rewritten: the references follow its count, and the shared count its flag. -/
theorem rewrite (h : Refs p own open_) {f f' : Frame} (hf : p.frames.find? ref = some f)
    {free : List Nat} {usage : PerLine Nat} {armed : Bool} {n : Nat}
    (count : ∀ r, (if r = ref then f'.refs else p.refsOf r) = (own' ++ open_').count r)
    (held : 1 ≤ f'.refs)
    (shared : n + sharedBlocks (ref, f) = p.sharedCount + sharedBlocks (ref, f'))
    (nodup : own'.Nodup) (apart : ∀ r ∈ own', r ∉ open_')
    (unshared : ∀ r ∈ own', (r = ref → f'.shared = false) ∧ (r ≠ ref → r ∈ own)) :
    Refs { free := free, frames := p.frames.insert ref f', usage := usage, sharedCount := n,
           emptyArmed := armed } own' open_' where
  sorted := Table.sorted_insert h.sorted ref f'
  count r := (refsOf_insert ..).trans (count r)
  held r g hg := by
    dsimp only at hg
    rw [find?_insert] at hg
    split at hg
    · cases hg
      exact held
    · exact h.held r g hg
  shared := by
    have old := (Table.perm_erase_of_some hf h.sorted).map sharedBlocks |>.sum_eq
    have new := (Table.perm_erase_of_some (Table.find?_insert_self p.frames ref f')
      (Table.sorted_insert h.sorted ref f')).map sharedBlocks |>.sum_eq
    have rest : ((p.frames.insert ref f').erase ref).cells = (p.frames.erase ref).cells := by
      unfold Table.erase Table.insert
      dsimp only
      generalize p.frames.cells = cs
      induction cs with
      | nil => simp [Table.place]
      | cons c cs ih =>
        obtain ⟨k, w⟩ := c
        simp only [Table.place]
        split
        · simp
        · split
          · rename_i same
            simp [same]
          · rw [List.filter_cons, ih, List.filter_cons]
    rw [rest] at new
    rw [List.map_cons, List.sum_cons] at old new
    have total := h.shared
    dsimp only
    omega
  nodup := nodup
  apart := apart
  unshared r hr g hg := by
    dsimp only at hg
    rw [find?_insert] at hg
    split at hg
    · rename_i same
      cases hg
      exact (unshared r hr).1 same
    · rename_i other
      exact h.unshared r ((unshared r hr).2 other) g hg

/-- One more reference to a frame that others refer to as well (R64). -/
theorem take (h : Refs p own open_) (hr : ref ∈ open_) : Refs (p.take ref) own (ref :: open_) := by
  obtain ⟨f, hf⟩ := h.found (List.mem_append_right own hr)
  rw [Pool.take_held hf]
  have public_ : ref ∉ own := fun mem => h.apart ref mem hr
  refine h.rewrite hf (fun r => ?_) (Nat.le_add_left ..) rfl h.nodup (fun r mem => ?_) fun r mem => ?_
  · rw [List.count_append (l₁ := own), count_cons_if]
    split
    · rename_i same
      subst same
      dsimp only
      rw [h.count_eq hf, List.count_append]
      omega
    · rw [h.count r, List.count_append]
      omega
  · rintro (_ | ⟨_, later⟩)
    · exact public_ mem
    · exact h.apart r mem later
  · exact ⟨fun same => absurd (same ▸ mem) public_, fun _ => mem⟩

set_option Elab.async false in
/-- A frame to which one reference remains is freed with it (R65). -/
theorem freeFrame {f : Frame} (hf : p.frames.find? ref = some f) (h : Refs p own open_)
    (count : ∀ r, (if r = ref then 0 else p.refsOf r) = (own' ++ open_').count r)
    (nodup : own'.Nodup) (apart : ∀ r ∈ own', r ∉ open_')
    (sub : own' ⊆ own) : Refs (p.freeFrame ref f) own' open_' where
  sorted := Table.sorted_erase h.sorted ref
  count r := by
    rw [← count r]
    unfold Pool.refsOf
    rw [Pool.freeFrame_frames, find?_erase]
    split <;> rfl
  held r g hg := by
    rw [Pool.freeFrame_frames, find?_erase] at hg
    split at hg
    · cases hg
    · exact h.held r g hg
  shared := by
    have cells := (Table.perm_erase_of_some hf h.sorted).map sharedBlocks |>.sum_eq
    rw [List.map_cons, List.sum_cons] at cells
    rw [Pool.freeFrame_sharedCount, Pool.freeFrame_frames]
    have total := h.shared
    unfold sharedBlocks at cells total ⊢
    dsimp only at cells
    split <;> simp_all
  nodup := nodup
  apart := apart
  unshared r hr g hg := by
    rw [Pool.freeFrame_frames, find?_erase] at hg
    split at hg
    · cases hg
    · exact h.unshared r (sub hr) g hg

/-- One reference to a frame that others refer to, or none any more, is given up (R64, R65). -/
theorem release (h : Refs p own (ref :: open_)) : Refs (p.release ref) own open_ := by
  have public_ : ref ∉ own := fun mem => h.apart ref mem List.mem_cons_self
  have apart : ∀ r ∈ own, r ∉ open_ := fun r mem later =>
    h.apart r mem (List.mem_cons_of_mem ref later)
  obtain ⟨f, hf⟩ := h.found (List.mem_append_right own List.mem_cons_self)
  have total := h.count_eq hf
  rw [List.count_append, count_cons_if, if_pos rfl, List.count_eq_zero.2 public_] at total
  have others (r : Nat) (other : ¬ r = ref) : p.refsOf r = (own ++ open_).count r := by
    rw [h.count r, List.count_append, count_cons_if, if_neg other, List.count_append, Nat.zero_add]
  by_cases more : 1 < f.refs
  · rw [Pool.release_held hf more]
    refine h.rewrite hf (fun r => ?_) (Nat.le_sub_of_add_le more) rfl h.nodup apart fun r mem => ?_
    · split
      · rename_i same
        subst same
        dsimp only
        rw [List.count_append, List.count_eq_zero.2 public_]
        omega
      · rename_i other
        exact others r other
    · exact ⟨fun same => absurd (same ▸ mem) public_, fun _ => mem⟩
  · rw [Pool.release_last hf more]
    refine freeFrame hf h (fun r => ?_) h.nodup apart (List.Subset.refl own)
    split
    · rename_i same
      subst same
      rw [List.count_append, List.count_eq_zero.2 public_]
      omega
    · rename_i other
      exact others r other

/-- The one reference to a received frame is given up (R40, R65). -/
theorem releaseOwn (h : Refs p (ref :: own) open_) : Refs (p.release ref) own open_ := by
  obtain ⟨fresh, nodup⟩ := List.nodup_cons.1 h.nodup
  have outside := h.apart ref List.mem_cons_self
  obtain ⟨f, hf⟩ := h.found (List.mem_append_left open_ List.mem_cons_self)
  have one : f.refs = 1 := by
    rw [h.count_eq hf, List.count_append, count_cons_if, if_pos rfl, List.count_eq_zero.2 fresh,
      List.count_eq_zero.2 outside]
  rw [Pool.release_last hf (by omega)]
  refine freeFrame hf h (fun r => ?_) nodup (fun r mem => h.apart r (List.mem_cons_of_mem ref mem))
    (List.subset_cons_self ref own)
  split
  · rename_i same
    subst same
    rw [List.count_append, List.count_eq_zero.2 fresh, List.count_eq_zero.2 outside]
  · rename_i other
    rw [h.count r, List.count_append, count_cons_if, if_neg other, List.count_append, Nat.zero_add]

/-- A received frame is accepted: its one reference becomes those of its placements (R41, R68). -/
theorem publish (h : Refs p (ref :: own) open_) {f : Frame} (hf : p.frames.find? ref = some f)
    {n : Nat} (one : 1 ≤ n) (fill : Option Cycle) :
    Refs (Pool.countShared { p with frames := p.frames.insert ref { f with
        refs := n, shared := decide (1 < n), fillCycle := fill } } f.chain.length n)
      own (List.replicate n ref ++ open_) := by
  obtain ⟨fresh, nodup⟩ := List.nodup_cons.1 h.nodup
  have outside := h.apart ref List.mem_cons_self
  have unshared := h.unshared ref List.mem_cons_self f hf
  have count (r : Nat) : (if r = ref then n else p.refsOf r) =
      (own ++ (List.replicate n ref ++ open_)).count r := by
    rw [List.count_append, List.count_append, count_replicate_if]
    split
    · rename_i same
      subst same
      rw [List.count_eq_zero.2 fresh, List.count_eq_zero.2 outside]
      omega
    · rename_i other
      rw [h.count r, List.count_append, count_cons_if, if_neg other]
      omega
  have apart (r : Nat) (mem : r ∈ own) : r ∉ List.replicate n ref ++ open_ := by
    rw [List.mem_append, not_or]
    refine ⟨fun copies => ?_, h.apart r (List.mem_cons_of_mem ref mem)⟩
    rw [List.eq_of_mem_replicate copies] at mem
    exact fresh mem
  have own_ (r : Nat) (mem : r ∈ own) : (r = ref → decide (1 < n) = false) ∧
      (r ≠ ref → r ∈ ref :: own) :=
    ⟨fun same => absurd (same ▸ mem) fresh, fun _ => List.mem_cons_of_mem ref mem⟩
  unfold Pool.countShared
  split
  · rename_i several
    exact h.rewrite hf (f' := { f with refs := n, shared := decide (1 < n), fillCycle := fill }) count
      one (by rw [sharedBlocks_unshared unshared, sharedBlocks_eq (decide_eq_true several)]; rfl)
      nodup apart own_
  · rename_i single
    exact h.rewrite hf (f' := { f with refs := n, shared := decide (1 < n), fillCycle := fill }) count
      one (by rw [sharedBlocks_unshared unshared,
        sharedBlocks_unshared (decide_eq_false single)]) nodup apart own_

/-- A frame becomes held under a new name. -/
theorem hold (h : Refs p own open_) (fresh : p.frames.find? ref = none) {f : Frame} {own' open_' : List Nat}
    {free : List Nat} {usage : PerLine Nat} {armed : Bool} {n : Nat}
    (count : ∀ r, (if r = ref then f.refs else (own ++ open_).count r) = (own' ++ open_').count r)
    (held : 1 ≤ f.refs) (shared : n = p.sharedCount + sharedBlocks (ref, f))
    (nodup : own'.Nodup) (apart : ∀ r ∈ own', r ∉ open_')
    (unshared : ∀ r ∈ own', (r = ref → f.shared = false) ∧ (r ≠ ref → r ∈ own)) :
    Refs { free := free, frames := p.frames.insert ref f, usage := usage, sharedCount := n,
           emptyArmed := armed } own' open_' where
  sorted := Table.sorted_insert h.sorted ref f
  count r := by
    rw [refsOf_insert, ← count r, h.count r]
  held r g hg := by
    dsimp only at hg
    rw [find?_insert] at hg
    split at hg
    · cases hg
      exact held
    · exact h.held r g hg
  shared := by
    have cells := ((Table.perm_place_of_none fresh f).map sharedBlocks).sum_eq
    rw [List.map_cons, List.sum_cons] at cells
    show n = ((Table.place p.frames.cells ref f).map sharedBlocks).sum
    rw [cells, shared, h.shared, Nat.add_comm]
  nodup := nodup
  apart := apart
  unshared r hr g hg := by
    dsimp only at hg
    rw [find?_insert] at hg
    split at hg
    · rename_i same
      cases hg
      exact (unshared r hr).1 same
    · rename_i other
      exact h.unshared r ((unshared r hr).2 other) g hg

/-- There is no reference to a name under which no frame is held. -/
theorem not_mem (h : Refs p own open_) (fresh : p.frames.find? ref = none) :
    ref ∉ own ++ open_ := by
  intro mem
  obtain ⟨f, hf⟩ := h.found mem
  rw [fresh] at hf
  cases hf

/-- A received frame becomes held, with the one reference of its transaction (R59, R61, R62). -/
theorem holdOwn (h : Refs p own open_) (fresh : p.frames.find? ref = none) {f : Frame}
    (one : f.refs = 1) (unshared : f.shared = false) {free : List Nat} {usage : PerLine Nat}
    {armed : Bool} :
    Refs
      { free := free, frames := p.frames.insert ref f, usage := usage,
        sharedCount := p.sharedCount, emptyArmed := armed } (ref :: own) open_ := by
  obtain ⟨notOwn, notOpen⟩ := not_or.1 (List.mem_append.not.1 (h.not_mem fresh))
  refine h.hold fresh (fun r => ?_) (Nat.le_of_eq one.symm) ?_ (List.nodup_cons.2 ⟨notOwn, h.nodup⟩)
    ?_ ?_
  · rw [List.cons_append, count_cons_if, one]
    split
    · rename_i same
      subst same
      rw [List.count_eq_zero.2 (h.not_mem fresh)]
    · rw [Nat.zero_add]
  · rw [sharedBlocks_unshared unshared, Nat.add_zero]
  · rintro r (_ | ⟨_, later⟩) mem
    · exact notOpen mem
    · exact h.apart r later mem
  · rintro r (_ | ⟨_, later⟩)
    · exact ⟨fun _ => unshared, fun other => absurd rfl other⟩
    · exact ⟨fun _ => unshared, fun _ => later⟩

/-- An accepted trunk frame becomes held, with the references of its placements (R41, R68). -/
theorem holdOpen (h : Refs p own open_) (fresh : p.frames.find? ref = none) {f : Frame} {n : Nat}
    (one : 1 ≤ n) (refs : f.refs = n) (shared : f.shared = decide (1 < n)) {free : List Nat}
    {usage : PerLine Nat} {armed : Bool} :
    Refs (Pool.countShared
        { free := free, frames := p.frames.insert ref f, usage := usage,
          sharedCount := p.sharedCount, emptyArmed := armed } f.chain.length n)
      own (List.replicate n ref ++ open_) := by
  obtain ⟨notOwn, notOpen⟩ := not_or.1 (List.mem_append.not.1 (h.not_mem fresh))
  have count (r : Nat) : (if r = ref then f.refs else (own ++ open_).count r) =
      (own ++ (List.replicate n ref ++ open_)).count r := by
    rw [List.count_append (l₂ := _ ++ _), List.count_append (l₁ := List.replicate n ref), count_replicate_if, refs]
    split
    · rename_i same
      subst same
      rw [List.count_eq_zero.2 notOwn, List.count_eq_zero.2 notOpen]
      omega
    · rw [List.count_append, Nat.zero_add]
  have apart (r : Nat) (mem : r ∈ own) : r ∉ List.replicate n ref ++ open_ := by
    rw [List.mem_append, not_or]
    refine ⟨fun copies => ?_, h.apart r mem⟩
    rw [List.eq_of_mem_replicate copies] at mem
    exact notOwn mem
  have own_ (r : Nat) (mem : r ∈ own) : (r = ref → f.shared = false) ∧ (r ≠ ref → r ∈ own) :=
    ⟨fun same => absurd (same ▸ mem) notOwn, fun _ => mem⟩
  unfold Pool.countShared
  split
  · rename_i several
    refine h.hold fresh count (refs ▸ one) ?_ h.nodup apart own_
    rw [sharedBlocks_eq (shared.trans (decide_eq_true several))]
  · rename_i single
    refine h.hold fresh count (refs ▸ one) ?_ h.nodup apart own_
    rw [sharedBlocks_unshared (shared.trans (decide_eq_false single)), Nat.add_zero]

/-- The free list, the usage counts and the flag of POOL_EMPTY are not in the agreement. -/
theorem of_frames (h : Refs p own open_) {q : Pool} (frames : q.frames = p.frames)
    (shared : q.sharedCount = p.sharedCount) : Refs q own open_ where
  sorted := frames ▸ h.sorted
  count r := by
    unfold Pool.refsOf
    rw [frames]
    exact h.count r
  held := frames ▸ h.held
  shared := by rw [shared, frames]; exact h.shared
  nodup := h.nodup
  apart := h.apart
  unshared := frames ▸ h.unshared

end Refs

/-- A pool that holds no frame agrees with no reference. -/
theorem refs_allFree : Refs Pool.allFree [] [] := by
  have frames : Pool.allFree.frames = Table.empty := rfl
  refine ⟨?_, fun r => ?_, fun r f hf => ?_, ?_, List.nodup_nil, fun r h => (nomatch h),
    fun r h => nomatch h⟩
  · rw [frames]
    exact Table.sorted_empty
  · unfold Pool.refsOf
    rw [frames]
    rfl
  · rw [frames] at hf
    cases hf
  · rw [frames]
    rfl

end Sys2Proof.Machine

/-! The references that the part holds, with those that an operation has in hand: the reference
agreement of a part in the middle of an event, and the updates that keep it. -/

namespace Sys2Proof.Machine

open Device (Writes)

/- ### Lists that differ in one place -/

set_option Elab.async false in
/-- Two lists put together from parts of which one alone differs. -/
theorem flatMap_exchange {α β : Type} {xs : List α} {f g : α → List β} {a : α} {u v : List β}
    (nodup : xs.Nodup) (mem : a ∈ xs) (others : ∀ b, b ≠ a → g b = f b)
    (here : (g a ++ u).Perm (f a ++ v)) : (xs.flatMap g ++ u).Perm (xs.flatMap f ++ v) := by
  induction xs with
  | nil => cases mem
  | cons x xs ih =>
    obtain ⟨fresh, nodup⟩ := List.nodup_cons.1 nodup
    rw [List.flatMap_cons, List.flatMap_cons, List.append_assoc, List.append_assoc]
    rcases List.mem_cons.1 mem with rfl | later
    · have rest : xs.flatMap g = xs.flatMap f :=
        List.flatMap_congr fun b hb => others b fun same => fresh (same ▸ hb)
      rw [rest]
      have swap (w : List β) : (xs.flatMap f ++ w).Perm (w ++ xs.flatMap f) := List.perm_append_comm
      refine ((swap u).append_left _).trans (.trans ?_ ((swap v).append_left _).symm)
      rw [← List.append_assoc, ← List.append_assoc]
      exact here.append_right _
    · rw [others x fun same => fresh (same ▸ later)]
      exact (ih nodup later).append_left _

/- ### The references of a sequencer -/

/-- The frame that a transaction sends, to which it holds a reference (R132). -/
def InFlight.outputs (r : InFlight) : List Nat :=
  match r.txn with
  | .exchange _ _ _ outputFrame _ _ => outputFrame.toList
  | .deliver _ _ => []
  | .service => []
  | .probe => []

theorem InFlight.references_eq (r : InFlight) : r.references = r.outputs ++ r.received.toList := rfl

/-- The frame that a sequencer's transaction sends. -/
def Sequencer.outputs (q : Sequencer) : List Nat := q.inFlight.toList.flatMap InFlight.outputs

/-- The frame that a sequencer's transaction has received. -/
def Sequencer.receipts (q : Sequencer) : List Nat :=
  q.inFlight.toList.flatMap fun r => r.received.toList

section Sequencer

variable {q q' : Sequencer} {r : InFlight}

theorem Sequencer.outputs_of_core (h : q'.core = q.core) : q'.outputs = q.outputs := by
  unfold Sequencer.outputs
  rw [Sequencer.inFlight_of_core h]

theorem Sequencer.receipts_of_core (h : q'.core = q.core) : q'.receipts = q.receipts := by
  unfold Sequencer.receipts
  rw [Sequencer.inFlight_of_core h]

theorem Sequencer.outputs_idle (h : q.inFlight = none) : q.outputs = [] := by
  unfold Sequencer.outputs
  rw [h]
  rfl

theorem Sequencer.receipts_idle (h : q.inFlight = none) : q.receipts = [] := by
  unfold Sequencer.receipts
  rw [h]
  rfl

theorem Sequencer.outputs_flying (h : q.inFlight = some r) : q.outputs = r.outputs := by
  unfold Sequencer.outputs
  rw [h]
  exact List.append_nil _

theorem Sequencer.receipts_flying (h : q.inFlight = some r) : q.receipts = r.received.toList := by
  unfold Sequencer.receipts
  rw [h]
  exact List.append_nil _

end Sequencer

/- ### The references of the part -/

/-- The branches but one, if one is left out. -/
def branchesBut (m : Option Branch) : List Branch := Branch.all.filter fun k => decide (m ≠ some k)

theorem mem_branchesBut {m : Option Branch} {k : Branch} : k ∈ branchesBut m ↔ m ≠ some k := by
  unfold branchesBut
  rw [List.mem_filter, decide_eq_true_eq]
  exact and_iff_right (by cases k <;> decide)

/-- The frames of the entries of all queues. -/
def Device.queuedFrames (d : Device) : List Nat :=
  Line.all.flatMap fun l => Class.all.flatMap fun c => (d.queue l c).map Entry.frame

/-- The frames that the transactions of the branches but one have received. -/
def Device.receipts (m : Option Branch) (d : Device) : List Nat :=
  (branchesBut m).flatMap fun k => (d.seq k).receipts

/-- The frames that the transactions of the branches but one send. -/
def Device.outputs (m : Option Branch) (d : Device) : List Nat :=
  (branchesBut m).flatMap fun k => (d.seq k).outputs

/-- The frames of the references that others than received frames have, with one branch left out. -/
def Device.shared (m : Option Branch) (d : Device) : List Nat :=
  d.queuedFrames ++ d.slots.cells.map Prod.snd ++ d.outputs m ++ d.trunkHeld

theorem references_perm (d : Device) :
    d.references.Perm (d.receipts none ++ d.shared none) := by
  have all : branchesBut none = Branch.all := by decide
  have flights : (Branch.all.flatMap fun k => (d.seq k).inFlight.toList.flatMap
      InFlight.references).Perm (d.receipts none ++ d.outputs none) := by
    unfold Device.receipts Device.outputs
    rw [all]
    generalize Branch.all = ks
    induction ks with
    | nil => exact .refl _
    | cons k ks ih =>
      simp only [List.flatMap_cons]
      have one : ((d.seq k).inFlight.toList.flatMap InFlight.references).Perm
          ((d.seq k).receipts ++ (d.seq k).outputs) := by
        rcases h : (d.seq k).inFlight with _ | r
        · rw [Sequencer.receipts_idle h, Sequencer.outputs_idle h]
          exact .refl _
        · rw [Sequencer.receipts_flying h, Sequencer.outputs_flying h]
          simp only [Option.toList_some, List.flatMap_cons, List.flatMap_nil, List.append_nil,
            InFlight.references_eq]
          exact List.perm_append_comm
      refine (one.append ih).trans (List.perm_iff_count.2 fun a => ?_)
      simp only [List.count_append]
      omega
  refine List.perm_iff_count.2 fun a => ?_
  have count := flights.count_eq a
  unfold Device.references Device.shared Device.queuedFrames
  simp only [List.count_append] at count ⊢
  omega

/-- The reference agreement of the part when an operation has references in hand: to received frames
of its own, `own`, and to other frames, `hand`. One branch may be left out, whose transaction's
references then count only as far as they are in hand. -/
structure Device.Sound (m : Option Branch) (own hand : List Nat) (d : Device) : Prop where
  refs : Refs d.pool (own ++ d.receipts m) (hand ++ d.shared m)
  pool : d.poolOk
  slots : d.slots.sorted
  txn : ∀ k, m ≠ some k → (d.seq k).txnOk

open Device (Sound)

theorem PoolAgrees.sorted {d : Device} (h : d.poolOk) : d.pool.frames.sorted :=
  ((poolOk_iff d).1 h).frames.sorted

/-- What O60 says of a part is that it is sound with nothing in hand. -/
theorem refsOk_iff {d : Device} (pool : d.poolOk) :
    d.refsOk ↔ Refs d.pool (d.receipts none) (d.shared none) := by
  have sorted := PoolAgrees.sorted pool
  have references := references_perm d
  have receipt (k : Branch) (r : InFlight) (ref : Nat) (hr : (d.seq k).inFlight = some r)
      (hf : r.received = some ref) : ref ∈ d.receipts none := by
    refine List.mem_flatMap.2 ⟨k, mem_branchesBut.2 fun h => (nomatch h), ?_⟩
    rw [Sequencer.receipts_flying hr, hf]
    exact List.mem_singleton.2 rfl
  have flight (ref : Nat) (h : ref ∈ d.receipts none) :
      ∃ k r, (d.seq k).inFlight = some r ∧ r.received = some ref := by
    obtain ⟨k, -, mem⟩ := List.mem_flatMap.1 h
    rcases hr : (d.seq k).inFlight with _ | r
    · rw [Sequencer.receipts_idle hr] at mem
      cases mem
    · rw [Sequencer.receipts_flying hr, Option.mem_toList] at mem
      exact ⟨k, r, hr, mem⟩
  constructor
  · rintro ⟨found, counted, shared, own⟩
    have count (ref : Nat) : d.pool.refsOf ref = d.references.count ref := by
      unfold Pool.refsOf
      rcases hf : d.pool.frames.find? ref with _ | f
      · refine (List.count_eq_zero.2 fun mem => ?_).symm
        have := found ref mem
        unfold Device.frame? at this
        rw [hf] at this
        cases this
      · exact (counted (ref, f) (Table.mem_of_lookup hf)).1
    have alone (ref : Nat) (h : ref ∈ d.receipts none) :
        (d.receipts none ++ d.shared none).count ref = 1 ∧
        ∀ f, d.pool.frames.find? ref = some f → f.shared = false := by
      obtain ⟨k, r, hr, hf⟩ := flight ref h
      have mem : ref ∈ d.references := references.mem_iff.2 (List.mem_append_left _ h)
      obtain ⟨f, held⟩ := Option.isSome_iff_exists.1 (found ref mem)
      obtain ⟨one, unshared⟩ := own k r ref f hr hf held
      refine ⟨?_, fun g hg => ?_⟩
      · rw [← references.count_eq, ← count ref]
        unfold Pool.refsOf
        unfold Device.frame? at held
        rw [held]
        exact one
      · cases held.symm.trans hg
        exact unshared
    refine ⟨sorted, fun ref => (count ref).trans (references.count_eq ref), fun ref f hf =>
      (counted (ref, f) (Table.mem_of_lookup hf)).2, shared, ?_, fun ref h => ?_, fun ref h =>
      (alone ref h).2⟩
    · refine List.nodup_iff_count_le_one.2 fun ref => ?_
      by_cases h : ref ∈ d.receipts none
      · have := (alone ref h).1
        rw [List.count_append] at this
        omega
      · rw [List.count_eq_zero.2 h]
        exact Nat.zero_le 1
    · have total := (alone ref h).1
      have positive := List.count_pos_iff.2 h
      rw [List.count_append] at total
      exact List.count_eq_zero.1 (by omega)
  · intro h
    refine ⟨fun ref mem => ?_, fun c hc => ?_, h.shared, fun k r ref f hr hf held => ?_⟩
    · obtain ⟨f, hf⟩ := h.found (references.mem_iff.1 mem)
      exact Option.isSome_iff_exists.2 ⟨f, hf⟩
    · have hf := Table.find?_of_mem sorted hc
      exact ⟨(h.count_eq hf).trans (references.count_eq c.1).symm, h.held c.1 c.2 hf⟩
    · have mem := receipt k r ref hr hf
      refine ⟨?_, h.unshared ref mem f held⟩
      have one : (d.receipts none).count ref = 1 := List.count_eq_one_of_mem h.nodup mem
      rw [h.count_eq held, List.count_append, one, List.count_eq_zero.2 (h.apart ref mem)]

set_option Elab.async false in
/-- A part in which the three agreements hold is sound with nothing in hand. -/
theorem sound_of_refsOk {d : Device} (pool : d.poolOk) (slots : d.slots.sorted)
    (txn : d.transactionsOk) (refs : d.refsOk) : Sound none [] [] d :=
  ⟨(refsOk_iff pool).1 refs, pool, slots, fun k _ => txn k⟩

theorem Device.Sound.refsOk {d : Device} (h : Sound none [] [] d) : d.refsOk :=
  (refsOk_iff h.pool).2 h.refs

end Sys2Proof.Machine

/-! The updates of the part that keep the reference agreement: one rule for each, over the references
in hand before and after it. -/

namespace Sys2Proof.Machine

open Device (Writes Sound)

/-- Nothing that refers to a frame is listed. -/
abbrev Unreferring (fs : List Field) : Prop :=
  .queued ∉ fs ∧ .slots ∉ fs ∧ .cores ∉ fs ∧ .trunkTx ∉ fs

section Congruence

variable {d d' : Device}

set_option Elab.async false in
theorem queuedFrames_congr (h : ∀ l c, (d'.queue l c).map Entry.frame = (d.queue l c).map Entry.frame) :
    d'.queuedFrames = d.queuedFrames :=
  List.flatMap_congr fun l _ => List.flatMap_congr fun c _ => h l c

theorem outputs_congr {m : Option Branch}
    (h : ∀ k, m ≠ some k → (d'.seq k).outputs = (d.seq k).outputs) : d'.outputs m = d.outputs m :=
  List.flatMap_congr fun k hk => h k (mem_branchesBut.1 hk)

theorem receipts_congr {m : Option Branch}
    (h : ∀ k, m ≠ some k → (d'.seq k).receipts = (d.seq k).receipts) :
    d'.receipts m = d.receipts m :=
  List.flatMap_congr fun k hk => h k (mem_branchesBut.1 hk)

/-- An operation that writes nothing that refers to a frame leaves every reference. -/
theorem references_of_writes {fs : List Field} (w : Writes fs d d') (free : Unreferring fs)
    (m : Option Branch) : d'.receipts m = d.receipts m ∧ d'.shared m = d.shared m := by
  obtain ⟨queued, slots, cores, trunkTx⟩ := free
  refine ⟨receipts_congr fun k _ => Sequencer.receipts_of_core (w.core k cores), ?_⟩
  unfold Device.shared Device.trunkHeld
  rw [queuedFrames_congr fun l c => w.queued l c queued, w.slots slots, w.trunkTx trunkTx,
    outputs_congr fun k _ => Sequencer.outputs_of_core (w.core k cores)]

end Congruence

namespace Device.Sound

variable {m : Option Branch} {own own' hand hand' : List Nat} {d d' : Device} {ref : Nat}

theorem perm (h : Sound m own hand d) (ho : own'.Perm own) (hh : hand'.Perm hand) :
    Sound m own' hand' d :=
  ⟨h.refs.perm (ho.append_right _) (hh.append_right _), h.pool, h.slots, h.txn⟩

/- ### Operations on other fields, and on the pool -/

/-- An operation that writes nothing that refers to a frame, and no frame. -/
theorem framesKept {fs : List Field} (h : Sound m own hand d) (w : Writes fs d d')
    (frames : d'.pool.frames = d.pool.frames) (shared : d'.pool.sharedCount = d.pool.sharedCount)
    (free : Unreferring fs := by decide) : Sound m own hand d' := by
  obtain ⟨receipts, others⟩ := references_of_writes w free m
  refine ⟨?_, w.kept.pool h.pool, w.kept.slots h.slots, fun k hk =>
    Sequencer.txnOk_of_core (w.core k free.2.2.1) (h.txn k hk)⟩
  rw [receipts, others]
  exact h.refs.of_frames frames shared

theorem frame {fs : List Field} (h : Sound m own hand d) (w : Writes fs d d')
    (free : Unreferring fs := by decide) (pool : .pool ∉ fs := by decide) : Sound m own hand d' :=
  h.framesKept w (by rw [w.pool pool]) (by rw [w.pool pool]) free

theorem found (h : Sound m own hand d) (mem : ref ∈ own ∨ ref ∈ hand) :
    ∃ f, d.frame? ref = some f :=
  h.refs.found (mem.elim (fun mem => List.mem_append_left _ (List.mem_append_left _ mem))
    fun mem => List.mem_append_right _ (List.mem_append_left _ mem))

theorem release (h : Sound m own (ref :: hand) d) : Sound m own hand (d.releaseFrame ref) :=
  ⟨h.refs.release, (releaseFrame_writes d ref).kept.pool h.pool, h.slots, h.txn⟩

theorem releaseOwn (h : Sound m (ref :: own) hand d) : Sound m own hand (d.releaseFrame ref) :=
  ⟨h.refs.releaseOwn, (releaseFrame_writes d ref).kept.pool h.pool, h.slots, h.txn⟩

theorem take (h : Sound m own hand d) (mem : ref ∈ d.shared m) :
    Sound m own (ref :: hand) (d.takeFrame ref) :=
  ⟨h.refs.take (List.mem_append_right _ mem), (takeFrame_writes d ref).kept.pool h.pool, h.slots,
    h.txn⟩

/-- A frame is given up early (R64, R88). -/
theorem dropFrame (h : Sound m own (ref :: hand) d) (l : Line) (r : Reason) :
    Sound m own hand (d.dropFrame l ref r) := by
  obtain ⟨f, hf⟩ := h.found (.inr List.mem_cons_self)
  unfold Device.dropFrame
  rw [hf]
  exact (h.frame (countReason_writes ..)).release

/- ### Queues -/

set_option Elab.async false in
theorem setQueue (h : Sound m own hand d) {l : Line} {c : Class} {q : List Entry}
    (p : (q.map Entry.frame ++ hand').Perm ((d.queue l c).map Entry.frame ++ hand)) :
    Sound m own hand' (d.setQueue l c q) := by
  have classes : ((Class.all.flatMap fun b => ((d.setQueue l c q).queue l b).map Entry.frame) ++
      hand').Perm ((Class.all.flatMap fun b => (d.queue l b).map Entry.frame) ++ hand) := by
    refine flatMap_exchange (a := c) (by decide) (by cases c <;> decide) (fun b hb => ?_) ?_
    · unfold Device.queue Device.setQueue Device.egr Device.setEgr
      rw [PerLine.get_set_self]
      dsimp only
      rw [PerClass.get_set_of_ne _ _ hb]
    · have self : (d.setQueue l c q).queue l c = q := by
        unfold Device.queue Device.setQueue Device.egr Device.setEgr
        rw [PerLine.get_set_self]
        exact PerClass.get_set_self ..
      rw [self]
      exact p
  have lines : ((d.setQueue l c q).queuedFrames ++ hand').Perm (d.queuedFrames ++ hand) := by
    refine flatMap_exchange (a := l) (by decide) (by cases l <;> decide) (fun k hk => ?_) classes
    unfold Device.queue Device.setQueue Device.egr Device.setEgr
    rw [PerLine.get_set_of_ne _ _ hk]
  refine ⟨h.refs.perm (.refl _) (List.perm_iff_count.2 fun a => ?_), h.pool, h.slots, h.txn⟩
  have count := lines.count_eq a
  unfold Device.shared
  rw [show (d.setQueue l c q).slots = d.slots from rfl,
    show (d.setQueue l c q).outputs m = d.outputs m from rfl,
    show (d.setQueue l c q).trunkHeld = d.trunkHeld from rfl]
  simp only [List.count_append] at count ⊢
  omega

/- ### Slots -/

theorem eraseSlot (h : Sound m own hand d) {cid : Nat} (hs : d.slots.find? cid = some ref) :
    Sound m own (ref :: hand) { d with slots := d.slots.erase cid } := by
  have cells := (Table.perm_erase_of_some hs h.slots).map Prod.snd
  refine ⟨h.refs.perm (.refl _) (List.perm_iff_count.2 fun a => ?_), h.pool,
    Table.sorted_erase h.slots cid, h.txn⟩
  have count := cells.count_eq a
  show (ref :: hand ++ (d.queuedFrames ++ (d.slots.erase cid).cells.map Prod.snd ++ d.outputs m ++
    d.trunkHeld)).count a = (hand ++ (d.queuedFrames ++ d.slots.cells.map Prod.snd ++ d.outputs m ++
    d.trunkHeld)).count a
  rw [List.map_cons] at count
  simp only [List.cons_append, count_cons_if, List.count_append] at count ⊢
  omega

theorem insertSlot (h : Sound m own (ref :: hand) d) {cid : Nat} (hs : d.slots.find? cid = none) :
    Sound m own hand { d with slots := d.slots.insert cid ref } := by
  have cells := (Table.perm_place_of_none hs ref).map Prod.snd
  refine ⟨h.refs.perm (.refl _) (List.perm_iff_count.2 fun a => ?_), h.pool,
    Table.sorted_insert h.slots cid ref, h.txn⟩
  have count := cells.count_eq a
  show (hand ++ (d.queuedFrames ++ (Table.place d.slots.cells cid ref).map Prod.snd ++ d.outputs m ++
    d.trunkHeld)).count a = (ref :: hand ++ (d.queuedFrames ++ d.slots.cells.map Prod.snd ++
    d.outputs m ++ d.trunkHeld)).count a
  rw [List.map_cons] at count
  simp only [List.cons_append, count_cons_if, List.count_append] at count ⊢
  omega

/-- A slot's frame is given up early (R90). -/
theorem dropSlot (h : Sound m own hand d) {cid : Nat} (hs : d.slots.find? cid = some ref) (l : Line)
    (r : Reason) : Sound m own hand (dropSlot l r d (cid, ref)) :=
  (h.eraseSlot hs).dropFrame l r

/- ### The Trunk Transmitter -/

theorem setTrunkTx (h : Sound m own hand d) {x : Option TrunkSending}
    (p : (Device.trunkHeld { d with trunkTx := x } ++ hand').Perm (d.trunkHeld ++ hand)) :
    Sound m own hand' { d with trunkTx := x } := by
  refine ⟨h.refs.perm (.refl _) (List.perm_iff_count.2 fun a => ?_), h.pool, h.slots, h.txn⟩
  have count := p.count_eq a
  show (hand' ++ (d.queuedFrames ++ d.slots.cells.map Prod.snd ++ d.outputs m ++
    Device.trunkHeld { d with trunkTx := x })).count a = (hand ++ (d.queuedFrames ++
    d.slots.cells.map Prod.snd ++ d.outputs m ++ d.trunkHeld)).count a
  simp only [List.count_append] at count ⊢
  omega

/- ### Sequencers -/

/-- A write of a sequencer whose transaction refers to the same frames, or is left out. -/
theorem setSeq (h : Sound m own hand d) {k : Branch} {q : Sequencer}
    (same : m ≠ some k → q.receipts = (d.seq k).receipts ∧ q.outputs = (d.seq k).outputs)
    (txn : m ≠ some k → q.txnOk) : Sound m own hand (d.setSeq k q) := by
  have each (j : Branch) (hj : m ≠ some j) :
      ((d.setSeq k q).seq j).receipts = (d.seq j).receipts ∧
        ((d.setSeq k q).seq j).outputs = (d.seq j).outputs ∧ ((d.setSeq k q).seq j).txnOk := by
    rw [seq_setSeq]
    split
    · rename_i here
      subst here
      exact ⟨(same hj).1, (same hj).2, txn hj⟩
    · exact ⟨rfl, rfl, h.txn j hj⟩
  refine ⟨?_, h.pool, h.slots, fun j hj => (each j hj).2.2⟩
  have receipts := receipts_congr (d := d) (d' := d.setSeq k q) fun j hj => (each j hj).1
  have outputs := outputs_congr (d := d) (d' := d.setSeq k q) fun j hj => (each j hj).2.1
  unfold Device.shared
  rw [receipts, outputs]
  exact h.refs

/-- The lists of one branch and of the others. -/
theorem flying_perm (g : Sequencer → List Nat) (d : Device) (k : Branch) :
    ((branchesBut none).flatMap fun j => g (d.seq j)).Perm
      (g (d.seq k) ++ (branchesBut (some k)).flatMap fun j => g (d.seq j)) := by
  have cells : (branchesBut none).Perm (k :: branchesBut (some k)) := by cases k <;> decide
  exact cells.flatMap_right _

/-- One branch is left out: its transaction's references are in hand. -/
theorem leaveOut (h : Sound none own hand d) (k : Branch) :
    Sound (some k) ((d.seq k).receipts ++ own) ((d.seq k).outputs ++ hand) d := by
  refine ⟨h.refs.perm ?_ ?_, h.pool, h.slots, fun j _ => h.txn j fun e => (nomatch e)⟩
  · refine List.perm_iff_count.2 fun a => ?_
    have count := (flying_perm Sequencer.receipts d k).count_eq a
    unfold Device.receipts
    simp only [List.count_append] at count ⊢
    omega
  · refine List.perm_iff_count.2 fun a => ?_
    have count := (flying_perm Sequencer.outputs d k).count_eq a
    unfold Device.shared Device.outputs
    simp only [List.count_append] at count ⊢
    omega

/-- The branch that was left out has the references in hand. -/
theorem takeIn {k : Branch} (h : Sound (some k) own' hand' d)
    (receipts : own'.Perm ((d.seq k).receipts ++ own))
    (outputs : hand'.Perm ((d.seq k).outputs ++ hand)) (txn : (d.seq k).txnOk) :
    Sound none own hand d := by
  refine ⟨h.refs.perm ?_ ?_, h.pool, h.slots, fun j _ => ?_⟩
  · refine List.perm_iff_count.2 fun a => ?_
    have count := (flying_perm Sequencer.receipts d k).count_eq a
    have inHand := receipts.count_eq a
    unfold Device.receipts
    simp only [List.count_append] at count inHand ⊢
    omega
  · refine List.perm_iff_count.2 fun a => ?_
    have count := (flying_perm Sequencer.outputs d k).count_eq a
    have inHand := outputs.count_eq a
    unfold Device.shared Device.outputs
    simp only [List.count_append] at count inHand ⊢
    omega
  · by_cases same : j = k
    · subst same
      exact txn
    · exact h.txn j fun e => same (Option.some.inj e).symm

/-- A branch with nothing in flight has no references, left out or not. -/
theorem takeIn_idle {k : Branch} (h : Sound (some k) own hand d) (idle : (d.seq k).inFlight = none) :
    Sound none own hand d := by
  refine h.takeIn ?_ ?_ (Sequencer.txnOk_of_idle idle)
  · rw [Sequencer.receipts_idle idle]
    exact .refl _
  · rw [Sequencer.outputs_idle idle]
    exact .refl _

/-- The branch that was left out may be written freely. -/
theorem setSeq_out {k : Branch} (h : Sound (some k) own hand d) (q : Sequencer) :
    Sound (some k) own hand (d.setSeq k q) :=
  h.setSeq (fun e => absurd rfl e) fun e => absurd rfl e

/- ### Folds -/

theorem foldl {α : Type} {f : Device → α → Device} (h : Sound m own hand d)
    (step : ∀ d x, Sound m own hand d → Sound m own hand (f d x)) (xs : List α) :
    Sound m own hand (xs.foldl f d) :=
  List.foldlRecOn (motive := Sound m own hand) xs f h fun d h x _ => step d x h

end Device.Sound

end Sys2Proof.Machine

/-! The reference agreement: the Trunk Transmitter, what is given up, and the starts of
transactions. -/

namespace Sys2Proof.Machine

open Device (Writes Sound)

variable {m : Option Branch} {own hand : List Nat} {d : Device}

/- ### The Trunk Transmitter (R98, R99) -/

set_option Elab.async false in
theorem trunkHeld_idle (idle : d.trunkTx = none) : d.trunkHeld = [] := by
  unfold Device.trunkHeld
  rw [idle]
  rfl

theorem startTrunkFrame_sound (cid ref : Nat) (h : Sound m own (ref :: hand) d)
    (idle : d.trunkTx = none) : Sound m own hand (startTrunkFrame cid ref d) := by
  refine h.setTrunkTx ?_
  rw [trunkHeld_idle idle]
  exact .refl _

theorem startRecord_sound (h : Sound m own hand d) (idle : d.trunkTx = none) :
    Sound m own hand (startRecord d) := by
  unfold startRecord
  split
  · rename_i r _ _
    have sent : Sound m own hand { d with
        trunkTx := some
          { holds := .record r.isRestart, wire := trunkData Config.managementCid 0 r.bytes } } :=
      h.setTrunkTx (by
        rw [trunkHeld_idle idle]
        exact .refl _)
    exact sent.frame (endpoint_writes _ { d.endpoint with slot := none } id id)
  · exact h

/-- The slot that is listed first for a line is the one of its CID (R89). -/
theorem find?_of_mem_slotsAt (h : d.slots.sorted) {l : Line} {c : Nat × Nat} (hc : c ∈ d.slotsAt l) :
    d.slots.find? c.1 = some c.2 :=
  Table.find?_of_mem h (List.mem_filter.1 hc).1

theorem trunkSelect_sound (h : Sound m own hand d) (idle : d.trunkTx = none) :
    Sound m own hand (trunkSelect d) := by
  unfold trunkSelect
  split
  · rename_i c credits _
    have credited := h.frame (setCredits_writes d .t credits)
    unfold startTrunkClass
    split
    · exact credited
    · rename_i e es head
      have taken := credited.setQueue (l := .t) (c := c) (q := es) (hand' := e.frame :: hand) (by
        rw [head]
        exact List.perm_middle)
      exact startTrunkFrame_sound _ _ (taken.frame (setHold_writes ..)) (by
        rw [(setHold_writes ..).trunkTx]
        exact idle)
  · exact h

theorem trunkChoose_sound (h : Sound m own hand d) : Sound m own hand (trunkChoose d) := by
  unfold trunkChoose
  split
  · exact h
  · rename_i idle _
    exact startRecord_sound h idle
  · rename_i idle _
    split
    · split
      · rename_i cid ref rest first
        have found := find?_of_mem_slotsAt h.slots (first ▸ List.mem_cons_self)
        exact startTrunkFrame_sound _ _ (h.eraseSlot found) idle
      · exact trunkSelect_sound h idle
    · exact h

/- ### What is given up (R15, R19, R69, R101) -/

/-- Entries that have left their queue are given up one after another. -/
theorem dropFrames_sound (l : Line) (r : Reason) (es : List Entry)
    (h : Sound m own (es.map Entry.frame ++ hand) d) :
    Sound m own hand (es.foldl (fun d e => d.dropFrame l e.frame r) d) := by
  induction es generalizing d with
  | nil => exact h
  | cons e es ih => exact ih (h.dropFrame l r)

theorem flushQueue_sound (h : Sound m own hand d) (l : Line) (c : Class) :
    Sound m own hand (flushQueue l d c) :=
  dropFrames_sound l .flushed _ (h.setQueue (.refl _))

theorem flushQueues_sound (h : Sound m own hand d) (l : Line) :
    Sound m own hand (flushQueues l d) :=
  h.foldl (fun _ c h => flushQueue_sound h l c) _

theorem dropSlot_slots (l : Line) (r : Reason) (d : Device) (s : Nat × Nat) :
    (dropSlot l r d s).slots = d.slots.erase s.1 :=
  (dropFrame_writes { d with slots := d.slots.erase s.1 } l s.2 r).slots

/-- Slots of different circuits are given up one after another. -/
theorem dropSlots_sound (l : Line) (r : Reason) {xs : List (Nat × Nat)}
    (apart : (xs.map Prod.fst).Nodup) (found : ∀ c ∈ xs, d.slots.find? c.1 = some c.2)
    (h : Sound m own hand d) : Sound m own hand (xs.foldl (dropSlot l r) d) := by
  induction xs generalizing d with
  | nil => exact h
  | cons x xs ih =>
    obtain ⟨fresh, apart⟩ := List.nodup_cons.1 apart
    refine ih apart (fun c hc => ?_) (h.dropSlot (found x List.mem_cons_self) l r)
    rw [dropSlot_slots, Table.find?_erase_of_ne _ fun same : c.1 = x.1 =>
      fresh (List.mem_map.2 ⟨c, hc, same⟩)]
    exact found c (List.mem_cons_of_mem x hc)

/-- Some of the slots of a line are given up. -/
theorem dropSlotsAt_sound (h : Sound m own hand d) (l l' : Line) (r : Reason)
    (p : Nat × Nat → Bool) : Sound m own hand (((d.slotsAt l).filter p).foldl (dropSlot l' r) d) := by
  have keys : (d.slots.cells.map Prod.fst).Nodup :=
    List.Pairwise.imp (fun less => Nat.ne_of_lt less) h.slots
  refine dropSlots_sound l' r ?_ (fun c hc => find?_of_mem_slotsAt h.slots (List.mem_filter.1 hc).1) h
  exact (keys.sublist ((List.filter_sublist (p := p)).map Prod.fst |>.trans
    (List.filter_sublist.map Prod.fst)))

set_option Elab.async false in
theorem discardLate_sound (h : Sound m own hand d) : Sound m own hand (discardLate d) :=
  dropSlotsAt_sound h ..

theorem flushSlots_sound (h : Sound m own hand d) (l : Line) :
    Sound m own hand (flushSlots l d) := by
  have all := dropSlotsAt_sound h l l .flushed fun _ => true
  rw [List.filter_true] at all
  exact all

theorem flushTrunk_sound (h : Sound m own hand d) : Sound m own hand (flushTrunk d) :=
  flushSlots_sound (flushQueues_sound h .t) .t

theorem abandonContexts_frames (reason : LineCounter) (xs : List Context) (d : Device) :
    (xs.foldl (abandonContext reason) d).pool.frames = d.pool.frames ∧
      (xs.foldl (abandonContext reason) d).pool.sharedCount = d.pool.sharedCount :=
  List.foldlRecOn (motive := fun x : Device => x.pool.frames = d.pool.frames ∧
    x.pool.sharedCount = d.pool.sharedCount) xs _ ⟨rfl, rfl⟩ fun _ h _ _ => h

theorem abandonContexts_sound (h : Sound m own hand d) (reason : LineCounter) (p : Context → Bool) :
    Sound m own hand ((d.contexts.filter p).foldl (abandonContext reason) d) :=
  have frames := abandonContexts_frames reason (d.contexts.filter p) d
  h.framesKept (abandonContexts_writes d reason p) frames.1 frames.2

theorem abandonContext_sound (h : Sound m own hand d) (reason : LineCounter) {c : Context}
    (hc : c ∈ d.contexts) : Sound m own hand (abandonContext reason d c) :=
  h.framesKept (abandonContext_writes d reason hc) rfl rfl

/- ### Starts of transactions -/

variable {k : Branch}

theorem startAttempt_eq (k : Branch) (r : InFlight) (d : Device) : ∃ starts ends wire,
    startAttempt k r d = d.setSeq k { d.seq k with
      inFlight := some { r with replyWait := none },
      sending := some { role := .request, starts := starts, ends := ends, wire := wire } } := by
  unfold startAttempt sendBranch
  simp only [seq_setSeq_self]
  simp only [Device.setSeq, PerBranch.set_set]
  exact ⟨_, _, _, rfl⟩

/-- An attempt that refers to no frame starts on a branch with nothing in flight. -/
theorem startAttempt_plain (h : Sound m own hand d) {r : InFlight} (outputs : r.outputs = [])
    (received : r.received = none) (idle : m ≠ some k → (d.seq k).inFlight = none)
    (active : (d.seq k).active) : Sound m own hand (startAttempt k r d) := by
  obtain ⟨starts, ends, wire, eq⟩ := startAttempt_eq k r d
  have seq := startAttempt_txnOk d k received active
  rw [eq] at seq ⊢
  rw [seq_setSeq_self] at seq
  refine h.setSeq (fun hk => ⟨?_, ?_⟩) fun _ => seq
  · rw [Sequencer.receipts_idle (idle hk), Sequencer.receipts_flying rfl]
    exact congrArg Option.toList received
  · rw [Sequencer.outputs_idle (idle hk), Sequencer.outputs_flying rfl]
    exact outputs

/-- An attempt starts on a branch that was left out; what it refers to was in hand. -/
theorem startAttempt_takeIn {r : InFlight} {own' hand' : List Nat} (h : Sound (some k) own' hand' d)
    (ownHand : own' = r.received.toList ++ own) (outputs : hand' = r.outputs ++ hand)
    (txn : ((startAttempt k r d).seq k).txnOk) : Sound none own hand (startAttempt k r d) := by
  obtain ⟨starts, ends, wire, eq⟩ := startAttempt_eq k r d
  rw [eq] at txn ⊢
  refine (h.setSeq_out _).takeIn ?_ ?_ txn
  · rw [seq_setSeq_self, Sequencer.receipts_flying rfl, ownHand]
  · rw [seq_setSeq_self, Sequencer.outputs_flying rfl, outputs]
    exact .refl _

/-- An EXCHANGE starts: it takes its own reference on the slot's frame (R132). -/
theorem startExchange_sound (h : Sound none own hand d) (idle : (d.seq k).inFlight = none)
    (active : (d.seq k).active) (e : Element) : Sound none own hand (startExchange k e d) := by
  have txn := (startExchange_only d k e).2 active
  unfold startExchange at txn ⊢
  dsimp only at txn ⊢
  have out (ref : Option Nat) {d' : Device} (h : Sound none own (ref.toList ++ hand) d')
      (idle : (d'.seq k).inFlight = none) : Sound (some k) own (ref.toList ++ hand) d' := by
    have left := h.leaveOut k
    rw [Sequencer.receipts_idle idle, Sequencer.outputs_idle idle] at left
    exact left
  split
  · rename_i ref found
    rw [found] at txn
    have mem : ref ∈ d.shared none := by
      unfold Device.outputFrame at found
      obtain ⟨cid, -, slot⟩ := Option.bind_eq_some_iff.1 found
      unfold Device.shared
      simp only [List.mem_append]
      exact .inl (.inl (.inr (List.mem_map.2 ⟨(cid, ref), Table.mem_of_lookup slot, rfl⟩)))
    rw [found]
    exact startAttempt_takeIn (out (some ref) (h.take mem) idle) rfl rfl txn
  · rename_i found
    rw [found] at txn
    rw [found]
    exact startAttempt_takeIn (out none h idle) rfl rfl txn

theorem removeHead_sound (h : Sound m own hand d) {c : Class} {e : Entry} {es : List Entry}
    (head : d.queue k.line c = e :: es) : Sound m own (e.frame :: hand) (removeHead k c es d) := by
  have taken := h.setQueue (l := k.line) (c := c) (q := es) (hand' := e.frame :: hand) (by
    rw [head]
    exact List.perm_middle)
  unfold removeHead
  dsimp only
  split
  · exact taken.frame (setSeq_core_writes _ rfl)
  · exact taken

theorem removeHead_queue (k : Branch) (c : Class) (es : List Entry) (d : Device) :
    (removeHead k c es d).queue k.line c = es := by
  have queue : (d.setQueue k.line c es).queue k.line c = es := by
    unfold Device.queue Device.setQueue Device.egr Device.setEgr
    rw [PerLine.get_set_self]
    exact PerClass.get_set_self ..
  unfold removeHead
  dsimp only
  split
  · exact queue
  · exact queue

set_option Elab.async false in
theorem sweepQueue_sound (h : Sound m own hand d) {c : Class} {q : List Entry}
    (queue : d.queue k.line c = q) : Sound m own hand (sweepQueue k c q d) := by
  induction q generalizing d with
  | nil => exact h
  | cons e es ih =>
    unfold sweepQueue
    split
    · exact h
    · refine ih ((removeHead_sound h queue).dropFrame ..) ?_
      unfold Device.queue Device.egr
      rw [(dropFrame_writes ..).egress]
      exact removeHead_queue k c es d

theorem sweep_sound (h : Sound m own hand d) (k : Branch) : Sound m own hand (sweep k d) := by
  refine h.foldl (fun d c h => ?_) _
  unfold sweepClass
  split
  · exact sweepQueue_sound h rfl
  · exact h

section Starts

variable (idle : m ≠ some k → (d.seq k).inFlight = none)

include idle

theorem startPick_sound (h : Sound m own hand d) (active : (d.seq k).active) (s : Source) :
    Sound m own hand (startPick k s d) := by
  cases s with
  | cls c =>
    unfold startPick startDeliver
    dsimp only
    split
    · exact h
    · have held := setHold_writes d k.line c
      refine startAttempt_plain (h.frame (held _)) rfl rfl (fun hk => ?_) ?_
      · exact (Sequencer.inFlight_of_core ((held _).core k)).trans (idle hk)
      · exact Sequencer.active_of_core ((held _).core k) active
  | service =>
    unfold startPick startService
    dsimp only
    split
    · exact h
    · rename_i s _
      have marked : Writes [.stations, .seqs] d ((markServiced k s d).setSeq k
          { (markServiced k s d).seq k with lastServiced := s }) :=
        ((markServiced_writes ..).mono).andThen (setSeq_core_writes _ rfl)
      refine startAttempt_plain (h.frame marked) rfl rfl (fun hk => ?_) ?_
      · exact (Sequencer.inFlight_of_core (marked.core k)).trans (idle hk)
      · exact Sequencer.active_of_core (marked.core k) active

theorem setSeqState_sound (h : Sound m own hand d) (st : SeqState) :
    Sound m own hand (setSeqState k st d) :=
  h.setSeq (fun _ => ⟨rfl, rfl⟩) fun hk => Sequencer.txnOk_of_idle (idle hk)

theorem selectBranch_sound (h : Sound m own hand d) : Sound m own hand (selectBranch k d) := by
  have swept := sweep_writes d k
  have idle' (hk : m ≠ some k) : ((sweep k d).seq k).inFlight = none :=
    (Sequencer.inFlight_of_core (swept.core k)).trans (idle hk)
  unfold selectBranch
  dsimp only
  split
  · exact setSeqState_sound idle' (sweep_sound h k) .done
  · rename_i s credits _
    have credited := (sweep_sound h k).frame (setCredits_writes _ k.line credits)
    refine startPick_sound (fun hk => ?_) (setSeqState_sound
      (d := (sweep k d).setCredits k.line credits) idle' credited .aperiodic) ?_ s
    · rw [setSeqState_seq]
      exact idle' hk
    · rw [setSeqState_seq]
      exact ⟨(fun h => nomatch h), fun h => nomatch h⟩

theorem aperiodicStep_sound (h : Sound m own hand d) : Sound m own hand (aperiodicStep k d) := by
  have free := setSeqState_sound idle h .aperiodic
  have idle' (hk : m ≠ some k) : ((setSeqState k .aperiodic d).seq k).inFlight = none := by
    rw [setSeqState_seq]
    exact idle hk
  unfold aperiodicStep
  dsimp only
  split
  · exact selectBranch_sound idle' free
  · rename_i s _
    split
    · have marked := markServiced_writes (setSeqState k .aperiodic d) k s
      refine startAttempt_plain (free.frame marked) rfl rfl (fun hk => ?_) ?_
      · exact (Sequencer.inFlight_of_core (marked.core k)).trans (idle' hk)
      · refine Sequencer.active_of_core (marked.core k) ?_
        rw [setSeqState_seq]
        exact ⟨(fun h => nomatch h), fun h => nomatch h⟩
    · exact selectBranch_sound idle' free

theorem sendBranch_sound (h : Sound m own hand d) (role : TxRole) (f : BranchFrame) :
    Sound m own hand (sendBranch k role f d) :=
  h.setSeq (fun _ => ⟨rfl, rfl⟩) fun hk => Sequencer.txnOk_of_idle (idle hk)

theorem beginCycle_sound (h : Sound m own hand d) (cycle : Cycle) (deadline : Nat) :
    Sound m own hand (beginCycle k cycle deadline d) := by
  have cleared := ((Writes.foldl (fun d e => missElement_writes d k e) (d.pendingElements k)
    d).mono (fs := [.seqs, .lines, .stations])).andThen (clearServiced_writes _ k)
  have kept := Sequencer.inFlight_of_core (cleared.core k)
  have calm := h.frame cleared
  unfold beginCycle
  dsimp only
  generalize clearServiced k ((d.pendingElements k).foldl (missElement k) d) = x at kept calm ⊢
  have free (hk : m ≠ some k) := kept.trans (idle hk)
  refine sendBranch_sound (fun hk => ?_) ?_ _ _
  · refine (Sequencer.inFlight_of_core ((bumpLine_writes ..).core k)).trans ?_
    exact (congrArg Sequencer.inFlight (seq_setSeq_self ..)).trans (free hk)
  · refine Sound.frame ?_ (bumpLine_writes ..)
    exact calm.setSeq (fun _ => ⟨rfl, rfl⟩) fun hk => Sequencer.txnOk_of_idle (free hk)

end Starts

theorem periodicStep_sound (es : List Element) (h : Sound none own hand d)
    (idle : (d.seq k).inFlight = none) (active : (d.seq k).active) :
    Sound none own hand (periodicStep k es d) := by
  induction es generalizing d with
  | nil => exact aperiodicStep_sound (fun _ => idle) h
  | cons e es ih =>
    have later {fs : List Field} {d' : Device} (w : Writes fs d d') (free : Unreferring fs)
        (pool : .pool ∉ fs) : Sound none own hand (periodicStep k es d') :=
      ih (h.frame w free pool) ((Sequencer.inFlight_of_core (w.core k free.2.2.1)).trans idle)
        (Sequencer.active_of_core (w.core k free.2.2.1) active)
    unfold periodicStep
    split
    · exact later (skipElement_writes d k e) (by decide) (by decide)
    · split
      · exact later (missElement_writes d k e) (by decide) (by decide)
      · exact startExchange_sound h idle active e

theorem wakeBranch_sound (h : Sound m own hand d) (k : Branch) :
    Sound m own hand (wakeBranch k d) := by
  unfold wakeBranch
  split
  · rename_i woken
    exact selectBranch_sound (fun hk => (h.txn k hk).1 (.inr woken.2)) h
  · exact h

theorem notice_sound (h : Sound m own hand d) (l : Line) : Sound m own hand (notice d l) := by
  unfold notice
  split
  · exact h
  · exact wakeBranch_sound h _

/-- A branch with nothing in flight becomes SHUT and is flushed (R19). -/
theorem shutBranch_sound (h : Sound m own hand d) (idle : (d.seq k).inFlight = none) :
    Sound m own hand (shutBranch k d) := by
  have flushed := (flushQueues_writes (d.setAdmission k .shut) k.line).mono
    (fs := [.lines, .circuitCounters, .pool, .egress, .queued, .slots, .contexts]) |>.andThen
    (flushSlots_writes _ k.line) |>.andThen (flushContexts_writes _ k)
  have given := abandonContexts_sound (flushSlots_sound (flushQueues_sound
    (h.frame (setAdmission_writes d k .shut)) k.line) k.line) .contextFlushed fun c => c.branch == k
  unfold shutBranch
  dsimp only
  refine Sound.frame (Sound.frame (Sound.frame ?_ (resetCredits_writes ..))
    (cancelReleases_writes ..)) (markResyncAll_writes ..)
  have still := (Sequencer.inFlight_of_core (flushed.core k)).trans idle
  refine given.setSeq (fun _ => ?_) fun _ => Sequencer.txnOk_of_idle rfl
  exact ⟨(Sequencer.receipts_idle rfl).trans (Sequencer.receipts_idle still).symm,
    (Sequencer.outputs_idle rfl).trans (Sequencer.outputs_idle still).symm⟩

end Sys2Proof.Machine

/-! The reference agreement: claims, classification, and reassembly. -/

namespace Sys2Proof.Machine

open Device (Writes Sound)

variable {m : Option Branch} {own hand : List Nat} {d : Device}

/- ### Claims (R57, R60 to R62) -/

set_option Elab.async false in
theorem considerPoolEmpty_frames (l : Line) (station : Option Nat) (n : Nat) (d : Device) :
    (considerPoolEmpty l station n d).pool.frames = d.pool.frames ∧
      (considerPoolEmpty l station n d).pool.sharedCount = d.pool.sharedCount := by
  unfold considerPoolEmpty
  split
  · rw [(raiseEvent_writes ..).pool]
    exact ⟨rfl, rfl⟩
  · exact ⟨rfl, rfl⟩

theorem considerPoolEmpty_sound (h : Sound m own hand d) (l : Line) (station : Option Nat) (n : Nat) :
    Sound m own hand (considerPoolEmpty l station n d) :=
  have frames := considerPoolEmpty_frames l station n d
  h.framesKept (considerPoolEmpty_writes ..) frames.1 frames.2

/-- The name that a claim gives a frame is the first free block's number, which names none yet. -/
theorem find?_first (pool : d.poolOk) (room : 1 ≤ d.pool.free.length) :
    d.pool.frames.find? (d.pool.free.headD 0) = none := by
  refine ((poolOk_iff d).1 pool).find?_free ?_
  obtain ⟨i, is, free⟩ := List.exists_cons_of_length_pos room
  rw [free]
  exact List.mem_cons_self

/-- The frame of a single-block receipt is held by its transaction alone (R61). -/
theorem storeReceipt_sound (h : Sound m own hand d) (k : Branch) (f : BranchFrame)
    (room : 1 ≤ d.pool.free.length) :
    Sound m (d.pool.free.head?.toList ++ own) hand (storeReceipt k f d) := by
  have name : (d.blockFor f.payload).number = d.pool.free.headD 0 ∧
      d.pool.free.head?.toList = [d.pool.free.headD 0] := by
    have number := blockFor_number d f.payload room
    obtain ⟨i, is, free⟩ := List.exists_cons_of_length_pos room
    rw [free] at number ⊢
    exact ⟨List.head_eq_of_cons_eq number, rfl⟩
  unfold storeReceipt
  dsimp only
  refine considerPoolEmpty_sound ?_ ..
  refine ⟨?_, (pool_writes d _ fun ok => ok.charge_hold (f := receivedFrame k f (d.blockFor f.payload))
    (Nat.le_refl 1) room (blockFor_number d f.payload room)).kept.pool h.pool, h.slots, h.txn⟩
  have held := h.refs.holdOwn (ref := (d.blockFor f.payload).number)
    (f := receivedFrame k f (d.blockFor f.payload)) (name.1 ▸ find?_first h.pool room) rfl rfl
    (free := d.pool.free.drop 1) (usage := d.pool.usage.set k.line (d.pool.usage.get k.line + 1))
    (armed := d.pool.emptyArmed)
  rw [name.2, ← name.1]
  exact held

section Accepted

variable (d : Device) (a : Arriving) (c : Circuit) (payload : List Byte) (n : Nat)

theorem acceptedFrame_numbers : (d.acceptedFrame a c payload n).chain.map Block.number =
    d.pool.free.take (blocksFor a.length) :=
  (blocksGiven_numbers ..).trans
    (congrArg (d.pool.free.take ·) (pieces_length (blocksFor a.length) payload))

variable {d a} (room : blocksFor a.length ≤ d.pool.free.length)

include room

theorem acceptedFrame_length : (d.acceptedFrame a c payload n).chain.length = blocksFor a.length := by
  rw [← List.length_map (f := Block.number), acceptedFrame_numbers, List.length_take,
    Nat.min_eq_left room]

/-- A trunk frame's name is the number of the first free block (log 17). -/
theorem acceptedFrame_name : ((d.acceptedFrame a c payload n).chain.headD ⟨0, []⟩).number =
    d.pool.free.headD 0 := by
  have some : 1 ≤ blocksFor a.length := Nat.le_max_left ..
  have numbers := acceptedFrame_numbers d a c payload n
  obtain ⟨i, is, free⟩ := List.exists_cons_of_length_pos (some.trans room)
  obtain ⟨b, bs, chain⟩ := List.exists_cons_of_length_pos
    (some.trans (Nat.le_of_eq (acceptedFrame_length c payload n room).symm))
  rw [chain, free] at numbers
  rw [chain, free]
  obtain ⟨n', eq⟩ := Nat.exists_eq_add_of_le' some
  rw [eq, List.take_succ_cons] at numbers
  exact List.head_eq_of_cons_eq numbers

end Accepted

/-- A trunk frame is held under the name by which it is placed (R41, R60). -/
theorem claimTrunk_sound (h : Sound m own hand d) (a : Arriving) (c : Circuit) (payload : List Byte)
    {n : Nat} (one : 1 ≤ n) (room : blocksFor a.length ≤ d.pool.free.length) :
    Sound m own (List.replicate n (d.pool.free.headD 0) ++ hand) (claimTrunk a c payload n d) := by
  have some : 1 ≤ blocksFor a.length := Nat.le_max_left ..
  have chainLength := acceptedFrame_length c payload n room
  unfold claimTrunk
  dsimp only
  refine considerPoolEmpty_sound ?_ ..
  refine ⟨?_, (pool_writes d _ fun ok => (ok.charge_hold (f := d.acceptedFrame a c payload n) some
    room (acceptedFrame_numbers ..)).countShared ..).kept.pool h.pool, h.slots, h.txn⟩
  have held := h.refs.holdOpen (ref := d.pool.free.headD 0) (f := d.acceptedFrame a c payload n)
    (find?_first h.pool (some.trans room)) one rfl rfl (free := d.pool.free.drop (blocksFor a.length))
    (usage := d.pool.usage.set .t (d.pool.usage.get .t + blocksFor a.length))
    (armed := d.pool.emptyArmed)
  rw [List.append_assoc]
  unfold Pool.hold
  rw [acceptedFrame_name c payload n room]
  rw [chainLength] at held
  exact held

theorem completeDescriptor_sound {ref : Nat} (h : Sound m (ref :: own) hand d) (c : Circuit) {n : Nat}
    (one : 1 ≤ n) :
    Sound m own (List.replicate n ref ++ hand) (completeDescriptor ref c n d) := by
  have writes := completeDescriptor_writes d ref c n
  obtain ⟨f, found⟩ := h.found (.inl List.mem_cons_self)
  unfold completeDescriptor at writes ⊢
  rw [found] at writes ⊢
  refine ⟨?_, writes.kept.pool h.pool, h.slots, h.txn⟩
  rw [List.append_assoc]
  exact h.refs.publish found one (d.fillCycleOf c)

/-- The received frame that a hand-over brings, of which it has the one reference (R31, R59). -/
def Origin.held : Origin → List Nat
  | .trunk _ => []
  | .exchange _ _ _ ref => [ref]
  | .service _ _ ref => [ref]

theorem settleBlocks_sound {a : Arriving} (h : Sound m (a.origin.held ++ own) hand d) (c : Circuit)
    {n : Nat} (one : 1 ≤ n) (room : d.hasRoom a) :
    Sound m own (List.replicate n (d.placedRef a.origin) ++ hand) (settleBlocks a c n d) := by
  unfold settleBlocks Device.placedRef
  split
  · rename_i payload origin
    rw [origin] at h
    exact claimTrunk_sound h a c payload one (room payload origin)
  · rename_i ref origin
    rw [origin] at h
    exact completeDescriptor_sound h c one
  · rename_i ref origin
    rw [origin] at h
    exact completeDescriptor_sound h c one

/- ### Classification (R33 to R43) -/

theorem discardArriving_sound {a : Arriving} (h : Sound m (a.origin.held ++ own) hand d)
    (r : Reason) : Sound m own hand (discardArriving a r d) := by
  have counted := h.frame (countReason_writes d a.origin.line a.cid r)
  unfold discardArriving
  dsimp only
  generalize d.countReason a.origin.line a.cid r = x at counted ⊢
  split
  · rename_i origin
    rw [origin] at counted
    exact counted
  · rename_i origin
    rw [origin] at counted
    exact counted.releaseOwn
  · rename_i origin
    rw [origin] at counted
    exact counted.releaseOwn

theorem placeAperiodic_sound (c : Circuit) (cid : Nat) {ref : Nat} (q : Class) (lines : List Line)
    (h : Sound m own (List.replicate lines.length ref ++ hand) d) :
    Sound m own hand (placeAperiodic c cid ref q lines d) := by
  have queued : Sound m own hand (lines.foldl (enqueue c cid ref q) d) := by
    induction lines generalizing d with
    | nil => exact h
    | cons l ls ih =>
      refine ih (h.setQueue ?_)
      rw [List.map_append, List.append_assoc]
      exact .refl _
  exact queued.foldl (fun _ l h => notice_sound h l) lines

set_option Elab.async false in
theorem placePeriodic_sound {ref : Nat} (h : Sound m own (ref :: hand) d) (cid : Nat) (l : Line) :
    Sound m own hand (placePeriodic cid ref l d) := by
  unfold placePeriodic
  dsimp only
  split
  · rename_i old found
    refine (h.dropSlot found l .superseded).insertSlot ?_
    rw [dropSlot_slots]
    exact Table.find?_erase_self ..
  · rename_i free
    exact h.insertSlot free

/-- What a frame needs to be accepted: room, a line to be placed on, and one alone where its circuit is
PERIODIC (R24, R36, R37). -/
structure Device.Placeable (d : Device) (a : Arriving) (c : Circuit) : Prop where
  room : d.hasRoom a
  some : d.reducedSet c ≠ []
  periodic : c.kind = .periodic → (d.reducedSet c).length = 1

theorem acceptFrame_sound {a : Arriving} {c : Circuit} (h : Sound m (a.origin.held ++ own) hand d)
    (ok : d.Placeable a c) : Sound m own hand (acceptFrame a c d) := by
  have settled := settleBlocks_sound h c (List.length_pos_iff.2 ok.some) ok.room
  have counted := (settled.frame (bumpCircuit_writes _ a.cid .acceptedFrames)).frame
    (bumpCircuitBy_writes _ a.cid .acceptedBytes a.length)
  unfold acceptFrame
  dsimp only
  split
  · exact placeAperiodic_sound _ _ _ _ counted
  · rename_i periodic
    rw [ok.periodic periodic] at counted ⊢
    exact placePeriodic_sound counted ..

/-- A frame that passes the checks of a circuit that has its shape can be placed (R24, R36). -/
theorem placeable_of_refusal {a : Arriving} {c : Circuit} (tables : d.tables.checked)
    (found : d.circuit? a.cid = some c) (passed : d.refusal a c = none) : d.Placeable a c := by
  have some : d.reducedSet c ≠ [] := by
    intro none
    unfold Device.refusal at passed
    rw [none] at passed
    iterate 4
      split at passed
      · cases passed
    simp at passed
  refine ⟨hasRoom_of_refusal passed, some, fun periodic => ?_⟩
  have shape := tables.1 (a.cid, c) (Table.mem_of_lookup found)
  unfold Tables.shapeOk at shape
  simp only [periodic, Bool.and_eq_true, Bool.or_eq_true, beq_iff_eq] at shape
  have one : (egressLines c.egress).length = 1 :=
    (shape.1.2.resolve_left fun h => nomatch h).1
  have most : (d.reducedSet c).length ≤ (egressLines c.egress).length := List.length_filter_le ..
  have least := List.length_pos_iff.2 some
  omega

theorem meterFrame_sound {a : Arriving} {c : Circuit} (h : Sound m (a.origin.held ++ own) hand d)
    (ok : d.Placeable a c) : Sound m own hand (meterFrame a c d) := by
  unfold meterFrame
  split
  · exact acceptFrame_sound h ok
  · rename_i meter _
    have coloured := h.frame (colourFrame_writes d meter a.length)
    have thinned := coloured.frame (thinLine_writes _ c.ingressLine)
    dsimp only
    split
    · exact acceptFrame_sound coloured ⟨ok.room, ok.some, ok.periodic⟩
    · exact acceptFrame_sound coloured ⟨ok.room, ok.some, ok.periodic⟩
    · split
      · exact discardArriving_sound thinned _
      · exact acceptFrame_sound thinned ⟨ok.room, ok.some, ok.periodic⟩
    · exact discardArriving_sound coloured _
    · exact acceptFrame_sound coloured ⟨ok.room, ok.some, ok.periodic⟩

theorem classify_sound {a : Arriving} (h : Sound m (a.origin.held ++ own) hand d)
    (tables : d.tables.checked) : Sound m own hand (classify a d) := by
  unfold classify
  split
  · exact discardArriving_sound h _
  · rename_i c found
    split
    · exact discardArriving_sound h _
    · rename_i passed
      exact meterFrame_sound h (placeable_of_refusal tables found passed)

theorem classifyTrunk_sound (h : Sound m own hand d) (tables : d.tables.checked) (cid priority : Nat)
    (payload : List Byte) : Sound m own hand (classifyTrunk cid priority payload d) := by
  unfold classifyTrunk
  dsimp only
  split
  · exact discardArriving_sound (by exact h) _
  · exact classify_sound (by exact h) tables

theorem handOver_sound {ref : Nat} {o : Origin} (held : o.held = [ref])
    (h : Sound m (ref :: own) hand d) (tables : d.tables.checked) :
    Sound m own hand (handOver ref o d) := by
  obtain ⟨f, found⟩ := h.found (.inl List.mem_cons_self)
  have h' : Sound m (o.held ++ own) hand d := by
    rw [held]
    exact h
  unfold handOver
  rw [found]
  dsimp only
  split
  · exact discardArriving_sound (by exact h') _
  · exact classify_sound (by exact h') tables

theorem handOverReceived_sound {r : InFlight} (h : Sound m (r.received.toList ++ own) hand d)
    (tables : d.tables.checked) (k : Branch) : Sound m own hand (handOverReceived k r d) := by
  unfold handOverReceived
  split
  · rename_i none
    rw [none] at h
    exact h
  · rename_i ref _ _ _ _ _ _ received _
    rw [received] at h
    exact handOver_sound rfl h tables
  · rename_i ref _ received _
    rw [received] at h
    exact handOver_sound rfl h tables

/- ### Reassembly (R149 to R151) -/

theorem takeFirst_sound (h : Sound m own hand d) (k : Branch) (s : Nat) (f : BranchFrame) :
    Sound m own hand (takeFirst k s f d).dev := by
  rw [takeFirst_eq]
  have alone := restartedByFirst_alone d k s
  have begun : Sound m own hand (restartedByFirst k s d) := by
    unfold restartedByFirst
    split
    · rename_i c found
      exact abandonContext_sound h _ (mem_of_context? found).1
    · exact h
  generalize restartedByFirst k s d = x at alone begun
  unfold takeFirstAlone
  split
  · exact begun.frame (bumpLine_writes ..)
  · split
    · exact begun.frame (bumpLine_writes ..)
    · split
      · exact begun
      · rename_i few
        split
        · exact begun
        · rename_i met
          have frames := considerPoolEmpty_frames k.line (some s) 1
            { x with
              pool := x.pool.charge 1 k.line
              contexts := x.contexts ++ [
                { branch := k, station := s, cid := f.cid, priority := f.priority,
                  blocks := [x.blockFor f.payload], startCycle := x.timer.cycle }] }
          exact begun.framesKept (openContext_writes x k s f few (room_of_receiptRefusal met) alone)
            frames.1 frames.2

theorem appendMiddle_sound (h : Sound m own hand d) {c : Context} (f : BranchFrame)
    (hc : c ∈ d.contexts) (room : 1 ≤ d.pool.free.length) :
    Sound m own hand (appendMiddle c f d) := by
  have frames := considerPoolEmpty_frames c.branch.line (some c.station) 1
    { d with
      pool := d.pool.charge 1 c.branch.line
      contexts := d.appendBlock c (d.blockFor f.payload) }
  exact h.framesKept (appendMiddle_writes d f hc room) frames.1 frames.2

/-- A completed frame is held by its transaction alone (R62, R151). -/
theorem completeContext_sound (h : Sound m own hand d) {c : Context} (f : BranchFrame)
    (hc : c ∈ d.contexts) (room : 1 ≤ d.pool.free.length) :
    Sound m (c.frameRef (d.blockFor f.payload) :: own) hand (completeContext c f d) := by
  have agrees := (poolOk_iff d).1 h.pool
  obtain ⟨x, xs, blocks⟩ := List.exists_cons_of_ne_nil (agrees.contexts.some c hc)
  have name : c.frameRef (d.blockFor f.payload) = x.number := by
    unfold Context.frameRef
    rw [blocks]
    rfl
  have fresh : d.pool.frames.find? (c.frameRef (d.blockFor f.payload)) = none := by
    rw [name]
    exact agrees.find?_context hc (blocks ▸ List.mem_cons_self)
  unfold completeContext
  dsimp only
  refine considerPoolEmpty_sound (Sound.frame ?_ (bumpLine_writes ..)) ..
  refine ⟨?_, (poolOk_iff _).2 (agrees.complete hc room (blockFor_number d f.payload room)
    (f := c.completedFrame (d.blockFor f.payload)) rfl rfl), h.slots, h.txn⟩
  have held := h.refs.holdOwn fresh (f := c.completedFrame (d.blockFor f.payload)) rfl rfl
    (free := d.pool.free.drop 1)
    (usage := d.pool.usage.set c.branch.line (d.pool.usage.get c.branch.line + 1))
    (armed := d.pool.emptyArmed)
  have first : ((c.completedFrame (d.blockFor f.payload)).chain.headD ⟨0, []⟩).number =
      c.frameRef (d.blockFor f.payload) := by
    rw [name]
    unfold Context.completedFrame
    dsimp only
    rw [blocks]
    rfl
  unfold Pool.hold
  rw [first]
  exact held

theorem takeNext_sound (h : Sound m own hand d) (k : Branch) (s : Nat) (f : BranchFrame) :
    Sound m ((takeNext k s f d).completed.toList ++ own) hand (takeNext k s f d).dev := by
  unfold takeNext
  split
  · exact h.frame (bumpLine_writes ..)
  · rename_i c found
    have hc := (mem_of_context? found).1
    split
    · exact abandonContext_sound h _ hc
    · split
      · exact h
      · rename_i met
        have room := room_of_receiptRefusal met
        split
        · exact completeContext_sound h f hc room
        · exact appendMiddle_sound h f hc room

set_option Elab.async false in
theorem takeSegment_sound (h : Sound m own hand d) (k : Branch) (s : Nat) (f : BranchFrame) :
    Sound m ((takeSegment k s f d).completed.toList ++ own) hand (takeSegment k s f d).dev := by
  unfold takeSegment
  split
  · have none : (takeFirst k s f d).completed = none := by
      rw [takeFirst_eq]
      unfold takeFirstAlone
      repeat' split
      all_goals rfl
    rw [none]
    exact takeFirst_sound h k s f
  · exact takeNext_sound h k s f

end Sys2Proof.Machine

/-! The reference agreement: the end of a transaction, failed attempts, and replies. -/

namespace Sys2Proof.Machine

open Device (Writes Sound OnlyAt)

variable {m : Option Branch} {own hand : List Nat} {d : Device} {k : Branch}

/- ### The end of a transaction (R114) -/

set_option Elab.async false in
theorem nextStep_sound (h : Sound none own hand d) (idle : (d.seq k).inFlight = none) :
    Sound none own hand (nextStep k d) := by
  unfold nextStep
  split
  · exact ((shutBranch_sound h idle).frame (raiseEvent_writes ..)).frame (readyResponse_writes ..)
  · exact h
  · split
    · exact beginCycle_sound (fun _ => idle) h ..
    · rename_i periodic
      refine periodicStep_sound _ h idle ?_
      unfold Sequencer.active
      rw [periodic]
      exact ⟨(fun h => nomatch h), fun h => nomatch h⟩
    · exact aperiodicStep_sound (fun _ => idle) h
    · exact h
    · exact h

/-- A delivered output value leaves its slot, if it is there still (R133). -/
theorem emptyDeliveredSlot_sound (h : Sound m own hand d) (output : Option Nat) (ref : Nat) :
    Sound m own hand (emptyDeliveredSlot output ref d) := by
  unfold emptyDeliveredSlot
  split
  · exact h
  · split
    · rename_i found
      exact (h.eraseSlot found).release
    · exact h

theorem finishExchange_sound {outputFrame : Option Nat} (h : Sound m own (outputFrame.toList ++ hand) d)
    (output : Option Nat) (delivered : Bool) :
    Sound m own hand (finishExchange output outputFrame delivered d) := by
  unfold finishExchange
  split
  · exact h
  · rename_i ref
    split
    · exact (emptyDeliveredSlot_sound h output ref).release
    · exact Sound.release h

/-- At its end a transaction gives up its reference to the frame it sent (R114, R133). -/
theorem settleTransaction_sound {r : InFlight} (h : Sound m own (r.outputs ++ hand) d) (k : Branch)
    (o : Outcome) : Sound m own hand (settleTransaction k r o d) := by
  unfold InFlight.outputs at h
  unfold settleTransaction
  split
  · rename_i element output input outputFrame cid priority txn
    rw [txn] at h
    exact finishExchange_sound (h.frame (setElement_writes d k element _)) ..
  · rename_i txn
    rw [txn] at h
    split
    · exact h.frame (holdClass_writes ..)
    · exact h
  · rename_i txn
    rw [txn] at h
    exact h
  · rename_i txn
    rw [txn] at h
    exact h

/-- A transaction ends: its branch was left out, and what its record refers to was in hand. -/
theorem endTransaction_sound {r : InFlight}
    (h : Sound (some k) (r.received.toList ++ own) (r.outputs ++ hand) d)
    (tables : d.tables.checked) (o : Outcome) : Sound none own hand (endTransaction k r o d) := by
  have reported := reportOutcome_writes d k r.station (r.txn == .probe) o
  have handed := handOverReceived_sound (h.frame reported) (reported.tables ▸ tables) k
  have settled := settleTransaction_sound handed k o
  have idle : ((setInFlight k none (settleTransaction k r o (handOverReceived k r
      (reportOutcome k r.station (r.txn == .probe) o d)))).seq k).inFlight = none :=
    congrArg Sequencer.inFlight (seq_setSeq_self ..)
  unfold endTransaction
  exact nextStep_sound ((settled.setSeq_out _).takeIn_idle idle) idle

/-- The transaction in flight is left out with what its record refers to. -/
theorem leaveOut_flying (h : Sound none own hand d) {r : InFlight}
    (flies : (d.seq k).inFlight = some r) :
    Sound (some k) (r.received.toList ++ own) (r.outputs ++ hand) d := by
  have out := h.leaveOut k
  rw [Sequencer.receipts_flying flies, Sequencer.outputs_flying flies] at out
  exact out

/-- An attempt that waits fails (R113). -/
theorem failAttempt_sound (h : Sound none own hand d) {r : InFlight}
    (flies : (d.seq k).inFlight = some r) (waits : r.replyWait ≠ none) (tables : d.tables.checked) :
    Sound none own hand (failAttempt k r d) := by
  have ok := h.txn k fun e => (nomatch e)
  have out := leaveOut_flying h flies
  unfold failAttempt
  split
  · have counted := bumpLine_writes d k.line .retries
    have received : r.received = none := ok.unreceived flies waits
    exact startAttempt_takeIn (r := { r with attempt := r.attempt + 1 }) (out.frame counted) rfl rfl
      ((startAttempt_after (r := { r with attempt := r.attempt + 1 }) counted received).2
        (ok.active flies))
  · exact endTransaction_sound (r := { r with replyWait := none }) out tables _

theorem erroredArrival_sound (h : Sound none own hand d) (tables : d.tables.checked) (k : Branch) :
    Sound none own hand (erroredArrival k d) := by
  unfold erroredArrival
  split
  · rename_i r waiting
    obtain ⟨flies, waits⟩ := waiting_some d k waiting
    exact failAttempt_sound h flies waits tables
  · exact h

/- ### Replies (R129 to R137) -/

theorem exchangeData_sound (h : Sound m own hand d) (k : Branch) (f : BranchFrame) :
    Sound m ((exchangeData k f d).1.toList ++ own) hand (exchangeData k f d).2 := by
  unfold exchangeData
  split
  · dsimp only
    exact h.frame (countReason_writes ..)
  · split
    · dsimp only
      exact h.frame (countReason_writes ..)
    · rename_i met
      exact storeReceipt_sound h k f (room_of_receiptRefusal met)

theorem exchangeReply_sound (h : Sound none own hand d) {r : InFlight}
    (flies : (d.seq k).inFlight = some r) (received : r.received = none) (tables : d.tables.checked)
    (f : BranchFrame) : Sound none own hand (exchangeReply k r f d) := by
  have out := leaveOut_flying h flies
  unfold exchangeReply
  split
  · have data := exchangeData_sound out k f
    rw [received] at data
    have kept := exchangeData_writes d k f
    exact endTransaction_sound (r := { r with received := (exchangeData k f d).1 }) data
      (kept.tables ▸ tables) _
  · exact endTransaction_sound out tables _

theorem deliverAck_sound (h : Sound m own hand d) (k : Branch) (s : Nat) (c : Class) (segment : Nat) :
    Sound m own hand (deliverAck k s c segment d) := by
  have flipped := h.frame (flipDown_writes d k s)
  unfold deliverAck
  dsimp only
  generalize flipDown k s d = x at flipped ⊢
  split
  · exact flipped
  · rename_i e es head
    split
    · exact flipped
    · split
      · exact (removeHead_sound flipped head).release
      · exact Sound.frame (Sound.frame flipped
          (setQueue_frames_writes x (q := { e with nextSegment := e.nextSegment + 1 } :: es)
            (by rw [head]; rfl))) (setSeq_core_writes _ (by rfl))

theorem deliverBusy_sound (h : Sound m own hand d) (k : Branch) (s : Nat) (c : Class) :
    Sound m own hand (deliverBusy k s c d) := by
  have held := (h.frame (bumpBoth_writes d k s .busyReceived .busyReceived)).frame
    (holdClass_writes _ k c)
  unfold deliverBusy
  dsimp only
  generalize holdClass k c (d.bumpBoth k s .busyReceived .busyReceived) = x at held ⊢
  split
  · exact held
  · rename_i e es head
    split
    · exact (removeHead_sound held head).dropFrame ..
    · exact held.frame (setQueue_frames_writes x (q := { e with busy := e.busy + 1 } :: es)
        (by rw [head]; rfl))

set_option Elab.async false in
theorem deliverReply_sound (h : Sound none own hand d) {r : InFlight}
    (flies : (d.seq k).inFlight = some r) (tables : d.tables.checked) (c : Class) (segment : Nat)
    (f : BranchFrame) : Sound none own hand (deliverReply k r c segment f d) := by
  have out := leaveOut_flying h flies
  unfold deliverReply
  dsimp only
  split
  · exact endTransaction_sound (deliverAck_sound out k r.station c segment)
      ((deliverAck_writes d k r.station c segment).tables ▸ tables) _
  · split
    · exact endTransaction_sound (deliverBusy_sound out k r.station c)
        ((deliverBusy_writes d k r.station c).tables ▸ tables) _
    · exact endTransaction_sound out tables _

theorem sendAnswer_eq (k : Branch) (r : InFlight) (kind : BranchKind) (d : Device) :
    ∃ starts ends wire, sendAnswer k r kind d = d.setSeq k { d.seq k with
      inFlight := some { r with replyWait := none },
      sending := some { role := .answer, starts := starts, ends := ends, wire := wire } } := by
  unfold sendAnswer setInFlight sendBranch
  simp only [seq_setSeq_self]
  simp only [Device.setSeq, PerBranch.set_set]
  exact ⟨_, _, _, rfl⟩

/-- The part's answer is sent: its branch was left out, and what the transaction's new record refers to
was in hand (R137). -/
theorem sendAnswer_sound {r : InFlight} {kind : BranchKind}
    (h : Sound (some k) (r.received.toList ++ own) (r.outputs ++ hand) d)
    (txn : ((sendAnswer k r kind d).seq k).txnOk) : Sound none own hand (sendAnswer k r kind d) := by
  obtain ⟨starts, ends, wire, eq⟩ := sendAnswer_eq k r kind d
  rw [eq] at txn ⊢
  refine (h.setSeq_out _).takeIn ?_ ?_ txn
  · rw [seq_setSeq_self, Sequencer.receipts_flying rfl]
  · rw [seq_setSeq_self, Sequencer.outputs_flying rfl]
    exact .refl _

/-- A segment that completes a frame is acknowledged (R151). -/
theorem acknowledged_of_completed {s : Nat} {f : BranchFrame}
    (h : (takeSegment k s f d).completed ≠ none) : (takeSegment k s f d).acknowledged = true := by
  have first : (takeFirst k s f d).completed = none := by
    rw [takeFirst_eq]
    unfold takeFirstAlone
    repeat' split
    all_goals rfl
  have next : (takeNext k s f d).completed ≠ none → (takeNext k s f d).acknowledged = true := by
    unfold takeNext
    repeat' split
    all_goals first | exact fun _ => rfl | exact fun other => absurd rfl other
  unfold takeSegment at h ⊢
  split
  · rename_i isFirst
    rw [if_pos isFirst] at h
    exact absurd first h
  · rename_i later
    rw [if_neg later] at h
    exact next h

theorem serviceData_sound (h : Sound none own hand d) {r : InFlight}
    (flies : (d.seq k).inFlight = some r) (received : r.received = none) (f : BranchFrame) :
    Sound none own hand (serviceData k r f d) := by
  have out := leaveOut_flying h flies
  have txn := (serviceData_agrees d k (by rw [flies]; rfl) r f).txn k (h.txn k fun e => (nomatch e))
  have busy {x : Device} (h : Sound (some k) (r.received.toList ++ own) (r.outputs ++ hand) x)
      (txn : ((answerBusy k r x).seq k).txnOk) : Sound none own hand (answerBusy k r x) :=
    sendAnswer_sound (h.frame (bumpBoth_writes ..)) txn
  have ack {x : Device} {got : Option Nat}
      (h : Sound (some k) (got.toList ++ (r.received.toList ++ own)) (r.outputs ++ hand) x)
      (txn : ((answerAck k r got x).seq k).txnOk) : Sound none own hand (answerAck k r got x) := by
    rw [received] at h
    exact sendAnswer_sound (r := { r with received := got }) (h.frame (flipUp_writes ..)) txn
  unfold serviceData at txn ⊢
  split at txn
  · rename_i shutting
    rw [if_pos shutting]
    exact busy out txn
  · rename_i open_
    rw [if_neg open_]
    split at txn
    · rename_i twice
      rw [if_pos twice]
      exact sendAnswer_sound (out.frame (bumpBoth_writes ..)) txn
    · rename_i once
      rw [if_neg once]
      split at txn
      · rename_i only
        rw [if_pos only]
        split at txn
        · exact busy out txn
        · rename_i met
          exact ack (storeReceipt_sound out k f (room_of_receiptRefusal met)) txn
      · rename_i segment
        rw [if_neg segment]
        dsimp only at txn ⊢
        have taken := takeSegment_sound out k r.station f
        split at txn
        · rename_i acknowledged
          rw [if_pos acknowledged]
          exact ack taken txn
        · rename_i refused
          rw [if_neg refused]
          refine busy ?_ txn
          have none : (takeSegment k r.station f d).completed = none := by
            by_contra completed
            exact refused (acknowledged_of_completed completed)
          rw [none] at taken
          exact taken

end Sys2Proof.Machine

/-! The reference agreement: branch events. -/

namespace Sys2Proof.Machine

open Device (Writes Sound OnlyAt)

variable {m : Option Branch} {own hand : List Nat} {d : Device} {k : Branch}

/- ### Replies (R129 to R137) -/

set_option Elab.async false in
theorem serviceReply_sound (h : Sound none own hand d) {r : InFlight}
    (flies : (d.seq k).inFlight = some r) (received : r.received = none) (tables : d.tables.checked)
    (f : BranchFrame) : Sound none own hand (serviceReply k r f d) := by
  unfold serviceReply
  split
  · exact serviceData_sound h flies received f
  · exact endTransaction_sound (leaveOut_flying h flies) tables _

/-- An attempt whose reply wait is pending stops waiting: it refers to the same frames (R128). -/
theorem stopWait_sound (h : Sound none own hand d) {r : InFlight}
    (flies : (d.seq k).inFlight = some r) (waits : r.replyWait ≠ none) :
    Sound none own hand (setInFlight k (some { r with replyWait := none }) d) := by
  have ok := h.txn k fun e => (nomatch e)
  refine h.setSeq (fun _ => ⟨?_, ?_⟩) fun _ => ⟨fun stopped => ?_, fun r' hr => ?_⟩
  · rw [Sequencer.receipts_flying flies]
    exact Sequencer.receipts_flying (r := { r with replyWait := none }) rfl
  · rw [Sequencer.outputs_flying flies]
    exact Sequencer.outputs_flying (r := { r with replyWait := none }) rfl
  · exact (stopped.elim (ok.active flies).1 (ok.active flies).2).elim
  · cases hr
    exact ⟨fun received => absurd (ok.unreceived flies waits) received, fun waits => absurd rfl waits⟩

theorem acceptReply_sound (h : Sound none own hand d) {r : InFlight}
    (flies : (d.seq k).inFlight = some r) (waits : r.replyWait ≠ none) (tables : d.tables.checked)
    (f : BranchFrame) : Sound none own hand (acceptReply k r f d) := by
  have received : r.received = none := (h.txn k fun e => (nomatch e)).unreceived flies waits
  have stopped := stopWait_sound h flies waits
  have now : ((setInFlight k (some { r with replyWait := none }) d).seq k).inFlight =
      some { r with replyWait := none } := congrArg Sequencer.inFlight (seq_setSeq_self ..)
  have tables' : (setInFlight k (some { r with replyWait := none }) d).tables.checked := tables
  unfold acceptReply
  dsimp only
  generalize setInFlight k (some { r with replyWait := none }) d = x at stopped now tables'
  have resynced := resyncOnReply_writes x k r.station
  have sound := stopped.frame resynced
  have still := (Sequencer.inFlight_of_core (resynced.core k)).trans now
  have checked : (resyncOnReply k r.station x).tables.checked := resynced.tables ▸ tables'
  split
  · exact exchangeReply_sound sound still received checked f
  · exact deliverReply_sound sound still checked _ _ f
  · exact serviceReply_sound sound still received checked f
  · exact serviceReply_sound sound still received checked f

theorem validArrival_sound (h : Sound none own hand d) (tables : d.tables.checked) (k : Branch)
    (f : BranchFrame) : Sound none own hand (validArrival k f d) := by
  unfold validArrival
  split
  · exact h.frame (unexpectedFrame_writes ..)
  · rename_i r waiting
    obtain ⟨flies, waits⟩ := waiting_some d k waiting
    split
    · exact acceptReply_sound h flies waits tables f
    · have counted := bumpBoth_writes d k r.station .protocolError .protocolError
      exact failAttempt_sound (h.frame counted)
        ((Sequencer.inFlight_of_core (counted.core k)).trans flies) waits (counted.tables ▸ tables)

theorem branchArrival_sound (h : Sound none own hand d) (tables : d.tables.checked) (k : Branch)
    (start : Nat) (bytes : List Byte) : Sound none own hand (branchArrival k start bytes d) := by
  unfold branchArrival
  split
  · exact h.frame (bumpLineBy_writes ..)
  · split
    · exact h
    · dsimp only
      have collected := h.frame (collect_writes d k.line Config.branchBuffer bytes)
      have header := headerErrorOn_writes (collect k.line Config.branchBuffer bytes d) k.line
      have payload := payloadErrorOn_writes (collect k.line Config.branchBuffer bytes d) k.line
      have counted := bumpLine_writes (collect k.line Config.branchBuffer bytes d) k.line
        .framesReceived
      have checked : (collect k.line Config.branchBuffer bytes d).tables.checked := tables
      unfold branchChecked
      split
      · exact erroredArrival_sound (collected.frame header) (header.tables ▸ checked) k
      · exact erroredArrival_sound (collected.frame payload) (payload.tables ▸ checked) k
      · exact validArrival_sound (collected.frame counted) (counted.tables ▸ checked) k _

theorem replyTimeoutDue_sound (h : Sound none own hand d) (tables : d.tables.checked) (k : Branch) :
    Sound none own hand (replyTimeoutDue k d) := by
  unfold replyTimeoutDue
  split
  · exact h
  · rename_i r flies
    split
    · exact h
    · rename_i due waits
      exact failAttempt_sound (h.frame (now_writes d due)) flies
        (by rw [waits]; exact Option.some_ne_none due) tables

/- ### Completions (R13) -/

/-- The part at the completion of a branch frame, before what it leads to: the transaction has its
references still, but the frame is no longer in transmission. -/
theorem stopSending_sound (h : Sound (some k) own hand d) (ends : Nat) :
    Sound (some k) own hand
      (({ d with now := ends }.setSeq k { d.seq k with sending := none }).bumpLine k.line .framesSent) :=
  ((h.frame (now_writes d ends)).setSeq_out _).frame (bumpLine_writes ..)

/-- What a completed frame leads to (R105, R108, R114, R115, R128): its branch was left out. -/
theorem afterBranchFrame_sound (h : Sound (some k) ((d.seq k).receipts ++ own)
    ((d.seq k).outputs ++ hand) d) (role : TxRole) (tables : d.tables.checked)
    (quiet : (d.seq k).sending = none) (active : (d.seq k).inFlight ≠ none → (d.seq k).active)
    (unanswered : role ≠ .answer → ∀ r, (d.seq k).inFlight = some r → r.received = none) :
    Sound none own hand (afterBranchFrame k role d) := by
  unfold afterBranchFrame
  split
  · rename_i r flies
    rw [Sequencer.receipts_flying flies, Sequencer.outputs_flying flies] at h
    have flying := active (by rw [flies]; exact Option.some_ne_none r)
    have txn (q : Sequencer) (state : q.state = (d.seq k).state) (sending : q.sending = (d.seq k).sending)
        (w : Option Nat) (here : q.inFlight = some { r with replyWait := w })
        (received : r.received = none) : q.txnOk := by
      refine ⟨fun stopped => ?_, fun r' hr => ?_⟩
      · rw [state] at stopped
        exact (stopped.elim flying.1 flying.2).elim
      · cases here.symm.trans hr
        exact ⟨fun some => absurd received some, fun _ => sending.trans quiet⟩
    split
    · refine (h.setSeq_out _).takeIn ?_ ?_ ?_
      · rw [seq_setSeq_self, Sequencer.receipts_flying rfl]
      · rw [seq_setSeq_self, Sequencer.outputs_flying rfl]
        exact .refl _
      · rw [seq_setSeq_self]
        exact txn _ rfl rfl _ rfl (unanswered (fun e => nomatch e) r flies)
    · exact endTransaction_sound h tables _
    · refine h.takeIn ?_ ?_ (txn _ rfl rfl r.replyWait flies (unanswered (fun e => nomatch e) r flies))
      · rw [Sequencer.receipts_flying flies]
      · rw [Sequencer.outputs_flying flies]
  · rename_i idle
    rw [Sequencer.receipts_idle idle, Sequencer.outputs_idle idle] at h
    have sound : Sound none own hand d := h.takeIn_idle idle
    split
    · split
      · exact beginCycle_sound (fun _ => idle) sound ..
      · rename_i periodic
        refine periodicStep_sound _ sound idle ?_
        unfold Sequencer.active
        rw [periodic]
        exact ⟨(fun h => nomatch h), fun h => nomatch h⟩
      · exact sound
    · exact sound

theorem branchComplete_sound (h : Sound none own hand d) (tables : d.tables.checked) (k : Branch) :
    Sound none own hand (branchComplete k d) := by
  have ok := h.txn k fun e => (nomatch e)
  unfold branchComplete
  split
  · exact h
  · rename_i tx sends
    dsimp only
    have stopped := stopSending_sound (h.leaveOut k) tx.ends
    have seq : (({ d with now := tx.ends }.setSeq k { d.seq k with sending := none }).bumpLine k.line
        .framesSent).seq k = { d.seq k with sending := none } := seq_setSeq_self ..
    refine afterBranchFrame_sound ?_ tx.role tables (by rw [seq]) (fun flies => ?_) fun role r flies => ?_
    · rw [seq]
      exact stopped
    · rw [seq] at flies ⊢
      obtain ⟨r, hr⟩ := Option.ne_none_iff_exists'.1 flies
      exact ok.active hr
    · rw [seq] at flies
      by_contra received
      have answer := ((ok.2 r flies).1 received).2
      rw [sends] at answer
      exact role (Option.some.inj answer)

theorem shaperRelease_sound (h : Sound m own hand d) (l : Line) (c : Class) :
    Sound m own hand (shaperRelease l c d) := by
  unfold shaperRelease
  split
  · exact h
  · rename_i due _
    exact notice_sound ((h.frame (now_writes d due)).frame (setRelease_writes ..)) l

end Sys2Proof.Machine

/-! The reference agreement: the application of a change, cycle starts, the trunk, requests; and the
invariant itself. -/

namespace Sys2Proof.Machine

open Device (Writes Sound)

variable {m : Option Branch} {own hand : List Nat} {d : Device}

/- ### The application of a change (R102, R141, R166, R167) -/

set_option Elab.async false in
theorem applyToSlot_sound (old : Table Circuit) (h : Sound m own hand d) (e : Staged) :
    Sound m own hand (applyToSlot old d e) := by
  unfold applyToSlot
  split
  · split
    · rename_i found
      exact h.dropSlot found ..
    · exact h
  · exact h

theorem unconfigureContext_sound (h : Sound m own hand d) (k : Branch) (s : Nat) :
    Sound m own hand (unconfigureContext k s d) := by
  unfold unconfigureContext
  split
  · rename_i c found
    exact abandonContext_sound h _ (mem_of_context? found).1
  · exact h

theorem applyToStation_sound (old : Table StationConfig) (h : Sound m own hand d) (e : Staged) :
    Sound m own hand (applyToStation old d e) := by
  unfold applyToStation
  split
  · dsimp only
    split
    · exact (h.frame (setStation_writes ..)).frame (rewindDelivery_writes ..)
    · exact unconfigureContext_sound (h.frame (setStation_writes ..)) ..
    · exact h
  · exact h

theorem applyList_sound (h : Sound m own hand d) : Sound m own hand (applyList d) := by
  have slots := (h.frame (inForce_writes d (d.tables.withList d.change.list) d.change.applied)).foldl
    (fun _ e h => applyToSlot_sound d.tables.circuits h e) d.change.list
  have meters := slots.foldl (fun x e h => h.frame (applyToMeter_writes x e)) d.change.list
  have stations := meters.foldl (fun _ e h => applyToStation_sound d.tables.stations h e) d.change.list
  exact stations.foldl (fun x e h => h.frame (applyToCredits_writes x e)) d.change.list

theorem applyAtStart_sound (h : Sound m own hand d) : Sound m own hand (applyAtStart d) := by
  have drawn := h.frame (choices_writes d (d.choices + 1))
  unfold applyAtStart
  split
  · dsimp only
    split
    · exact applyList_sound (discardLate_sound drawn)
    · exact applyList_sound drawn
  · exact applyList_sound h

theorem actOnCommit_sound (h : Sound m own hand d) (act : ChangeAct) :
    Sound m own hand (actOnCommit act d) := by
  unfold actOnCommit
  split
  · exact h
  · exact applyAtStart_sound h
  · exact h.frame (change_writes d _)

/- ### Cycle starts (R76) -/

theorem branchCycleStart_sound (h : Sound m own hand d) (cycle : Cycle) (deadline : Nat) (k : Branch) :
    Sound m own hand (branchCycleStart cycle deadline d k) := by
  unfold branchCycleStart
  split
  · split
    · rename_i free
      exact beginCycle_sound (fun _ => Option.isNone_iff_eq_none.1 free.1) h ..
    · exact h.frame (deferCycle_writes ..)
  · exact h

theorem handOut_sound (h : Sound m own hand d) : Sound m own hand (handOut d) := by
  have late := discardLate_sound (h.frame (refillMeters_writes d))
  have counted : Sound m own hand (countDownProbes (ageContexts (discardLate (refillMeters d)))) :=
    Sound.frame (abandonContexts_sound late ..) (countDownProbes_writes _)
  unfold handOut
  dsimp only
  generalize countDownProbes (ageContexts (discardLate (refillMeters d))) = x at counted ⊢
  exact counted.foldl (fun _ k h => branchCycleStart_sound h _ _ k) Branch.all

theorem startedCycle_sound (h : Sound m own hand d) (number : Cycle) (st : TimerState) (miss : Nat)
    (slip : Bool) : Sound m own hand (startedCycle number st miss slip d) :=
  (actOnCommit_sound (h.frame (startTimer_writes d number st miss)) _).frame (setExpiry_writes _)

theorem frameStart_sound (h : Sound m own hand d) (number : Cycle) :
    Sound m own hand (frameStart number d) := by
  rw [frameStart_eq]
  exact handOut_sound (((startedCycle_sound h ..).frame (raiseFrameEvents_writes ..)).frame
    (raiseCommit_writes ..))

theorem localStart_sound (h : Sound m own hand d) : Sound m own hand (localStart d) := by
  rw [localStart_eq]
  exact handOut_sound (((startedCycle_sound h ..).frame (raiseLocalEvents_writes ..)).frame
    (raiseCommit_writes ..))

/- ### The trunk -/

theorem trunkArrival_sound (h : Sound m own hand d) (tables : d.tables.checked) (bytes : List Byte) :
    Sound m own hand (trunkArrival bytes d) := by
  unfold trunkArrival
  dsimp only
  have collected := h.frame (collect_writes d .t Config.trunkBuffer bytes)
  have counted := bumpLine_writes (collect .t Config.trunkBuffer bytes d) .t .framesReceived
  have checked : (collect .t Config.trunkBuffer bytes d).tables.checked := tables
  unfold trunkChecked
  split
  · exact collected.frame (headerErrorOn_writes ..)
  · exact collected.frame (payloadErrorOn_writes ..)
  · unfold timerArrival
    split
    · split
      · exact (collected.frame counted).frame (bumpLine_writes ..)
      · exact frameStart_sound (collected.frame counted) _
    · exact frameStart_sound (collected.frame counted) _
  · unfold trunkDataFrame
    split
    · exact (collected.frame counted).frame (requestArrival_writes ..)
    · exact classifyTrunk_sound (collected.frame counted) (counted.tables ▸ checked) ..

set_option Elab.async false in
/-- A restart leaves no frame and no reference (R177). -/
theorem cleared_sound (pool : d.cleared.poolOk) : Sound none [] [] d.cleared := by
  have idle (k : Branch) : (d.cleared.seq k).inFlight = none := by
    unfold Device.cleared Device.seq
    rw [restartedSeqs_get]
    rfl
  have receipts : d.cleared.receipts none = [] :=
    List.flatMap_eq_nil_iff.2 fun k _ => Sequencer.receipts_idle (idle k)
  have outputs : d.cleared.outputs none = [] :=
    List.flatMap_eq_nil_iff.2 fun k _ => Sequencer.outputs_idle (idle k)
  have queued : d.cleared.queuedFrames = [] :=
    List.flatMap_eq_nil_iff.2 fun l _ => List.flatMap_eq_nil_iff.2 fun c _ => by
      cases l <;> cases c <;> rfl
  refine ⟨?_, pool, List.Pairwise.nil, fun k _ => Sequencer.txnOk_of_idle (idle k)⟩
  unfold Device.shared
  rw [receipts, outputs, queued]
  exact refs_allFree

theorem trunkComplete_sound (h : Sound none [] [] d) : Sound none [] [] (trunkComplete d) := by
  unfold trunkComplete
  split
  · exact h
  · rename_i tx sends
    have counted := h.frame (bumpLine_writes d .t .framesSent)
    have sends' : (d.bumpLine .t .framesSent).trunkTx = some tx := sends
    unfold trunkSent
    dsimp only
    generalize d.bumpLine .t .framesSent = x at counted sends'
    split
    · rename_i ref holds
      refine (counted.setTrunkTx (x := none) (hand' := [ref]) ?_).release
      rw [show x.trunkHeld = [ref] by unfold Device.trunkHeld; rw [sends', Option.map_some, holds]]
      exact .refl _
    · rename_i isRestart holds
      have idle : Sound none [] [] { x with trunkTx := none } := by
        refine counted.setTrunkTx ?_
        rw [show x.trunkHeld = [] by unfold Device.trunkHeld; rw [sends', Option.map_some, holds]]
        exact .refl _
      split
      · have pool := (cleared_writes { x with trunkTx := none }).kept.pool idle.pool
        exact ((cleared_sound pool).frame (restarted_writes _)).frame (restartNow_writes _)
      · exact idle

/- ### Requests (R171 to R177) -/

theorem setTrunk_sound (h : Sound m own hand d) (state : Nat) :
    Sound m own hand (setTrunk state d).1 := by
  have adm (a : TrunkAdmission) : Writes [.trunkAdm] d { d with trunkAdm := a } :=
    ⟨fun f hf => by cases f <;> first | rfl | simp at hf, ⟨id, id, id, id, id⟩⟩
  unfold setTrunk
  split
  · exact h
  · dsimp only
    exact flushTrunk_sound (h.frame (adm .mgmtOnly))
  · exact h.frame (adm .opened)
  · exact h

theorem setBranch_sound (h : Sound m own hand d) (k : Branch) (state : Nat) (op : Byte)
    (tag : List Byte) : Sound m own hand (setBranch k state op tag d).1 := by
  unfold setBranch
  split
  · exact h
  · split
    · rename_i idle
      dsimp only
      exact shutBranch_sound h (Option.isNone_iff_eq_none.1 idle)
    · dsimp only
      exact (h.frame (setAdmission_writes d k .shutting)).frame
        (endpoint_writes (d.setAdmission k .shutting) _ id id)
  · exact h
  · split
    · exact h
    · dsimp only
      exact h.frame (openBranch_writes ..)
  · exact h

theorem performCommit_sound (h : Sound m own hand d) (kind : Nat) (number : Cycle) :
    Sound m own hand (performCommit kind number d).1 := by
  unfold performCommit
  dsimp only
  iterate 6
    split
    · exact h
  split
  · exact h
  · split
    · exact (applyList_sound h).frame (raiseEvent_writes ..)
    · exact h.frame (change_writes d _)

theorem performOp_sound (h : Sound m own hand d) (op : Op) (bs : List Byte) :
    Sound m own hand (performOp op bs d).1 := by
  cases op with
  | read => exact h
  | stage => exact h.frame (performStage_writes ..)
  | discard => exact h.frame (change_writes d _)
  | commit => exact performCommit_sound h ..
  | setLine =>
    unfold performOp performSetLine
    dsimp only
    split
    · exact h
    · split
      · exact setTrunk_sound h _
      · exact setBranch_sound h ..
  | clear => exact h.frame (performClear_writes d ..)
  | takeEvents => exact h.frame (performTakeEvents_writes d _)
  | restart => exact h.frame (endpoint_writes d _ id id)

theorem performHead_sound (h : Sound m own hand d) (bs : List Byte) :
    Sound m own hand (performHead bs d) := by
  have performed : Sound m own hand (performRequest bs d).1 := by
    unfold performRequest
    split
    · exact h
    · exact performOp_sound h ..
  unfold performHead
  split
  · rename_i d' hp
    rw [hp] at performed
    exact performed
  · rename_i d' r hp
    rw [hp] at performed
    exact performed.frame (endpoint_writes d' _ id id)

theorem takeHead_sound (h : Sound m own hand d) (queue : List (List Byte))
    (hq : queue.length ≤ d.endpoint.queue.length) : Sound m own hand (takeHead queue d) := by
  induction queue generalizing d with
  | nil => exact h.frame (endpoint_writes d _ (fun _ => Nat.zero_le _) id)
  | cons bs rest ih =>
    have taken := h.frame (endpoint_writes d { d.endpoint with queue := rest }
      (fun q => (Nat.le_of_succ_le hq).trans q) id)
    unfold takeHead
    dsimp only
    split
    · exact performHead_sound taken _
    · exact ih (taken.frame (countNotMine_writes _)) (Nat.le_refl _)

theorem fillSlot_sound (h : Sound m own hand d) : Sound m own hand (fillSlot d) := by
  unfold fillSlot
  split
  · exact h
  · exact h.frame (endpoint_writes d _ id id)
  · exact h
  · exact h.frame (placeAttention_writes d)
  · split
    · exact h.frame (placeAttention_writes d)
    · exact takeHead_sound h _ (Nat.le_refl _)

theorem settle_sound (h : Sound m own hand d) : Sound m own hand (settle d) :=
  trunkChoose_sound (fillSlot_sound (trunkChoose_sound (fillSlot_sound h)))

/- ### Every step -/

theorem Device.Moves.sound {d' : Device} (moves : d.Moves d') (h : Sound none [] [] d)
    (tables : d.tables.checked) : Sound none [] [] d' := by
  have at_ (now : Nat) : Sound none [] [] { d with now := now } := h.frame (now_writes d now)
  cases moves with
  | stays => exact h
  | resets now node inReset =>
    have idle (k : Branch) :
        ({ Device.powerOn now inReset node with choices := d.choices }.seq k).inFlight = none := by
      cases k <;> rfl
    exact ⟨refs_allFree, (poolOk_iff _).2 (poolAgrees_allFree ..), List.Pairwise.nil,
      fun k _ => Sequencer.txnOk_of_idle (idle k)⟩
  | trunkArrival now bytes => exact settle_sound (trunkArrival_sound (at_ now) tables bytes)
  | lockWindow =>
    refine settle_sound ?_
    unfold lockWindowDue
    split
    · exact localStart_sound (at_ _)
    · exact h
  | localCycle =>
    refine settle_sound ?_
    unfold localCycleDue
    split
    · exact localStart_sound (at_ _)
    · exact h
  | trunkComplete now => exact settle_sound (trunkComplete_sound (at_ now))
  | shaperRelease l c => exact settle_sound (shaperRelease_sound h l c)
  | branchArrival k start now bytes =>
    exact settle_sound (branchArrival_sound (at_ now) tables k start bytes)
  | replyTimeout k => exact settle_sound (replyTimeoutDue_sound h tables k)
  | branchComplete k => exact settle_sound (branchComplete_sound h tables k)

/-- Settles O60: every event keeps the part sound with no reference in hand. -/
theorem everyStepKeepsTheReferences : Obligations.EveryStepKeepsTheReferences :=
  fun _ _ pool slots tables txn refs h =>
    ((step_moves h).sound (sound_of_refsOk pool slots txn refs) tables.1).refsOk

end Sys2Proof.Machine

/-! Counters, meters, thinning, probe countdowns and segments: what one operation does, and leaves
alone. -/

namespace Sys2Proof.Machine

open Device (Writes)

set_option Elab.async false in
/-- Two parts that agree in every field are the same. -/
theorem Device.eq_of_agrees {d d' : Device} (h : ∀ f : Field, f.agrees d d') : d' = d := by
  obtain ⟨⟩ := d
  obtain ⟨⟩ := d'
  simp only [Device.mk.injEq]
  exact ⟨h .now, h .inReset, h .choices, h .lines, h .trunkAdm, h .branchAdm, h .openedAt,
    h .accumulators, h .meters, h .circuitCounters, h .pool, h .timer, h .egress, h .slots,
    h .trunkTx, h .seqs, h .stations, h .contexts, h .tables, h .change, h .endpoint⟩

/-- A part that an operation leaves, said by a record update: what the operation writes is as it
leaves it, and every other field as it was. -/
theorem Device.Writes.eq_of {fs : List Field} {d d' e : Device} (w : Writes fs d d')
    (h : ∀ f : Field, if f ∈ fs then f.agrees e d' else f.agrees d e) : d' = e := by
  refine Device.eq_of_agrees fun f => ?_
  have here := h f
  by_cases mem : f ∈ fs
  · rw [if_pos mem] at here
    exact here
  · rw [if_neg mem] at here
    have same := w.same f mem
    cases f <;> exact Eq.trans same (Eq.symm here)

/- ### Counters of a reason (R40, R44, R88) -/

/-- The line counters after a reason has been counted on a line. -/
theorem lineIf_countReason (d : Device) (l m : Line) (cid : Nat) (r : Reason) :
    (d.countReason l cid r).lineIf m = (d.bumpLine l r.lineCounter).lineIf m := by
  unfold Device.countReason
  split
  · rfl
  · unfold Device.bumpCircuit Device.bumpCircuitBy
    split <;> rfl

theorem lineCount_countReason (d : Device) (l m : Line) (cid : Nat) (r : Reason) (e : LineCounter) :
    (d.countReason l cid r).lineCount m e =
      if m = l ∧ e = r.lineCounter then raiseCount (d.lineCount l r.lineCounter) 1
      else d.lineCount m e := by
  unfold Device.lineCount
  rw [lineIf_countReason]
  exact lineCount_bumpLineBy ..

/-- A circuit's counter rises only while its CID names a present circuit (R44). -/
theorem circuitCount_bumpCircuitBy (d : Device) (cid other : Nat) (c e : CircuitCounter) (n : Nat) :
    (d.bumpCircuitBy cid c n).circuitCount other e =
      if d.circuit? cid ≠ none ∧ other = cid ∧ e = c then raiseCount (d.circuitCount cid c) n
      else d.circuitCount other e := by
  unfold Device.bumpCircuitBy
  split
  · rename_i absent
    rw [if_neg fun h => h.1 absent]
  · rename_i circuit present
    have here : d.circuit? cid ≠ none := by
      rw [present]
      exact Option.some_ne_none circuit
    unfold Device.circuitCount
    dsimp only
    rw [Table.get_put]
    by_cases same : other = cid
    · rw [if_pos same, get_bump]
      by_cases counter : e = c
      · rw [if_pos (congrArg _ counter), if_pos ⟨here, same, counter⟩]
      · rw [if_neg fun h => counter (CircuitCounter.pos_inj h), if_neg fun h => counter h.2.2, same]
    · rw [if_neg same, if_neg fun h => same h.2.1]

theorem circuitCount_countReason (d : Device) (l : Line) (cid other : Nat) (r : Reason)
    (e : CircuitCounter) :
    (d.countReason l cid r).circuitCount other e =
      if d.circuit? cid ≠ none ∧ other = cid ∧ r.circuitCounter = some e then
        raiseCount (d.circuitCount cid e) 1
      else d.circuitCount other e := by
  unfold Device.countReason
  split
  · rename_i unknown
    rw [unknown, if_neg fun h => nomatch h.2.2]
    rfl
  · rename_i c known
    have bumped := circuitCount_bumpCircuitBy (d.bumpLine l r.lineCounter) cid other c e 1
    unfold Device.bumpCircuit
    rw [bumped, known]
    by_cases counter : e = c
    · subst counter
      simp only [and_true]
      rfl
    · rw [if_neg fun h => counter h.2.2, if_neg fun h => counter (Option.some.inj h.2.2).symm]
      rfl

/-- Settles O13. -/
theorem reasonIsCountedOnLineAndCircuit : Obligations.ReasonIsCountedOnLineAndCircuit := by
  intro d l cid r d'
  refine ⟨(countReason_writes d l cid r).eq_of fun f => ?_, ?_, fun l' c other => ?_, fun l' => ?_,
    fun c present counter => ?_, fun cid' c other => ?_⟩
  · cases f <;> exact rfl
  · rw [lineCount_countReason, if_pos ⟨rfl, rfl⟩]
    rfl
  · rw [lineCount_countReason, if_neg fun h => other.elim (· h.1) (· h.2)]
  · rw [lineIf_countReason]
    unfold Device.bumpLine Device.bumpLineBy
    rw [lineIf_setLineIf]
    split
    · rename_i same
      rw [same]
    · rfl
  · rw [circuitCount_countReason, if_pos ⟨present, rfl, counter⟩]
    rfl
  · rw [circuitCount_countReason, if_neg]
    rintro ⟨present, same, counter⟩
    rcases other with other | other | absent
    · exact other same
    · exact other counter
    · exact present absent

/- ### Meters (R49) -/

/-- A meter is refilled by its own settings, and once. -/
theorem meterState_refillMeters (is : List Nat) (d : Device) (m : Nat) (nodup : is.Nodup) :
    (is.foldl refillMeter d).meterState m =
      if m ∈ is then (d.meterState m).refilled (d.meterSettings m) else d.meterState m := by
  induction is generalizing d with
  | nil => rfl
  | cons i is ih =>
    obtain ⟨fresh, nodup⟩ := List.nodup_cons.1 nodup
    have put : (refillMeter d i).meterState m = _ := meterState_setMeterState ..
    rw [List.foldl_cons, ih _ nodup, put, show (refillMeter d i).meterSettings m = d.meterSettings m
      from rfl]
    by_cases same : m = i
    · subst same
      simp [fresh]
    · simp [same]

/-- Settles O17: each meter is refilled once, by its own settings. -/
theorem metersAreRefilled : Obligations.MetersAreRefilled := by
  intro d
  refine ⟨?_, ?_⟩
  · have w := refillMeters_writes d
    generalize refillMeters d = d' at w ⊢
    exact w.eq_of fun f => by cases f <;> exact rfl
  intro m below settings x
  have refilled : (refillMeters d).meterState m = x.refilled settings :=
    (meterState_refillMeters (List.range 64) d m List.nodup_range).trans
      (if_pos (List.mem_range.2 below))
  rw [refilled]
  unfold MeterState.refilled
  refine ⟨fun pass => ?_, fun meter fits => ?_, fun meter spills => ?_⟩
  · rw [pass]
  · rw [meter]
    exact if_pos fits
  · rw [meter]
    exact if_neg (Nat.not_le.2 spills)

/- ### Thinning (R51 to R53) -/

/-- A thinning decision adds the weight and, where it discards, takes 1024 away (R53). -/
theorem thinLine_accounts (l : Line) (d : Device) :
    (if d.thins l then 1 else 0) * 1024 + (thinLine l d).accumulators.get l = d.thinningSum l := by
  unfold thinLine Device.thins
  dsimp only
  rw [PerLine.get_set_self]
  simp only [decide_eq_true_eq]
  split <;> omega

/-- Settles O18, by induction on the decisions: each adds the one weight to the accumulator. -/
theorem thinningDiscardsItsShare : Obligations.ThinningDiscardsItsShare := by
  have accounts : ∀ (n : Nat) (d : Device) (l : Line) (w : Nat),
      d.tables.thinning.getD (min 15 (d.pool.usage.get l / 32)) 0 = w →
      d.accumulators.get l ≤ 1023 → w ≤ 1024 →
      (thinnings l n d).1 * 1024 + (thinnings l n d).2.accumulators.get l =
        d.accumulators.get l + n * w ∧ (thinnings l n d).2.accumulators.get l ≤ 1023 := by
    intro n
    induction n with
    | zero =>
      intro d l w _ below _
      refine ⟨?_, below⟩
      show 0 * 1024 + d.accumulators.get l = d.accumulators.get l + 0 * w
      omega
    | succ n ih =>
      intro d l w weight below most
      have one := thinLine_accounts l d
      have sum : d.thinningSum l = d.accumulators.get l + w := by
        unfold Device.thinningSum
        rw [weight]
      have below' : (thinLine l d).accumulators.get l ≤ 1023 := by
        have most := weight ▸ most
        unfold thinLine
        dsimp only
        rw [PerLine.get_set_self, sum]
        split <;> omega
      obtain ⟨total, last⟩ := ih (thinLine l d) l w weight below' most
      refine ⟨?_, last⟩
      rw [sum] at one
      show ((thinnings l n (thinLine l d)).1 + (if d.thins l then 1 else 0)) * 1024 +
        (thinnings l n (thinLine l d)).2.accumulators.get l = d.accumulators.get l + (n + 1) * w
      have expand : (n + 1) * w = n * w + w := Nat.succ_mul n w
      rw [expand]
      linarith
  intro d l n w below most
  obtain ⟨total, last⟩ := accounts n d l w rfl below most
  refine ⟨total, last, ?_⟩
  have round := accounts 1024 d l w rfl below most
  generalize thinnings l 1024 d = x at round ⊢
  omega

/- ### Probe countdowns (R140) -/

/-- Two stations of the part have one record only when they are the same. -/
theorem stationIndex_inj {k j : Branch} {s t : Nat} (hs : 1 ≤ s ∧ s ≤ 30) (ht : 1 ≤ t ∧ t ≤ 30)
    (h : stationIndex k s = stationIndex j t) : k = j ∧ s = t := by
  unfold stationIndex at h
  have number : k.toNat = j.toNat := by omega
  refine ⟨?_, by omega⟩
  revert number
  cases k <;> cases j <;> decide

set_option Elab.async false in
/-- A station's record after the write of a station's record. -/
theorem station_setStation (d : Device) (k j : Branch) (s t : Nat) (x : Station) :
    (d.setStation k s x).station j t =
      if stationIndex j t = stationIndex k s then x else d.station j t := Table.get_put ..

/-- A station's record after its branch's countdown has reached another, or it (R140). -/
def Station.countedDown (x : Station) : Station :=
  if x.state = .faulted then { x with probeCountdown := x.probeCountdown - 1 } else x

theorem station_countDownStation (d : Device) (k j : Branch) (s t : Nat) :
    (countDownStation k d s).station j t =
      if stationIndex j t = stationIndex k s then (d.station k s).countedDown else d.station j t := by
  unfold countDownStation Station.countedDown
  dsimp only
  by_cases runs : (d.station k s).state = .faulted ∧ 0 < (d.station k s).probeCountdown
  · rw [if_pos runs, if_pos runs.1, station_setStation]
  · rw [if_neg runs]
    split
    · rename_i same
      have here : d.station j t = d.station k s := by
        unfold Device.station
        rw [same]
      rw [here]
      split
      · rename_i faulted
        have stopped : (d.station k s).probeCountdown - 1 = (d.station k s).probeCountdown := by
          rw [Nat.eq_zero_of_not_pos fun h => runs ⟨faulted, h⟩]
        rw [stopped]
      · rfl
    · rfl

/-- The stations of a branch after its countdowns have run over some of them. -/
theorem station_countDownStations (ss : List Nat) (d : Device) (k j : Branch) (t : Nat)
    (nodup : ss.Nodup) (range : ∀ s ∈ ss, 1 ≤ s ∧ s ≤ 30) (ht : 1 ≤ t ∧ t ≤ 30) :
    (ss.foldl (countDownStation k) d).station j t =
      if j = k ∧ t ∈ ss then (d.station j t).countedDown else d.station j t := by
  induction ss generalizing d with
  | nil => simp
  | cons s ss ih =>
    obtain ⟨fresh, nodup⟩ := List.nodup_cons.1 nodup
    rw [List.foldl_cons, ih _ nodup fun s' h => range s' (List.mem_cons_of_mem _ h),
      station_countDownStation]
    by_cases here : stationIndex j t = stationIndex k s
    · obtain ⟨rfl, rfl⟩ := stationIndex_inj ht (range s List.mem_cons_self) here
      simp [fresh]
    · have other : ¬ (j = k ∧ t = s) := fun h => here (by rw [h.1, h.2])
      rw [if_neg here]
      by_cases branch : j = k
      · have station : t ≠ s := fun h => other ⟨branch, h⟩
        simp [branch, station]
      · simp [branch]

/-- Settles O36: each branch's countdowns run once, and on its own stations. -/
theorem probeCountdownsRunOnOpenBranches : Obligations.ProbeCountdownsRunOnOpenBranches := by
  intro d
  refine ⟨?_, ?_⟩
  · have w := countDownProbes_writes d
    generalize countDownProbes d = d' at w ⊢
    exact w.eq_of fun f => by cases f <;> exact rfl
  intro k st low high x
  have all : ∀ s ∈ stationAddresses, 1 ≤ s ∧ s ≤ 30 := by decide
  have mem : st ∈ stationAddresses := List.mem_range'_1.2 ⟨low, by omega⟩
  have branches : ∀ (ks : List Branch) (d : Device), ks.Nodup →
      (ks.foldl (fun d k => if d.admission k = .opened then stationAddresses.foldl (countDownStation k) d
        else d) d).station k st =
      if k ∈ ks ∧ d.admission k = .opened then (d.station k st).countedDown else d.station k st := by
    intro ks
    induction ks with
    | nil => intro d _; simp
    | cons j ks ih =>
      intro d nodup
      obtain ⟨fresh, nodup⟩ := List.nodup_cons.1 nodup
      have one : (if d.admission j = .opened then stationAddresses.foldl (countDownStation j) d
          else d).station k st =
          if k = j ∧ d.admission j = .opened then (d.station k st).countedDown else d.station k st := by
        split
        · rename_i opened
          rw [station_countDownStations _ _ _ _ _ (by decide) all ⟨low, high⟩]
          simp [mem, opened]
        · rename_i shut
          simp [shut]
      have adm : (if d.admission j = .opened then stationAddresses.foldl (countDownStation j) d
          else d).admission k = d.admission k := by
        split
        · exact congrArg (PerBranch.get · k)
            (Writes.foldl (fun d s => countDownStation_writes d j s) _ d).branchAdm
        · rfl
      rw [List.foldl_cons, ih _ nodup, one, adm]
      by_cases same : k = j
      · subst same
        simp [fresh]
      · simp [same]
  have counted := branches Branch.all d (by decide)
  have mem : k ∈ Branch.all := by cases k <;> decide
  refine counted.trans ?_
  by_cases opened : d.admission k = .opened
  · rw [if_pos ⟨mem, opened⟩]
    unfold Station.countedDown
    simp only [opened, true_and]
    rfl
  · rw [if_neg fun h => opened h.2, if_neg fun h => opened h.1]

/- ### Segments (R58, R144) -/

theorem pieces_flatten (n : Nat) (payload : List Byte) (fits : payload.length ≤ 128 * n) :
    (pieces n payload).flatten = payload := by
  induction n generalizing payload with
  | zero => exact (List.eq_nil_of_length_eq_zero (by omega)).symm
  | succ n ih =>
    unfold pieces
    have blocks : Config.blockBytes = 128 := rfl
    rw [List.flatten_cons, ih _ (by rw [List.length_drop]; omega)]
    exact List.take_append_drop ..

/-- The segment at a place, counting from 0, is 128 bytes of the payload, or what is left. -/
theorem pieces_getD (n i : Nat) (payload : List Byte) (h : i < n) :
    (pieces n payload).getD i [] = (payload.drop (128 * i)).take 128 := by
  induction n generalizing i payload with
  | zero => omega
  | succ n ih =>
    unfold pieces
    cases i with
    | zero => rfl
    | succ i =>
      rw [List.getD_cons_succ, ih i _ (by omega), List.drop_drop, Nat.mul_succ, Nat.add_comm]
      rfl

/-- Settles O39. -/
theorem segmentsCoverTheFrame : Obligations.SegmentsCoverTheFrame := by
  intro payload n segments
  have some : 1 ≤ n := Nat.le_max_left ..
  have fits : payload.length ≤ 128 * n := by omega
  have least : 128 * (n - 1) ≤ payload.length := by omega
  have length (i : Nat) (h : i < n) :
      (segments.getD i []).length = min 128 (payload.length - 128 * i) := by
    rw [pieces_getD n i payload h, List.length_take, List.length_drop]
  refine ⟨pieces_flatten n payload fits, pieces_length n payload, fun s low high => ?_, ?_, fun full => ?_,
    ?_, fun s low high => ?_⟩
  · rw [length (s - 1) (by omega)]
    omega
  · rw [length (n - 1) (by omega)]
    omega
  · rw [length (n - 1) (by omega)]
    omega
  · rw [length (n - 1) (by omega)]
    omega
  · unfold segmentPosition
    rfl

end Sys2Proof.Machine

/-! Frames that are discarded where they arrive: errored frames, and frames on a branch that nothing
waits for. -/

namespace Sys2Proof.Machine

open Device (Writes)

set_option Elab.async false in
/-- An event on a running part that leaves it, before the event's end, as a given part is. -/
theorem next_event {s : State} {now : Nat} {act : Device → Device} {d d' : Device}
    (runs : s.dev.inReset = false) (acts : act { s.dev with now := now } = d) (ends : settle d = d') :
    (.next { s with dev := s.dev.event now act } : Host.Outcome State Fault Refusal) =
      .next { s with dev := d' } := by
  rw [Device.event_running runs, acts, ends]

theorem lineIf_setLineIf_self (d : Device) (l : Line) (x : LineIf) : (d.setLineIf l x).lineIf l = x :=
  PerLine.get_set_self ..

theorem setLineIf_setLineIf (d : Device) (l : Line) (x y : LineIf) :
    (d.setLineIf l x).setLineIf l y = d.setLineIf l y := by
  unfold Device.setLineIf
  rw [PerLine.set_set]

/- ### Errored frames (R9, R10, R12) -/

/-- A line's interface after a header error in a frame that it has received (R9, R10). -/
def LineIf.afterHeaderError (x : LineIf) (mode : CaptureMode) (cycle : Cycle) (rx : RxBuffer) : LineIf :=
  { x with
    rx := rx, headerError := true,
    capture := x.capture.afterError mode { bytes := rdN rx.stored 0 7, cycle := cycle },
    counters := bump x.counters 2 1 }

/-- A line's interface after a payload error in a frame that it has received (R12). -/
def LineIf.afterPayloadError (x : LineIf) (rx : RxBuffer) : LineIf :=
  { x with rx := rx, payloadError := true, counters := bump x.counters 3 1 }

theorem headerErrorOn_collect (d : Device) (l : Line) (size : Nat) (bytes : List Byte) :
    headerErrorOn l (collect l size bytes d) =
      let y := (d.lineIf l).afterHeaderError (d.settings l).captureMode d.timer.cycle
        (received size bytes)
      if (d.lineIf l).capture.filled.isNone then
        raiseEvent .headerCapture (some l) none y.capture.errorCount (d.setLineIf l y)
      else d.setLineIf l y := by
  unfold headerErrorOn collect Device.bumpLine Device.bumpLineBy
  simp only [lineIf_setLineIf_self, setLineIf_setLineIf]
  rfl

theorem payloadErrorOn_collect (d : Device) (l : Line) (size : Nat) (bytes : List Byte) :
    payloadErrorOn l (collect l size bytes d) =
      d.setLineIf l ((d.lineIf l).afterPayloadError (received size bytes)) := by
  unfold payloadErrorOn collect Device.bumpLine Device.bumpLineBy
  simp only [lineIf_setLineIf_self, setLineIf_setLineIf]
  rfl

/-- What a capture record holds after a header error, by its mode (R10). -/
theorem afterError_filled (c : Capture) (mode : CaptureMode) (now : Captured) :
    (c.afterError mode now).filled =
      if c.filled = none ∨ mode = .latest then some now else c.filled := by
  unfold Capture.afterError
  rcases c.filled with _ | old <;> cases mode <;> simp

theorem waiting_eq_none {d : Device} {k : Branch}
    (h : ∀ r, (d.seq k).inFlight = some r → r.replyWait = none) : d.waiting k = none := by
  refine Option.filter_eq_none_iff.2 fun r flies => ?_
  rw [h r flies]
  exact fun h => nomatch h

/-- An errored arrival on a branch where no attempt waits leads to nothing more (R9, R12). -/
theorem erroredArrival_unawaited {d : Device} {k : Branch}
    (h : ∀ r, (d.seq k).inFlight = some r → r.replyWait = none) : erroredArrival k d = d := by
  unfold erroredArrival
  rw [waiting_eq_none h]

/-- Neither the line interfaces nor the instant bear on whether a part is quiet. -/
theorem quiet_setLineIf {d : Device} (quiet : d.quiet) (now : Nat) (l : Line) (y : LineIf) :
    ({ d with now := now }.setLineIf l y).mgmtReady ∧ ({ d with now := now }.setLineIf l y).trunkQuiet :=
  quiet.2

/-- A branch that is not SHUT does not ignore a frame that began when it had opened (R20). -/
theorem ignores_eq_false {d : Device} {k : Branch} {start : Nat} (adm : d.admission k ≠ .shut)
    (opened : d.openedAt.get k ≤ start) : d.ignores k start = false := by
  unfold Device.ignores
  rw [beq_eq_false_iff_ne.2 adm, decide_eq_false (Nat.not_lt.2 opened)]
  rfl

/-- Settles O10. -/
theorem erroredFrameIsCountedAndCaptured : Obligations.ErroredFrameIsCountedAndCaptured := by
  intro now bytes s l quiet size rx x cap headed afterHeader afterPayload
  let d : Device := { s.dev with now := now }
  have runs := quiet.1
  have captured : (x.capture.afterError (s.dev.settings l).captureMode
      { bytes := rdN rx.stored 0 7, cycle := s.dev.timer.cycle }) = cap := by
    have filled := afterError_filled x.capture (s.dev.settings l).captureMode
      { bytes := rdN rx.stored 0 7, cycle := s.dev.timer.cycle }
    exact congrArg₂ Capture.mk filled rfl
  have headedEq : d.setLineIf l (x.afterHeaderError (s.dev.settings l).captureMode
      s.dev.timer.cycle rx) = headed := by
    unfold LineIf.afterHeaderError
    rw [captured]
    rfl
  obtain ⟨ready, still⟩ := quiet_setLineIf quiet now l
    (x.afterHeaderError (s.dev.settings l).captureMode s.dev.timer.cycle rx)
  have headerEnds : settle (headerErrorOn l (collect l size bytes d)) = afterHeader := by
    have header := headerErrorOn_collect d l size bytes
    dsimp only at header
    rw [header]
    change settle (if x.capture.filled.isNone then raiseEvent .headerCapture (some l) none
      (x.capture.afterError (s.dev.settings l).captureMode
        { bytes := rdN rx.stored 0 7, cycle := s.dev.timer.cycle }).errorCount
      (d.setLineIf l (x.afterHeaderError (s.dev.settings l).captureMode s.dev.timer.cycle rx))
      else d.setLineIf l (x.afterHeaderError (s.dev.settings l).captureMode s.dev.timer.cycle rx)) = _
    change ({ s.dev with now := now }.setLineIf l _).mgmtReady at ready
    rw [headedEq] at ready still ⊢
    rw [captured]
    by_cases empty : x.capture.filled = none
    · rw [if_pos (by rw [empty]; rfl), settle_raiseEvent _ _ _ _ ready still]
      exact (if_pos empty).symm
    · rw [if_neg fun h => empty (Option.isNone_iff_eq_none.1 h), settle_quiet ready still]
      exact (if_neg empty).symm
  have payloadEnds : settle (payloadErrorOn l (collect l size bytes d)) = afterPayload := by
    obtain ⟨ready, still⟩ := quiet_setLineIf quiet now l (x.afterPayloadError rx)
    rw [payloadErrorOn_collect]
    exact settle_quiet ready still
  refine ⟨fun trunk header => ?_, fun trunk payload => ?_, fun k start branch adm opened idle unawaited => ?_⟩
  · subst trunk
    have arrives : trunkArrival bytes d = headerErrorOn .t (collect .t 1033 bytes d) := by
      have checked : checkTrunk (received 1033 bytes) = .headerError := header
      exact congrArg (trunkChecked · (collect .t 1033 bytes d)) checked
    exact ⟨next_event runs arrives headerEnds, next_event runs arrives headerEnds⟩
  · subst trunk
    have arrives : trunkArrival bytes d = payloadErrorOn .t (collect .t 1033 bytes d) := by
      have checked : checkTrunk (received 1033 bytes) = .payloadError := payload
      exact congrArg (trunkChecked · (collect .t 1033 bytes d)) checked
    exact ⟨next_event runs arrives payloadEnds, next_event runs arrives payloadEnds⟩
  · subst branch
    have sized : size = 137 := if_neg (by cases k <;> decide)
    have arrives := branchArrival_received (d := d) (ignores_eq_false adm opened)
      (Device.receiverOff_idle idle) bytes
    have unawaited' {d' : Device} (w : Writes [.lines, .endpoint] d d') :
        ∀ r, (d'.seq k).inFlight = some r → r.replyWait = none := by
      rw [show d'.seq k = s.dev.seq k from congrArg (PerBranch.get · k) w.seqs]
      exact unawaited
    have collected := collect_writes d k.line 137 bytes
    refine ⟨fun header => ?_, fun payload => ?_⟩
    · rw [show rx = received 137 bytes from congrArg (received · bytes) sized] at header
      rw [sized] at headerEnds
      refine next_event runs (arrives.trans ?_) headerEnds
      exact (congrArg (branchChecked k · _) header).trans (erroredArrival_unawaited
        (unawaited' (collected.mono.andThen (headerErrorOn_writes ..))))
    · rw [show rx = received 137 bytes from congrArg (received · bytes) sized] at payload
      rw [sized] at payloadEnds
      refine next_event runs (arrives.trans ?_) payloadEnds
      exact (congrArg (branchChecked k · _) payload).trans (erroredArrival_unawaited
        (unawaited' (collected.mono.andThen (payloadErrorOn_writes ..))))

/- ### Frames that nothing waits for (R2, R13, R20, R130) -/

/-- A valid frame that no attempt waits for, after it has been received and counted (R8, R130). -/
theorem unexpectedFrame_received (d : Device) (k : Branch) (bytes : List Byte) (f : BranchFrame) :
    unexpectedFrame k f ((collect k.line 137 bytes d).bumpLine k.line .framesReceived) =
      let x := d.lineIf k.line
      let counted := d.setLineIf k.line { x with
        rx := received 137 bytes, counters := bump (bump x.counters 0 1) 33 1 }
      let st := d.station k f.station
      if f.station = 0 then counted
      else counted.setStation k f.station { st with counters := bump st.counters 8 1 } := by
  unfold unexpectedFrame collect Device.bumpBoth Device.bumpLine Device.bumpLineBy
  simp only [lineIf_setLineIf_self, setLineIf_setLineIf]
  rfl

set_option Elab.async false in
theorem validArrival_unawaited {d : Device} {k : Branch}
    (h : ∀ r, (d.seq k).inFlight = some r → r.replyWait = none) (f : BranchFrame) :
    validArrival k f d = unexpectedFrame k f d := by
  unfold validArrival
  rw [waiting_eq_none h]

/-- Settles O11. -/
theorem unwantedBranchFrameIsOnlyCounted : Obligations.UnwantedBranchFrameIsOnlyCounted := by
  refine ⟨?_, ?_⟩
  · intro k start now bytes s quiet x counted
    refine ⟨fun ignored => ?_, fun adm opened tx sends other => ?_⟩
    · have ignores : ({ s.dev with now := now } : Device).ignores k start = true := by
        unfold Device.ignores
        rcases ignored with shut | early
        · rw [Bool.or_eq_true, beq_iff_eq]
          exact .inl shut
        · rw [Bool.or_eq_true, decide_eq_true_eq]
          exact .inr early
      obtain ⟨ready, still⟩ := quiet_setLineIf quiet now k.line
        { x with counters := bump x.counters 4 bytes.length }
      exact next_event quiet.1 (branchArrival_ignored ignores bytes) (settle_quiet ready still)
    · refine next_event quiet.1 (branchArrival_off (d := { s.dev with now := now })
        (ignores_eq_false adm opened) ?_ bytes) (settle_quiet quiet.2.1 quiet.2.2)
      rw [Device.receiverOff_sending (d := { s.dev with now := now }) sends]
      exact bne_iff_ne.2 other
  · intro k start now bytes f s quiet sending adm opened unawaited passed x counted st
    have on : ({ s.dev with now := now } : Device).receiverOff k = false := by
      rcases sends : (s.dev.seq k).sending with _ | tx
      · exact Device.receiverOff_idle sends
      · rw [Device.receiverOff_sending (d := { s.dev with now := now }) sends, sending tx sends]
        exact bne_self_eq_false' ..
    have unexpected := (validArrival_unawaited (d := (collect k.line 137 bytes
      { s.dev with now := now }).bumpLine k.line .framesReceived) unawaited f).trans
      (unexpectedFrame_received ..)
    refine next_event quiet.1 ((branchArrival_received (d := { s.dev with now := now })
      (ignores_eq_false adm opened) on bytes).trans ((congrArg (branchChecked k · _) passed).trans
      unexpected)) ?_
    dsimp only
    split
    · exact settle_quiet quiet.2.1 quiet.2.2
    · exact settle_quiet quiet.2.1 quiet.2.2

end Sys2Proof.Machine

/-! Frames on the wire: the two checks as one condition each, and that a branch frame reads back as it
was sent. -/

namespace Sys2Proof.Machine

/- ### The two checks (R6, R7) -/

set_option Elab.async false in
theorem crc16_concat (p : List Byte) (b : Byte) : crc16 (p ++ [b]) = crcByte (crc16 p) b :=
  List.foldl_concat ..

/-- The check of the nine digits, the CRC-16 of the spec's example (R7). -/
theorem crc16_digits :
    crc16 [0x31, 0x32, 0x33, 0x34, 0x35, 0x36, 0x37, 0x38, 0x39] = 0x29B1#16 := by
  unfold crc16
  simp only [List.foldl_cons, List.foldl_nil]
  decide +kernel

theorem crcByte_eq_repeat (c : BitVec 16) (b : Byte) :
    crcByte c b = Nat.repeat crcBit 8 (c ^^^ (b.setWidth 16 <<< 8)) := rfl

theorem be2_toNat {n : Nat} (h : n < 65536) : 256 * (byteOf (n / 256)).toNat + (byteOf n).toNat = n := by
  rw [byteOf_toNat_mod, byteOf_toNat_mod]
  omega

theorem withCheck_of_ne_nil {p : List Byte} (h : p ≠ []) :
    withCheck p = p ++ be2 (crc16 p).toNat := if_neg fun e => h (List.eq_nil_of_length_eq_zero e)

/- ### The checks of an arrival as one condition each (R8) -/

theorem checkPayload_eq {α : Type} (rx : RxBuffer) (n : Nat) (frame : List Byte → α) :
    checkPayload rx n frame =
      if rx.count = (if n = 0 then 7 else 9 + n) ∧
          (n = 0 ∨ rd2 rx.stored (7 + n) = (crc16 ((rx.stored.drop 7).take n)).toNat) then
        .passed (frame ((rx.stored.drop 7).take n))
      else .payloadError := by
  unfold checkPayload frameSize
  dsimp only
  by_cases size : rx.count = (if n = 0 then 7 else 9 + n)
  · rw [if_neg fun h => h size]
    by_cases check : n = 0 ∨ rd2 rx.stored (7 + n) = (crc16 ((rx.stored.drop 7).take n)).toNat
    · rw [if_neg fun h => check.elim h.1 h.2, if_pos ⟨size, check⟩]
    · rw [if_pos (not_or.1 check), if_neg fun h => check h.2]
  · rw [if_pos size, if_neg fun h => size h.1]

/-- The size and the sum of a header hold (R6, R8). -/
def RxBuffer.sums (rx : RxBuffer) (n : Nat) : Bool :=
  decide (n ≤ rx.count) && headerSumOk (rx.stored.take n)

theorem sums_iff (rx : RxBuffer) (n : Nat) :
    rx.sums n = true ↔ n ≤ rx.count ∧ sumBytes (rx.stored.take n) % 256 = 0 := by
  unfold RxBuffer.sums headerSumOk
  rw [Bool.and_eq_true, decide_eq_true_eq, beq_iff_eq]

theorem header_fails_eq (rx : RxBuffer) (n : Nat) :
    (decide (rx.count < n) || !headerSumOk (rx.stored.take n)) = !rx.sums n := by
  unfold RxBuffer.sums
  simp only [Bool.not_and, ← decide_not, Nat.not_le]

/-- The ranges of a trunk DATA header (R3). -/
theorem trunkRanges_fail_iff (bs : List Byte) :
    (decide (4095 < rd2 bs 1) || decide (7 < rd1 bs 3) || decide (Config.maxPayload < rd2 bs 4)) = true ↔
      ¬ (rd2 bs 1 ≤ 4095 ∧ rd1 bs 3 ≤ 7 ∧ rd2 bs 4 ≤ 1024) := by
  simp only [Bool.or_eq_true, decide_eq_true_eq]
  have most : Config.maxPayload = 1024 := rfl
  omega

theorem checkTrunk_eq (rx : RxBuffer) :
    checkTrunk rx =
      if rd1 rx.stored 0 = 1 ∧ rx.sums 4 = true then
        if rx.count = 4 then .passed (.cycle (BitVec.ofNat 16 (rd2 rx.stored 1))) else .payloadError
      else if rd1 rx.stored 0 = 2 ∧ rx.sums 7 = true ∧ rd2 rx.stored 1 ≤ 4095 ∧ rd1 rx.stored 3 ≤ 7 ∧
          rd2 rx.stored 4 ≤ 1024 then
        checkPayload rx (rd2 rx.stored 4) (.data (rd2 rx.stored 1) (rd1 rx.stored 3))
      else .headerError := by
  unfold checkTrunk
  simp only [header_fails_eq, trunkRanges_fail_iff]
  by_cases empty : rx.count = 0
  · have short (n : Nat) (some : 0 < n) : rx.sums n = false := by
      unfold RxBuffer.sums
      rw [empty, decide_eq_false (Nat.not_le.2 some), Bool.false_and]
    simp [empty, short]
  · by_cases cycle : rd1 rx.stored 0 = 1
    · cases header : rx.sums 4 <;> simp [empty, cycle]
    · by_cases data : rd1 rx.stored 0 = 2
      · cases header : rx.sums 7
        · simp [empty, data]
        · simp only [empty, data, Bool.not_true, Bool.false_eq_true, if_false, if_true, true_and,
            ite_not, OfNat.ofNat_ne_one, false_and]
      · simp [empty, cycle, data]

/- ### Branch frames (R4, R5) -/

theorem ofCode_branchCode (kind : BranchKind) : BranchKind.ofCode kind.code = some kind := by
  cases kind <;> rfl

theorem ofCode_eq_none {n : Nat} (h : ∀ kind : BranchKind, n ≠ kind.code) : BranchKind.ofCode n = none := by
  unfold BranchKind.ofCode
  split
  · exact absurd rfl (h .cycle)
  · exact absurd rfl (h .exchange)
  · exact absurd rfl (h .service)
  · exact absurd rfl (h .deliver)
  · exact absurd rfl (h .data)
  · exact absurd rfl (h .empty)
  · exact absurd rfl (h .ack)
  · exact absurd rfl (h .busy)
  · exact absurd rfl (h .fault)
  · rfl

set_option Elab.async false in
/-- The length range of a kind (R4), which no kind has above 128. -/
theorem lengthOk_iff (kind : BranchKind) (n : Nat) :
    kind.lengthOk n = true ↔ if kind = .exchange ∨ kind = .deliver ∨ kind = .data then n ≤ 128
      else if kind = .fault then n = 1 else n = 0 := by
  cases kind <;> simp [BranchKind.lengthOk]

theorem le_of_lengthOk {kind : BranchKind} {n : Nat} (h : kind.lengthOk n = true) : n ≤ 128 := by
  cases kind <;> simp only [BranchKind.lengthOk, beq_iff_eq, decide_eq_true_eq] at h <;> omega

/-- The field ranges of a branch header as the rules say them (R4, R5). -/
theorem branchRangesOk_iff (kind : BranchKind) (bs : List Byte) :
    branchRangesOk kind bs = true ↔
      (if kind = .cycle then rd1 bs 1 = 0 else 1 ≤ rd1 bs 1 ∧ rd1 bs 1 ≤ 30) ∧
      (kind = .deliver ∨ kind = .data ∨ rd1 bs 2 % 4 = 0) ∧
      (kind = .cycle ∨ rd2 bs 3 % 8192 ≤ 4095) ∧ kind.lengthOk (rd1 bs 5) = true := by
  have station : (if kind = .cycle then rd1 bs 1 == 0 else decide (1 ≤ rd1 bs 1) && decide (rd1 bs 1 ≤ 30))
      = true ↔ if kind = .cycle then rd1 bs 1 = 0 else 1 ≤ rd1 bs 1 ∧ rd1 bs 1 ≤ 30 := by
    split <;> simp
  unfold branchRangesOk
  dsimp only
  simp only [Bool.and_eq_true, station, Bool.or_eq_true, beq_iff_eq, decide_eq_true_eq, or_assoc,
    and_assoc]
  constructor
  · rintro ⟨hs, hp, hc, -, hl⟩
    exact ⟨hs, hp, hc, hl⟩
  · rintro ⟨hs, hp, hc, hl⟩
    exact ⟨hs, hp, hc, le_of_lengthOk hl, hl⟩

/-- The frame that a branch header and a payload say (R5). -/
def branchFrameOf (kind : BranchKind) (bs payload : List Byte) : BranchFrame :=
  { kind := kind, station := rd1 bs 1, toggle := 128 ≤ rd1 bs 2, resync := 64 ≤ rd1 bs 2 % 128,
    fresh := 32 ≤ rd1 bs 2 % 64, position := Position.ofCode (rd1 bs 2 % 4), field := rd2 bs 3,
    payload := payload }

theorem checkBranch_eq {kind : BranchKind} {rx : RxBuffer} (h : rd1 rx.stored 0 = kind.code) :
    checkBranch rx =
      if rx.sums 7 = true ∧ branchRangesOk kind rx.stored = true then
        checkPayload rx (rd1 rx.stored 5) (branchFrameOf kind rx.stored)
      else .headerError := by
  unfold checkBranch
  dsimp only
  rw [h, ofCode_branchCode]
  dsimp only
  unfold RxBuffer.sums
  by_cases size : rx.count < 7
  · rw [if_pos size, decide_eq_false (Nat.not_le.2 size)]
    rfl
  · rw [if_neg size, decide_eq_true (Nat.not_lt.1 size)]
    cases headerSumOk (rx.stored.take 7) <;> cases branchRangesOk kind rx.stored <;> rfl

theorem position_ofCode (n : Nat) (h : n < 4) :
    Position.ofCode n = [.only, .first, .middle, .last].getD n .only := by
  interval_cases n <;> rfl

/-- What a trunk arrival comes to is judged by its checks (R8). -/
theorem next_trunkArrival {now : Nat} {bytes : List Byte} {s : State} (runs : s.dev.inReset = false)
    {c : Checked TrunkFrame} (h : checkTrunk (received 1033 bytes) = c) {d : Device}
    (goes : trunkChecked c (collect .t 1033 bytes { s.dev with now := now }) = d) :
    exec (.trunkDataArrival now bytes) s = .next { s with dev := settle d } ∧
    exec (.trunkCycleArrival now bytes) s = .next { s with dev := settle d } := by
  have arrives : trunkArrival bytes { s.dev with now := now } = d :=
    (congrArg (trunkChecked · (collect .t 1033 bytes { s.dev with now := now })) h).trans goes
  exact ⟨next_event runs arrives rfl, next_event runs arrives rfl⟩

/-- Settles O7. -/
theorem twoChecksProtectEveryFrame : Obligations.TwoChecksProtectEveryFrame := by
  refine ⟨fun h => ⟨headerCheck h, rfl, beq_iff_eq.1 (headerSumOk_sealHeader h)⟩, rfl, rfl,
    fun p b => ?_, crc16_digits, rfl, fun p some => ?_, fun rx => ?_, fun kind rx code => ?_,
    fun rx none => ?_, ?_, ?_⟩
  · exact (crc16_concat p b).trans (crcByte_eq_repeat ..)
  · exact ⟨_, _, withCheck_of_ne_nil some, be2_toNat (crc16 p).isLt⟩
  · intro byte pair sums payload
    simp only [checkTrunk_eq, checkPayload_eq, sums_iff]
    rfl
  · intro byte pair length payload
    simp only [checkBranch_eq code, sums_iff, branchRangesOk_iff, lengthOk_iff, checkPayload_eq,
      and_assoc]
    unfold branchFrameOf
    rw [position_ofCode _ (Nat.mod_lt _ (by decide))]
    rfl
  · unfold checkBranch
    dsimp only
    rw [ofCode_eq_none none]
    split <;> rfl
  · intro now bytes s runs got counted goes
    refine ⟨fun h => next_trunkArrival runs h rfl, fun h => next_trunkArrival runs h rfl,
      fun n h => next_trunkArrival runs h rfl, fun cid priority payload h => ⟨fun management => ?_,
      fun data => ?_⟩⟩
    · exact next_trunkArrival runs h (if_pos management)
    · exact next_trunkArrival runs h (if_neg data)
  · intro k start now bytes s runs adm opened idle got goes
    have arrives := branchArrival_received (d := { s.dev with now := now })
      (ignores_eq_false adm (Nat.le_of_lt opened)) (Device.receiverOff_idle idle) bytes
    refine ⟨fun h => ?_, fun h => ?_, fun f h => ?_⟩
    · exact next_event runs (arrives.trans (congrArg (branchChecked k · got) h)) rfl
    · exact next_event runs (arrives.trans (congrArg (branchChecked k · got) h)) rfl
    · exact next_event runs (arrives.trans (congrArg (branchChecked k · got) h)) rfl

/- ### A branch frame reads back as it was sent (R4, R5, R8) -/

/-- The bytes of a branch frame, header first. -/
theorem wire_eq (f : BranchFrame) :
    f.wire = byteOf f.kind.code :: byteOf f.station :: byteOf f.flags :: byteOf (f.field / 256) ::
      byteOf f.field :: byteOf f.payload.length ::
      headerCheck ([byteOf f.kind.code, byteOf f.station, byteOf f.flags] ++ be2 f.field ++
        [byteOf f.payload.length]) :: withCheck f.payload := rfl

/-- The header of a branch frame with its check (R5, R6). -/
def BranchFrame.header (f : BranchFrame) : List Byte :=
  sealHeader ([byteOf f.kind.code, byteOf f.station, byteOf f.flags] ++ be2 f.field ++
    [byteOf f.payload.length])

theorem wire_split (f : BranchFrame) : f.wire = f.header ++ withCheck f.payload := rfl

theorem wire_take (f : BranchFrame) : f.wire.take 7 = f.header := by
  rw [wire_split]
  exact List.take_left' rfl

theorem wire_length (f : BranchFrame) : f.wire.length = frameSize f.payload.length := by
  rw [wire_eq]
  simp only [List.length_cons, withCheck_length, frameSize]
  split <;> omega

/-- The flags byte says the toggle, the resync and the fresh bit and the position (R5). -/
theorem flags_read (f : BranchFrame) :
    f.flags < 256 ∧ decide (128 ≤ f.flags) = f.toggle ∧ decide (64 ≤ f.flags % 128) = f.resync ∧
      decide (32 ≤ f.flags % 64) = f.fresh ∧ f.flags % 4 = f.position.code ∧
      Position.ofCode f.position.code = f.position := by
  unfold BranchFrame.flags
  cases f.toggle <;> cases f.resync <;> cases f.fresh <;> cases f.position <;> decide

set_option Elab.async false in
/-- Settles O8. -/
theorem branchFrameReadsBackAsItWasSent : Obligations.BranchFrameReadsBackAsItWasSent := by
  rintro f ⟨length, field, cycleStation, otherStation, position⟩
  have short := le_of_lengthOk length
  have code : f.kind.code < 256 := by cases f.kind <;> decide
  have station : f.station ≤ 30 := by
    by_cases cycle : f.kind = .cycle
    · rw [cycleStation cycle]
      exact Nat.zero_le 30
    · exact (otherStation cycle).2.1
  obtain ⟨flags, toggle, resync, fresh, place, placed⟩ := flags_read f
  have whole : received Config.branchBuffer f.wire = { stored := f.wire, count := f.wire.length } := by
    unfold received
    rw [List.take_of_length_le]
    rw [wire_length]
    have size : Config.branchBuffer = 137 := rfl
    unfold frameSize
    split <;> omega
  have byte0 : rd1 f.wire 0 = f.kind.code := byteOf_toNat code
  have byte1 : rd1 f.wire 1 = f.station := byteOf_toNat (by omega)
  have byte2 : rd1 f.wire 2 = f.flags := byteOf_toNat flags
  have byte5 : rd1 f.wire 5 = f.payload.length := byteOf_toNat (by omega)
  have pair3 : rd2 f.wire 3 = f.field := be2_toNat field
  have sums : (RxBuffer.mk f.wire f.wire.length).sums 7 = true := by
    unfold RxBuffer.sums
    rw [Bool.and_eq_true, decide_eq_true_eq]
    dsimp only
    rw [wire_take, wire_length]
    refine ⟨?_, headerSumOk_sealHeader _⟩
    unfold frameSize
    split <;> omega
  have ranges : branchRangesOk f.kind f.wire = true := by
    rw [branchRangesOk_iff, byte1, byte2, byte5, pair3]
    refine ⟨?_, ?_, ?_, length⟩
    · split
      · rename_i cycle
        exact cycleStation cycle
      · rename_i other
        exact ⟨(otherStation other).1, station⟩
    · rcases position with only | deliver | data
      · refine .inr (.inr ?_)
        rw [place, only]
        rfl
      · exact .inl deliver
      · exact .inr (.inl data)
    · by_cases cycle : f.kind = .cycle
      · exact .inl cycle
      · exact .inr (otherStation cycle).2.2
  rw [whole, checkBranch_eq byte0, if_pos ⟨sums, ranges⟩]
  dsimp only
  rw [byte5]
  have checked := checkPayload_header f.header f.payload (branchFrameOf f.kind f.wire) rfl
  rw [← wire_split] at checked
  refine checked.trans ?_
  unfold branchFrameOf
  rw [byte1, byte2, pair3, toggle, resync, fresh, place, placed]

end Sys2Proof.Machine

/-! The entries of the loadable units: an entry that passes its field checks is encoded again byte for
byte. -/

namespace Sys2Proof.Machine

section Fields

variable (bs : List Byte) (i : Nat)

/- ### Fields of an entry (R21) -/

set_option Elab.async false in
theorem rdN_all (bs : List Byte) : rdN bs 0 bs.length = bs := by
  have from_ : ∀ (n i : Nat), i + n = bs.length → rdN bs i n = bs.drop i := by
    intro n
    induction n with
    | zero =>
      intro i h
      rw [List.drop_of_length_le (by omega)]
      rfl
    | succ n ih =>
      intro i h
      have below : i < bs.length := by omega
      unfold rdN
      rw [ih (i + 1) (by omega), List.drop_eq_getElem_cons below, List.getD_eq_getElem _ _ below]
  exact from_ bs.length 0 (Nat.zero_add _)

theorem byteOf_rd1 : byteOf (rd1 bs i) = bs.getD i 0 := BitVec.ofNat_toNat ..

theorem be2_rd2 : be2 (rd2 bs i) = [bs.getD i 0, bs.getD (i + 1) 0] := by
  have high := (bs.getD i 0).isLt
  have low := (bs.getD (i + 1) 0).isLt
  unfold be2 rd2 rd1
  refine congrArg₂ List.cons ?_ (congrArg₂ List.cons ?_ rfl)
  · refine BitVec.eq_of_toNat_eq ?_
    rw [byteOf_toNat_mod]
    omega
  · refine BitVec.eq_of_toNat_eq ?_
    rw [byteOf_toNat_mod]
    omega

theorem optByte_readOpt1 : optByte (readOpt1 (rd1 bs i)) = [bs.getD i 0] := by
  have byte := byteOf_rd1 bs i
  unfold readOpt1
  split
  · rename_i all
    rw [all] at byte
    exact congrArg (fun b => [b]) byte
  · exact congrArg (fun b => [b]) byte

theorem opt2_readOpt2 : opt2 (readOpt2 (rd2 bs i)) = [bs.getD i 0, bs.getD (i + 1) 0] := by
  have bytes := be2_rd2 bs i
  unfold readOpt2
  split
  · rename_i all
    rw [all] at bytes
    exact bytes
  · exact bytes

variable {bs i}

/-- A field of two values reads back as the one of the code it has. -/
theorem byteOf_two {α : Type} (code : α → Nat) (x y : α) (h : rd1 bs i ≤ 1) (hx : code x = 0 := by rfl)
    (hy : code y = 1 := by rfl) : byteOf (code (if rd1 bs i = 0 then x else y)) = bs.getD i 0 := by
  rw [← byteOf_rd1]
  split
  · rw [hx]
    congr 1
    omega
  · rw [hy]
    congr 1
    omega

theorem boolByte_rd1 (h : rd1 bs i ≤ 1) : boolByte (rd1 bs i == 1) = [bs.getD i 0] := by
  rw [← byteOf_rd1]
  generalize rd1 bs i = n at h ⊢
  interval_cases n <;> rfl

theorem byteOf_line (h : rd1 bs i ≤ 4) : byteOf (Line.ofIndex (rd1 bs i)).toNat = bs.getD i 0 := by
  rw [← byteOf_rd1]
  generalize rd1 bs i = n at h ⊢
  interval_cases n <;> rfl

theorem byteOf_class (h : rd1 bs i ≤ 3) : byteOf (Class.ofIndex (rd1 bs i)).toNat = bs.getD i 0 := by
  rw [← byteOf_rd1]
  generalize rd1 bs i = n at h ⊢
  interval_cases n <;> rfl

theorem byteOf_egress (h : rd1 bs i < 32) :
    byteOf (egressBits (egressOfBits (rd1 bs i))) = bs.getD i 0 := by
  rw [← byteOf_rd1]
  generalize rd1 bs i = n at h ⊢
  interval_cases n <;> rfl

end Fields

/- ### Entries (R45, R125, R155 to R157, R160) -/

section Entries

variable {bs : List Byte}

theorem encodeCircuit_decode (length : bs.length = 13) (ok : circuitOk bs = true) (here : rd1 bs 0 ≠ 0) :
    encodeCircuit (some (decodeCircuit bs)) = bs := by
  unfold circuitOk at ok
  simp only [Bool.or_eq_true, Bool.and_eq_true, beq_iff_eq, decide_eq_true_eq, here, false_or] at ok
  obtain ⟨⟨⟨⟨⟨⟨⟨⟨⟨⟨present, kind⟩, line⟩, -⟩, egress⟩, -⟩, source⟩, fixed⟩, -⟩, -⟩, -⟩ := ok
  have all := rdN_all bs
  rw [length] at all
  have first : byteOf 1 = bs.getD 0 0 := by rw [← byteOf_rd1, present]
  refine Eq.trans ?_ all
  unfold encodeCircuit decodeCircuit
  dsimp only
  rw [byteOf_two CircuitKind.code .periodic .aperiodic kind,
    byteOf_two ClassSource.code .fixed .mapped source, byteOf_line line, byteOf_class fixed,
    byteOf_egress egress, optByte_readOpt1, optByte_readOpt1, optByte_readOpt1, opt2_readOpt2, be2_rd2,
    first]
  rfl

theorem encodeMeter_decode (length : bs.length = 9) (ok : meterOk bs = true) :
    encodeMeter (decodeMeter bs) = bs := by
  unfold meterOk at ok
  simp only [Bool.and_eq_true, decide_eq_true_eq] at ok
  obtain ⟨⟨mode, yellow⟩, red⟩ := ok
  have all := rdN_all bs
  rw [length] at all
  refine Eq.trans ?_ all
  unfold encodeMeter decodeMeter
  dsimp only
  rw [byteOf_two MeterMode.code .pass .meter mode,
    byteOf_two YellowPolicy.code .forward .thin yellow, byteOf_two RedPolicy.code .drop .forward red,
    be2_rd2, be2_rd2,
    be2_rd2]
  rfl

set_option Elab.async false in
theorem encodeSched_decode (length : bs.length = 8) (ok : schedOk bs = true) (here : rd1 bs 0 ≠ 0) :
    encodeSched (some (decodeSched bs)) = bs := by
  unfold schedOk at ok
  simp only [Bool.or_eq_true, Bool.and_eq_true, beq_iff_eq, here, false_or] at ok
  have present : byteOf 1 = bs.getD 0 0 := by rw [← byteOf_rd1, ok.1.1.1.1.1.1]
  have all := rdN_all bs
  rw [length] at all
  refine Eq.trans ?_ all
  unfold encodeSched decodeSched
  dsimp only
  rw [byteOf_rd1, byteOf_rd1, byteOf_rd1, opt2_readOpt2, opt2_readOpt2, present]
  rfl

theorem encodeStationConfig_decode (length : bs.length = 2) (ok : stationConfigOk bs = true) :
    encodeStationConfig (decodeStationConfig bs) = bs := by
  unfold stationConfigOk at ok
  simp only [Bool.and_eq_true, decide_eq_true_eq] at ok
  have all := rdN_all bs
  rw [length] at all
  refine Eq.trans ?_ all
  unfold encodeStationConfig decodeStationConfig
  dsimp only
  rw [boolByte_rd1 ok.1, boolByte_rd1 ok.2]
  rfl

theorem encodeLineSettings_decode (length : bs.length = 27) (ok : lineSettingsOk bs = true) :
    encodeLineSettings (decodeLineSettings bs) = bs := by
  have capture : rd1 bs 0 ≤ 1 ∧ rd1 bs 3 ≤ 1 := by
    unfold lineSettingsOk at ok
    simp only [Bool.and_eq_true, decide_eq_true_eq] at ok
    exact ⟨by tauto, by tauto⟩
  have all := rdN_all bs
  rw [length] at all
  refine Eq.trans ?_ all
  unfold encodeLineSettings decodeLineSettings
  dsimp only
  simp only [byteOf_two CaptureMode.code .first .latest capture.1,
    byteOf_two EgressMode.code .strict .weighted capture.2, be2_rd2, byteOf_rd1]
  rfl

theorem encodeDeviceSettings_decode (length : bs.length = 11) (ok : deviceSettingsOk bs = true) :
    encodeDeviceSettings (decodeDeviceSettings bs) = bs := by
  have attention : rd1 bs 1 ≤ 1 := by
    unfold deviceSettingsOk at ok
    simp only [Bool.and_eq_true, decide_eq_true_eq] at ok
    tauto
  have all := rdN_all bs
  rw [length] at all
  refine Eq.trans ?_ all
  unfold encodeDeviceSettings decodeDeviceSettings
  dsimp only
  rw [boolByte_rd1 attention]
  simp only [be2_rd2, byteOf_rd1]
  rfl

end Entries

/-- What a staged entry asks for when it is no removal (R21). -/
theorem actionOf_content {unit : Nat} {bs : List Byte} (h : ¬ ((unit = 1 ∨ unit = 3) ∧ rd1 bs 0 = 0)) :
    actionOf unit bs = .content bs := if_neg h

/-- Settles O9, unit by unit. -/
theorem entryInForceReadsBackAsStaged : Obligations.EntryInForceReadsBackAsStaged := by
  intro d unit indices size i bs sized loadable shape below length ok entry after
  by_cases removed : (unit = 1 ∨ unit = 3) ∧ rd1 bs 0 = 0
  · have act : actionOf unit bs = .remove := if_pos removed
    rw [if_pos removed]
    show ({ d with tables := d.tables.withEntry { unit := unit, index := i, action := actionOf unit bs } } :
      Device).readEntry unit i = _
    rw [act]
    rcases removed.1 with rfl | rfl
    · cases shape
      exact congrArg encodeCircuit (Table.find?_erase_self d.tables.circuits i)
    · cases shape
      exact congrArg encodeSched (Table.find?_erase_self d.tables.schedule i)
  · rw [if_neg removed]
    show ({ d with tables := d.tables.withEntry { unit := unit, index := i, action := actionOf unit bs } } :
      Device).readEntry unit i = _
    rw [actionOf_content removed]
    have range : 1 ≤ unit ∧ unit ≤ 8 := by
      unfold isLoadable at loadable
      simpa using loadable
    obtain ⟨low, high⟩ := range
    interval_cases unit
    · cases shape
      exact (congrArg encodeCircuit (Table.find?_insert_self d.tables.circuits i _)).trans
        (encodeCircuit_decode length ok fun none => removed ⟨.inl rfl, none⟩)
    · cases shape
      exact (congrArg encodeMeter (Table.get_put_self d.tables.meters ..)).trans
        (encodeMeter_decode length ok)
    · cases shape
      exact (congrArg encodeSched (Table.find?_insert_self d.tables.schedule i _)).trans
        (encodeSched_decode length ok fun none => removed ⟨.inr rfl, none⟩)
    · cases shape
      exact (congrArg encodeStationConfig (Table.get_put_self d.tables.stations ..)).trans
        (encodeStationConfig_decode length ok)
    · cases shape
      exact (congrArg encodeLineSettings (PerLine.get_set_self d.tables.lines ..)).trans
        (encodeLineSettings_decode length ok)
    · cases shape
      have class_ : rd1 bs 0 ≤ 3 := of_decide_eq_true ok
      have all := rdN_all bs
      rw [length] at all
      refine Eq.trans ?_ all
      have read : (d.tables.priorities.set i (Class.ofIndex (rd1 bs 0))).getD i .c0 =
          Class.ofIndex (rd1 bs 0) := by
        rw [List.getD_eq_getElem _ _ (by rw [List.length_set, sized.1]; exact below), List.getElem_set_self]
      exact (congrArg (fun c : Class => [byteOf c.toNat]) read).trans
        (congrArg (fun b => [b]) (byteOf_class class_))
    · cases shape
      have all := rdN_all bs
      rw [length] at all
      refine Eq.trans ?_ all
      have read : (d.tables.thinning.set i (rd2 bs 0)).getD i 0 = rd2 bs 0 := by
        rw [List.getD_eq_getElem _ _ (by rw [List.length_set, sized.2]; exact below), List.getElem_set_self]
      exact (congrArg be2 read).trans (be2_rd2 bs 0)
    · cases shape
      exact encodeDeviceSettings_decode length ok

end Sys2Proof.Machine

/-! The Classifier: the reason that refuses a frame, and what becomes of a refused frame. -/

namespace Sys2Proof.Machine

open Device (Writes)

/- ### An event that leaves a quiet part quiet -/

/-- Nothing of the Endpoint, of the transmitter and of what it may start is listed. -/
abbrev Quieting (fs : List Field) : Prop :=
  .endpoint ∉ fs ∧ .trunkTx ∉ fs ∧ .trunkAdm ∉ fs ∧ .slots ∉ fs ∧ .tables ∉ fs ∧ .egress ∉ fs

set_option Elab.async false in
/-- The transmitter of a part finds what it found before. -/
theorem Device.Writes.trunkQuiet {fs : List Field} {d d' : Device} (w : Writes fs d d')
    (h : d.trunkQuiet) (free : Quieting fs := by decide) : d'.trunkQuiet := by
  obtain ⟨-, trunkTx, trunkAdm, slots, tables, egress⟩ := free
  have egr : d'.egr .t = d.egr .t := congrArg (PerLine.get · .t) (w.egress egress)
  unfold Device.trunkQuiet Device.slotsAt Device.slotLine? Device.circuit? Device.queue at h ⊢
  rw [w.trunkTx trunkTx, w.trunkAdm trunkAdm, w.slots slots, w.tables tables, egr]
  exact h

theorem Device.Writes.mgmtReady {fs : List Field} {d d' : Device} (w : Writes fs d d')
    (h : d.mgmtReady) (free : .endpoint ∉ fs := by decide) : d'.mgmtReady := by
  unfold Device.mgmtReady at h ⊢
  rw [w.endpoint free]
  exact h

theorem Device.Writes.settle_quiet {fs : List Field} {d d' : Device} (w : Writes fs d d')
    (ready : d.mgmtReady) (still : d.trunkQuiet) (free : Quieting fs := by decide) : settle d' = d' :=
  Machine.settle_quiet (w.mgmtReady ready free.1) (w.trunkQuiet still free)

/- ### A trunk DATA frame reaches the Classifier (R8, R33) -/

/-- A trunk frame as it reaches the Classifier (R31). -/
def trunkArriving (cid priority : Nat) (payload : List Byte) : Arriving :=
  { origin := .trunk payload, cid := cid, priority := priority, length := payload.length }

/-- The part's line counters and its receive buffer of T alone see an arrival that passes the checks
(R2, R8). -/
theorem arrived_writes (d : Device) (now : Nat) (bytes : List Byte) :
    Writes [.now, .lines] d (d.arrived now bytes) :=
  ((now_writes d now).mono.andThen (collect_writes _ .t Config.trunkBuffer bytes)).andThen
    (bumpLine_writes _ .t .framesReceived)

theorem exec_trunkData {now cid priority : Nat} {payload : List Byte} {s : State} (quiet : s.dev.quiet)
    (hc : cid ≤ 4094) (hp : priority ≤ 7) (hl : payload.length ≤ 1024) {d d' : Device}
    (classified : classifyTrunk cid priority payload
      (s.dev.arrived now (trunkData cid priority payload)) = d) (ends : settle d = d') :
    exec (.trunkDataArrival now (trunkData cid priority payload)) s = .next { s with dev := d' } := by
  have checked := checkTrunk_trunkData (Nat.le_succ_of_le hc) hp hl
  have other : cid ≠ Config.managementCid := by
    intro same
    rw [same] at hc
    exact absurd hc (by decide)
  have goes : trunkChecked (.passed (.data cid priority payload)) (collect .t 1033
      (trunkData cid priority payload) { s.dev with now := now }) = d :=
    (if_neg other).trans classified
  rw [← ends]
  exact (next_trunkArrival quiet.1 checked goes).1

/- ### The reason that refuses a frame (R34 to R38) -/

/-- The first check that fails for a trunk frame, in the words of the statements (R34 to R37). -/
theorem refusal_trunk {d : Device} {cid : Nat} {c : Circuit} (h : d.circuit? cid = some c)
    (priority : Nat) (payload : List Byte) :
    d.refusal (trunkArriving cid priority payload) c = d.trunkRefusal cid payload.length := by
  unfold Device.refusal Device.trunkRefusal
  rw [h]
  dsimp only [trunkArriving, Origin.line, Origin.wrongStation, Origin.wrongKind, Device.limitReason]
  simp only [ne_comm (a := Line.t), Bool.false_eq_true, if_false, List.isEmpty_iff, decide_eq_true_eq]
  rfl

/-- The first check that fails for a frame handed over by a branch (R34 to R38). -/
theorem refusal_branch {d : Device} {f : Frame} {c : Circuit} (h : d.circuit? f.cid = some c)
    (k : Branch) (st : Nat) (exchanged : Option (Option Nat)) (ref : Nat) :
    d.refusal (branchArriving k st exchanged ref f) c =
      d.branchRefusal k st exchanged f.cid f.length := by
  unfold Device.refusal Device.branchRefusal
  rw [h]
  cases exchanged with
  | none =>
    dsimp only [branchArriving, branchOrigin, Origin.line, Origin.wrongStation, Origin.wrongKind,
      Device.limitReason]
    have kind : (c.kind == .periodic) = true ↔ decide (c.kind = .aperiodic) = false := by
      cases c.kind <;> decide
    simp only [ne_comm (a := k.line), bne_iff_ne, kind, List.isEmpty_iff, decide_eq_true_eq]
    rfl
  | some input =>
    dsimp only [branchArriving, branchOrigin, Origin.line, Origin.wrongStation, Origin.wrongKind,
      Device.limitReason]
    have kind : (c.kind == .aperiodic || input != some f.cid) = true ↔
        decide (c.kind = .periodic ∧ input = some f.cid) = false := by
      rw [decide_eq_false_iff_not, not_and_or, Bool.or_eq_true, bne_iff_ne]
      exact or_congr (by cases c.kind <;> decide) Iff.rfl
    simp only [ne_comm (a := k.line), bne_iff_ne, kind, List.isEmpty_iff, decide_eq_true_eq]
    rfl

/-- A frame that no circuit and no check lets through is discarded. -/
theorem classify_refused {d : Device} {a : Arriving} {r : Reason}
    (absent : d.circuit? a.cid = none → r = .unknown)
    (present : ∀ c, d.circuit? a.cid = some c → d.refusal a c = some r) :
    classify a d = discardArriving a r d := by
  unfold classify
  split
  · rename_i none
    rw [absent none]
  · rename_i c found
    rw [present c found]

theorem classify_passed {d : Device} {a : Arriving} {c : Circuit} (found : d.circuit? a.cid = some c)
    (passed : d.refusal a c = none) : classify a d = meterFrame a c d := by
  unfold classify
  rw [found]
  dsimp only
  rw [passed]

theorem classifyTrunk_opened {d : Device} (h : d.trunkAdm = .opened) (cid priority : Nat)
    (payload : List Byte) :
    classifyTrunk cid priority payload d = classify (trunkArriving cid priority payload) d := by
  refine if_neg ?_
  rw [h]
  exact fun h => nomatch h

/-- A trunk frame is discarded for the first check that it fails. -/
theorem classify_trunkRefused {d : Device} {cid : Nat} {payload : List Byte} {r : Reason}
    (h : d.trunkRefusal cid payload.length = some r) (priority : Nat) :
    classify (trunkArriving cid priority payload) d = d.countReason .t cid r := by
  refine classify_refused (a := trunkArriving cid priority payload) (fun none => ?_) fun c found => ?_
  · unfold Device.trunkRefusal at h
    rw [show d.circuit? cid = Option.none from none] at h
    exact (Option.some.inj h).symm
  · exact (refusal_trunk (cid := cid) found priority payload).trans h

/-- A discard counts the reason, and a frame from a branch gives up its one reference (R40). -/
theorem discardArriving_branch (k : Branch) (st : Nat) (exchanged : Option (Option Nat)) (ref : Nat)
    (f : Frame) (r : Reason) (d : Device) :
    discardArriving (branchArriving k st exchanged ref f) r d =
      { d.countReason k.line f.cid r with pool := d.pool.release ref } := by
  have pool := (countReason_writes d k.line f.cid r).pool
  cases exchanged with
  | none =>
    show (d.countReason k.line f.cid r).releaseFrame ref = _
    unfold Device.releaseFrame
    rw [pool]
  | some input =>
    show (d.countReason k.line f.cid r).releaseFrame ref = _
    unfold Device.releaseFrame
    rw [pool]

set_option Elab.async false in
/-- Settles O12. -/
theorem firstFailingCheckDiscardsTheFrame : Obligations.FirstFailingCheckDiscardsTheFrame := by
  refine ⟨?_, ?_⟩
  · intro now cid priority payload s quiet hc hp hl frame arrived
    have ends (r : Reason) : settle (arrived.countReason .t cid r) = arrived.countReason .t cid r :=
      (((arrived_writes s.dev now frame).mono (fs := [.now, .lines, .circuitCounters])).andThen
        (countReason_writes arrived .t cid r)).settle_quiet quiet.2.1 quiet.2.2
    refine ⟨fun closed => ?_, fun opened r refused => ?_⟩
    · exact exec_trunkData quiet hc hp hl (if_pos closed) (ends .admission)
    · refine exec_trunkData quiet hc hp hl ?_ (ends r)
      exact (classifyTrunk_opened (d := arrived) opened cid priority payload).trans
        (classify_trunkRefused (d := arrived) refused priority)
  · intro k st exchanged ref f d a discarded
    have discards (r : Reason) : discardArriving a r d = discarded r := discardArriving_branch ..
    refine ⟨discards, fun r refused => ?_⟩
    refine Eq.trans ?_ (discards r)
    refine classify_refused (a := a) (fun none => ?_) fun c found => ?_
    · unfold Device.branchRefusal at refused
      rw [show d.circuit? f.cid = Option.none from none] at refused
      exact (Option.some.inj refused).symm
    · exact (refusal_branch (f := f) found k st exchanged ref).trans refused

end Sys2Proof.Machine

/-! The Classifier: meters, and what an acceptance counts. -/

namespace Sys2Proof.Machine

open Device (Writes)

/- ### The accepted counters (R41, R44) -/

/-- What a circuit's counters of accepted frames and bytes read. -/
def Device.acceptedCounts (d : Device) (cid : Nat) : Nat × Nat :=
  (d.circuitCount cid .acceptedFrames, d.circuitCount cid .acceptedBytes)

set_option Elab.async false in
theorem Device.Writes.acceptedCounts {fs : List Field} {d d' : Device} (w : Writes fs d d') (cid : Nat)
    (free : .circuitCounters ∉ fs := by decide) : d'.acceptedCounts cid = d.acceptedCounts cid := by
  unfold Device.acceptedCounts Device.circuitCount
  rw [w.circuitCounters free]

/-- No reason is counted as an acceptance. -/
theorem acceptedCounts_countReason (d : Device) (l : Line) (other cid : Nat) (r : Reason) :
    (d.countReason l other r).acceptedCounts cid = d.acceptedCounts cid := by
  have frames : r.circuitCounter ≠ some .acceptedFrames := by cases r <;> decide
  have bytes : r.circuitCounter ≠ some .acceptedBytes := by cases r <;> decide
  unfold Device.acceptedCounts
  rw [circuitCount_countReason, circuitCount_countReason, if_neg fun h => frames h.2.2,
    if_neg fun h => bytes h.2.2]

theorem acceptedCounts_dropFrame (d : Device) (l : Line) (ref cid : Nat) (r : Reason) :
    (d.dropFrame l ref r).acceptedCounts cid = d.acceptedCounts cid := by
  unfold Device.dropFrame
  split
  · exact (bumpLine_writes ..).acceptedCounts cid
  · exact ((releaseFrame_writes ..).acceptedCounts cid).trans (acceptedCounts_countReason ..)

theorem acceptedCounts_foldl {α : Type} {f : Device → α → Device} {cid : Nat}
    (h : ∀ d x, (f d x).acceptedCounts cid = d.acceptedCounts cid) (xs : List α) (d : Device) :
    (xs.foldl f d).acceptedCounts cid = d.acceptedCounts cid :=
  List.foldlRecOn (motive := fun x => x.acceptedCounts cid = d.acceptedCounts cid) xs f rfl
    fun x hx y _ => (h x y).trans hx

theorem acceptedCounts_sweepQueue (k : Branch) (c : Class) (q : List Entry) (d : Device) (cid : Nat) :
    (sweepQueue k c q d).acceptedCounts cid = d.acceptedCounts cid := by
  induction q generalizing d with
  | nil => rfl
  | cons e es ih =>
    unfold sweepQueue
    split
    · rfl
    · exact (ih _).trans ((acceptedCounts_dropFrame ..).trans
        ((removeHead_writes ..).acceptedCounts cid))

theorem acceptedCounts_selectBranch (k : Branch) (d : Device) (cid : Nat) :
    (selectBranch k d).acceptedCounts cid = d.acceptedCounts cid := by
  have swept : (sweep k d).acceptedCounts cid = d.acceptedCounts cid := by
    refine acceptedCounts_foldl (fun d c => ?_) Class.all d
    unfold sweepClass
    split
    · exact acceptedCounts_sweepQueue ..
    · rfl
  unfold selectBranch
  dsimp only
  split
  · exact ((setSeqState_writes ..).acceptedCounts cid).trans swept
  · exact ((startPick_writes ..).acceptedCounts cid).trans (((setSeqState_writes ..).acceptedCounts
      cid).trans (((setCredits_writes ..).acceptedCounts cid).trans swept))

theorem acceptedCounts_notice (d : Device) (l : Line) (cid : Nat) :
    (notice d l).acceptedCounts cid = d.acceptedCounts cid := by
  unfold notice
  split
  · rfl
  · unfold wakeBranch
    split
    · exact acceptedCounts_selectBranch ..
    · rfl

theorem acceptedCounts_placeAperiodic (c : Circuit) (own ref : Nat) (q : Class) (lines : List Line)
    (d : Device) (cid : Nat) :
    (placeAperiodic c own ref q lines d).acceptedCounts cid = d.acceptedCounts cid :=
  (acceptedCounts_foldl (fun d l => acceptedCounts_notice d l cid) lines _).trans
    (acceptedCounts_foldl (fun d l => (enqueue_writes d c own ref q l).acceptedCounts cid) lines d)

theorem acceptedCounts_placePeriodic (own ref : Nat) (l : Line) (d : Device) (cid : Nat) :
    (placePeriodic own ref l d).acceptedCounts cid = d.acceptedCounts cid := by
  unfold placePeriodic
  dsimp only
  split
  · exact acceptedCounts_dropFrame ..
  · rfl

/-- An accepted frame is counted, with its bytes (R41). -/
theorem acceptedCounts_acceptFrame {d : Device} {a : Arriving} (c : Circuit) (room : d.hasRoom a)
    (present : d.circuit? a.cid ≠ none) :
    (acceptFrame a c d).acceptedCounts a.cid =
      (raiseCount (d.circuitCount a.cid .acceptedFrames) 1,
        raiseCount (d.circuitCount a.cid .acceptedBytes) a.length) := by
  have settled := settleBlocks_writes d a c (d.reducedSet c).length room
  have counts := settled.acceptedCounts a.cid
  obtain ⟨x, hx⟩ : ∃ x, x = settleBlocks a c (d.reducedSet c).length d := ⟨_, rfl⟩
  rw [← hx] at settled counts
  obtain ⟨frames, bytes⟩ := Prod.mk.inj counts
  have here : x.circuit? a.cid ≠ none := by
    unfold Device.circuit? at present ⊢
    rw [settled.tables]
    exact present
  have still : (x.bumpCircuit a.cid .acceptedFrames).circuit? a.cid ≠ none := by
    unfold Device.circuit? at here ⊢
    rw [(bumpCircuit_writes ..).tables]
    exact here
  have counted : ((x.bumpCircuit a.cid .acceptedFrames).bumpCircuitBy a.cid .acceptedBytes
      a.length).acceptedCounts a.cid = (raiseCount (d.circuitCount a.cid .acceptedFrames) 1,
        raiseCount (d.circuitCount a.cid .acceptedBytes) a.length) := by
    unfold Device.acceptedCounts
    rw [circuitCount_bumpCircuitBy, circuitCount_bumpCircuitBy]
    unfold Device.bumpCircuit
    rw [circuitCount_bumpCircuitBy, circuitCount_bumpCircuitBy]
    simp only [here, ne_eq, not_false_eq_true, true_and, reduceCtorEq, and_false, if_false, if_true]
    rw [if_pos ⟨still, trivial⟩, frames, bytes]
  unfold acceptFrame
  dsimp only
  rw [← hx]
  split
  · exact (acceptedCounts_placeAperiodic ..).trans counted
  · exact (acceptedCounts_placePeriodic ..).trans counted

/- ### The end of an event of a part with no request in hand -/

/-- No request is in progress and none is queued. -/
def Device.unasked (d : Device) : Prop := d.endpoint.inProgress = none ∧ d.endpoint.queue = []

theorem fillSlot_unasked {d : Device} (h : d.unasked) :
    Writes [.endpoint] d (fillSlot d) ∧ (fillSlot d).unasked := by
  obtain ⟨progress, queue⟩ := id h
  have placed : (placeAttention d).unasked := by
    unfold placeAttention Device.unasked
    split
    · exact h
    · exact h
    · exact h
    · split <;> exact h
  unfold fillSlot
  rw [progress, queue]
  cases d.endpoint.slot with
  | some r => exact ⟨.refl d, h⟩
  | none =>
    dsimp only
    split
    · exact ⟨placeAttention_writes d, placed⟩
    · refine ⟨endpoint_writes d _ (fun _ => Nat.zero_le _) id, progress, rfl⟩

theorem trunkChoose_unasked {d : Device} (h : d.unasked) : (trunkChoose d).unasked := by
  have same {d' : Device} {fs : List Field} (w : Writes fs d d') (free : .endpoint ∉ fs) : d'.unasked := by
    unfold Device.unasked
    rw [w.endpoint free]
    exact h
  unfold trunkChoose
  split
  · exact h
  · unfold startRecord
    split <;> exact h
  · split
    · split
      · exact same (startTrunkSlot_writes ..) (by decide)
      · exact same (trunkSelect_writes d) (by decide)
    · exact h

set_option Elab.async false in
/-- The end of an event of such a part starts transmissions of T alone. -/
theorem settle_unasked_writes {d : Device} (h : d.unasked) :
    Writes [.trunkTx, .endpoint, .slots, .egress, .queued] d (settle d) := by
  have first := fillSlot_unasked h
  have chosen := trunkChoose_unasked first.2
  exact ((first.1.mono.andThen (trunkChoose_writes _)).andThen (fillSlot_unasked chosen).1).andThen
    (trunkChoose_writes _)

theorem Device.Writes.unasked {fs : List Field} {d d' : Device} (w : Writes fs d d') (h : d.unasked)
    (free : .endpoint ∉ fs := by decide) : d'.unasked := by
  unfold Device.unasked
  rw [w.endpoint free]
  exact h

theorem considerPoolEmpty_unasked {d : Device} (h : d.unasked) (l : Line) (station : Option Nat)
    (n : Nat) : (considerPoolEmpty l station n d).unasked := by
  unfold considerPoolEmpty
  split
  · exact ⟨(joinEvent_inProgress ..).trans h.1, (joinEvent_queue ..).trans h.2⟩
  · exact h

theorem acceptFrame_unasked {d : Device} (h : d.unasked) (a : Arriving) (c : Circuit) :
    (acceptFrame a c d).unasked := by
  have complete (ref n : Nat) : (completeDescriptor ref c n d).unasked :=
    (completeDescriptor_writes d ref c n).unasked h
  have settled (n : Nat) : (settleBlocks a c n d).unasked := by
    unfold settleBlocks
    split
    · exact considerPoolEmpty_unasked (by exact h) ..
    · exact complete ..
    · exact complete ..
  unfold acceptFrame
  dsimp only
  have counted := (bumpCircuitBy_writes _ a.cid .acceptedBytes a.length).unasked
    ((bumpCircuit_writes _ a.cid .acceptedFrames).unasked (settled (d.reducedSet c).length))
  split
  · exact (placeAperiodic_writes ..).unasked counted
  · exact (placePeriodic_writes ..).unasked counted

/- ### Meters (R47, R53) -/

section Colours

variable {d : Device} {a : Arriving} {c : Circuit} {m : Nat} (metered : c.meter = some m)

include metered

theorem meterFrame_green (colour : d.colour m a.length = .green) :
    meterFrame a c d = acceptFrame a c (colourFrame m a.length d) := by
  unfold meterFrame
  rw [metered]
  dsimp only
  rw [colour]

theorem meterFrame_yellow_forward (colour : d.colour m a.length = .yellow)
    (policy : (d.meterSettings m).yellow = .forward) :
    meterFrame a c d = acceptFrame a c (colourFrame m a.length d) := by
  unfold meterFrame
  rw [metered]
  dsimp only
  rw [colour, policy]

theorem meterFrame_yellow_thin (colour : d.colour m a.length = .yellow)
    (policy : (d.meterSettings m).yellow = .thin) :
    meterFrame a c d =
      if (colourFrame m a.length d).thins c.ingressLine then
        discardArriving a .thinned (thinLine c.ingressLine (colourFrame m a.length d))
      else acceptFrame a c (thinLine c.ingressLine (colourFrame m a.length d)) := by
  unfold meterFrame
  rw [metered]
  dsimp only
  rw [colour, policy]

theorem meterFrame_red_drop (colour : d.colour m a.length = .red)
    (policy : (d.meterSettings m).red = .drop) :
    meterFrame a c d = discardArriving a .red (colourFrame m a.length d) := by
  unfold meterFrame
  rw [metered]
  dsimp only
  rw [colour, policy]

theorem meterFrame_red_forward (colour : d.colour m a.length = .red)
    (policy : (d.meterSettings m).red = .forward) :
    meterFrame a c d = acceptFrame a c (colourFrame m a.length d) := by
  unfold meterFrame
  rw [metered]
  dsimp only
  rw [colour, policy]

end Colours

section Cases

variable {d : Device} {m length : Nat}

theorem colour_pass (mode : (d.meterSettings m).mode = .pass) : d.colour m length = .green := by
  unfold Device.colour colourOf
  rw [mode]

theorem colour_committed (mode : (d.meterSettings m).mode = .meter)
    (fits : length ≤ (d.meterState m).committed) : d.colour m length = .green := by
  unfold Device.colour colourOf
  rw [mode]
  exact if_pos fits

theorem colour_excess (mode : (d.meterSettings m).mode = .meter)
    (full : (d.meterState m).committed < length) (fits : length ≤ (d.meterState m).excess) :
    d.colour m length = .yellow := by
  unfold Device.colour colourOf
  rw [mode]
  exact (if_neg (Nat.not_le.2 full)).trans (if_pos fits)

set_option Elab.async false in
theorem colour_none (mode : (d.meterSettings m).mode = .meter)
    (full : (d.meterState m).committed < length) (spent : (d.meterState m).excess < length) :
    d.colour m length = .red := by
  unfold Device.colour colourOf
  rw [mode]
  exact (if_neg (Nat.not_le.2 full)).trans (if_neg (Nat.not_le.2 spent))

theorem colourFrame_pass (mode : (d.meterSettings m).mode = .pass) :
    colourFrame m length d = d.setMeterState m
      { d.meterState m with green := raiseCount (d.meterState m).green 1 } := by
  unfold colourFrame
  rw [colour_pass mode, mode]
  rfl

theorem colourFrame_committed (mode : (d.meterSettings m).mode = .meter)
    (fits : length ≤ (d.meterState m).committed) :
    colourFrame m length d = d.setMeterState m
      { d.meterState m with
        green := raiseCount (d.meterState m).green 1, committed := (d.meterState m).committed - length } := by
  unfold colourFrame
  rw [colour_committed mode fits, mode]
  rfl

theorem colourFrame_yellow (colour : d.colour m length = .yellow) :
    colourFrame m length d = d.setMeterState m
      { d.meterState m with
        yellow := raiseCount (d.meterState m).yellow 1, excess := (d.meterState m).excess - length } := by
  unfold colourFrame
  rw [colour]
  rfl

theorem colourFrame_red (colour : d.colour m length = .red) :
    colourFrame m length d = d.setMeterState m
      { d.meterState m with red := raiseCount (d.meterState m).red 1 } := by
  unfold colourFrame
  rw [colour]
  rfl

end Cases

/-- A frame that no check refuses arrived on its circuit's ingress line (R34). -/
theorem ingress_of_refusal {d : Device} {a : Arriving} {c : Circuit} (h : d.refusal a c = none) :
    a.origin.line = c.ingressLine := by
  by_contra other
  unfold Device.refusal at h
  rw [if_pos other] at h
  cases h

/-- An accepted trunk frame is counted, and neither a meter nor an accumulator changes after it has
been coloured and decided. -/
theorem exec_accepted {now cid priority : Nat} {payload : List Byte} {c : Circuit} {s : State}
    {d : Device} (quiet : s.dev.quiet) (hc : cid ≤ 4094) (hp : priority ≤ 7)
    (hl : payload.length ≤ 1024)
    (classified : classifyTrunk cid priority payload (s.dev.arrived now (trunkData cid priority payload)) =
      acceptFrame (trunkArriving cid priority payload) c d)
    {fs : List Field} (w : Writes fs (s.dev.arrived now (trunkData cid priority payload)) d)
    (room : d.hasRoom (trunkArriving cid priority payload)) (present : s.dev.circuit? cid ≠ none)
    (free : .endpoint ∉ fs ∧ .tables ∉ fs ∧ .circuitCounters ∉ fs := by decide) :
    ∃ t : State, exec (.trunkDataArrival now (trunkData cid priority payload)) s = .next t ∧
      t.dev.meters = d.meters ∧ t.dev.accumulators = d.accumulators ∧
      t.dev.circuitCount cid .acceptedFrames =
        raiseCount (s.dev.circuitCount cid .acceptedFrames) 1 ∧
      t.dev.circuitCount cid .acceptedBytes =
        raiseCount (s.dev.circuitCount cid .acceptedBytes) payload.length := by
  have arrived := arrived_writes s.dev now (trunkData cid priority payload)
  have unasked : d.unasked := w.unasked (arrived.unasked ⟨quiet.2.1.2.1, quiet.2.1.2.2.1⟩) free.1
  have accepted := acceptFrame_writes d (trunkArriving cid priority payload) c room
  have ended := settle_unasked_writes (acceptFrame_unasked unasked (trunkArriving cid priority payload) c)
  have here : d.circuit? cid ≠ none := by
    unfold Device.circuit? at present ⊢
    rw [w.tables free.2.1]
    exact present
  have counts := (ended.acceptedCounts cid).trans (acceptedCounts_acceptFrame c room here)
  have before := (w.acceptedCounts cid free.2.2).trans (arrived.acceptedCounts cid)
  obtain ⟨frames, bytes⟩ := Prod.mk.inj counts
  obtain ⟨frames', bytes'⟩ := Prod.mk.inj before
  refine ⟨_, exec_trunkData quiet hc hp hl classified rfl, ended.meters.trans accepted.meters,
    ended.accumulators.trans accepted.accumulators, frames.trans ?_, bytes.trans ?_⟩
  · exact congrArg (raiseCount · 1) frames'
  · exact congrArg (raiseCount · payload.length) bytes'

/-- What a meter colours and an accumulator decides does not make a frame need more room. -/
theorem hasRoom_of_pool {d d' : Device} {a : Arriving} (h : d.hasRoom a) (pool : d'.pool = d.pool) :
    d'.hasRoom a := by
  unfold Device.hasRoom
  rw [pool]
  exact h

end Sys2Proof.Machine

/-! Meters: what a metered frame comes to. -/

namespace Sys2Proof.Machine

open Device (Writes)

set_option Elab.async false in
theorem meterState_setMeterState_self (d : Device) (m : Nat) (x : MeterState) :
    (d.setMeterState m x).meterState m = x := Table.get_put_self ..

/-- A thinning decision that lets a frame go on, in the words of the statements (R53). -/
theorem thinLine_passes {d : Device} {l : Line} {sum : Nat} (h : d.thinningSum l = sum)
    (below : sum < 1024) :
    d.thins l = false ∧ thinLine l d = { d with accumulators := d.accumulators.set l sum } := by
  subst h
  refine ⟨decide_eq_false (Nat.not_le.2 below), ?_⟩
  unfold thinLine
  dsimp only
  rw [if_neg (Nat.not_le.2 below)]

/-- A thinning decision that discards a frame, in the words of the statements (R53). -/
theorem thinLine_discards {d : Device} {l : Line} {sum : Nat} (h : d.thinningSum l = sum)
    (reached : 1024 ≤ sum) :
    d.thins l = true ∧ thinLine l d = { d with accumulators := d.accumulators.set l (sum - 1024) } := by
  subst h
  refine ⟨decide_eq_true reached, ?_⟩
  unfold thinLine
  dsimp only
  rw [if_pos reached]

/-- Settles O16. -/
theorem meterColoursAndDecides : Obligations.MeterColoursAndDecides := by
  refine ⟨?_, ?_⟩
  · intro now cid priority m payload c s quiet hc hp hl opened found passed metered frame arrived
      settings x sum green yellow red thinned accepted
    let a := trunkArriving cid priority payload
    have present : s.dev.circuit? cid ≠ none := fun h => nomatch found.symm.trans h
    have refusal : arrived.refusal a c = none :=
      (refusal_trunk (d := arrived) (cid := cid) found priority payload).trans passed
    have room := hasRoom_of_refusal refusal
    have ingress : c.ingressLine = .t := (ingress_of_refusal refusal).symm
    have classified : classifyTrunk cid priority payload arrived =
        meterFrame a c arrived :=
      (classifyTrunk_opened (d := arrived) opened cid priority payload).trans
        (classify_passed (a := a) found refusal)
    have coloured (y : MeterState) : Writes [.meters, .accumulators] arrived (arrived.setMeterState m y) :=
      (setMeterState_writes ..).mono
    have accepts {y : MeterState} (h : classifyTrunk cid priority payload arrived =
        acceptFrame a c (arrived.setMeterState m y)) :
        ∃ t : State, exec (.trunkDataArrival now frame) s = .next t ∧ t.dev.meterState m = y ∧
          t.dev.accumulators = s.dev.accumulators ∧ accepted t := by
      obtain ⟨t, runs, meters, accumulators, counted⟩ := exec_accepted quiet hc hp hl h (coloured y)
        (hasRoom_of_pool room rfl) present
      refine ⟨t, runs, ?_, accumulators, counted⟩
      unfold Device.meterState
      rw [meters]
      exact meterState_setMeterState_self arrived m y
    have discards (d : Device) (r : Reason) (w : Writes [.meters, .accumulators] arrived d)
        (h : classifyTrunk cid priority payload arrived =
          discardArriving a r d) :
        exec (.trunkDataArrival now frame) s = .next { s with dev := d.countReason .t cid r } := by
      refine exec_trunkData quiet hc hp hl h ?_
      exact ((((arrived_writes s.dev now frame).mono
        (fs := [.now, .lines, .circuitCounters, .meters, .accumulators])).andThen w).andThen
          (countReason_writes d .t cid r)).settle_quiet quiet.2.1 quiet.2.2
    refine ⟨fun mode => ?_, fun mode fits => ?_, fun mode full fits => ?_, fun mode full spent => ?_⟩
    · refine accepts (classified.trans ((meterFrame_green (d := arrived) (a := a) metered (colour_pass mode)).trans ?_))
      rw [colourFrame_pass (d := arrived) mode]
      rfl
    · refine accepts (classified.trans ((meterFrame_green (d := arrived) (a := a) metered (colour_committed mode fits)).trans ?_))
      exact congrArg (acceptFrame _ c) (colourFrame_committed (d := arrived) mode fits)
    · have colour : arrived.colour m payload.length = .yellow := colour_excess mode full fits
      have debited : colourFrame m a.length arrived = arrived.setMeterState m yellow :=
        colourFrame_yellow colour
      have sumEq : (arrived.setMeterState m yellow).thinningSum .t = sum := rfl
      refine ⟨fun policy => ?_, fun policy below => ?_, fun policy reached => ?_⟩
      · refine accepts (classified.trans ((meterFrame_yellow_forward (d := arrived) (a := a) metered colour policy).trans ?_))
        exact congrArg (acceptFrame _ c) debited
      · obtain ⟨stays, thin⟩ := thinLine_passes sumEq below
        have h : classifyTrunk cid priority payload arrived =
            acceptFrame a c
              { arrived.setMeterState m yellow with accumulators := s.dev.accumulators.set .t sum } := by
          rw [classified, meterFrame_yellow_thin (d := arrived) (a := a) metered colour policy, ingress]
          rw [debited,
            thin, if_neg (by rw [stays]; decide)]
          rfl
        obtain ⟨t, runs, meters, accumulators, counted⟩ := exec_accepted quiet hc hp hl h
          ((coloured yellow).andThen (accumulators_writes _ _)) (hasRoom_of_pool room rfl) present
        refine ⟨t, runs, ?_, accumulators, counted⟩
        unfold Device.meterState
        rw [meters]
        exact meterState_setMeterState_self arrived m yellow
      · obtain ⟨over_, thin⟩ := thinLine_discards sumEq reached
        refine discards thinned .thinned ((coloured yellow).andThen (accumulators_writes _ _)) ?_
        rw [classified, meterFrame_yellow_thin (d := arrived) (a := a) metered colour policy, ingress]
        rw [debited,
          thin, if_pos over_]
        rfl
    · have colour : arrived.colour m payload.length = .red := colour_none mode full spent
      have counted := colourFrame_red colour
      refine ⟨fun policy => ?_, fun policy => ?_⟩
      · refine discards (arrived.setMeterState m red) .red (coloured red) (classified.trans
          ((meterFrame_red_drop (d := arrived) (a := a) metered colour policy).trans ?_))
        exact congrArg (discardArriving _ .red) counted
      · refine accepts (classified.trans ((meterFrame_red_forward (d := arrived) (a := a) metered colour policy).trans ?_))
        exact congrArg (acceptFrame _ c) counted
  · intro k st exchanged ref m f c d found passed metered a settings x sum green yellow red thinned
      discarded
    have refusal : d.refusal a c = none := (refusal_branch (f := f) found k st exchanged ref).trans passed
    have line : a.origin.line = k.line := by cases exchanged <;> rfl
    have ingress : c.ingressLine = k.line := (ingress_of_refusal refusal).symm.trans line
    have classified := classify_passed (a := a) found refusal
    have discards (d' : Device) (r : Reason) (pool : d'.pool = d.pool) :
        discardArriving a r d' = discarded r d' := by
      refine (discardArriving_branch k st exchanged ref f r d').trans ?_
      rw [pool]
    refine ⟨fun mode => ?_, fun mode fits => ?_, fun mode full fits => ?_, fun mode full spent => ?_⟩
    · exact classified.trans ((meterFrame_green metered (colour_pass mode)).trans
        (congrArg (acceptFrame a c) (colourFrame_pass mode)))
    · exact classified.trans ((meterFrame_green metered (colour_committed mode fits)).trans
        (congrArg (acceptFrame a c) (colourFrame_committed mode fits)))
    · have colour : d.colour m f.length = .yellow := colour_excess mode full fits
      have debited : colourFrame m a.length d = d.setMeterState m yellow := by
        cases exchanged <;> exact colourFrame_yellow colour
      have sumEq : (d.setMeterState m yellow).thinningSum k.line = sum := rfl
      refine ⟨fun policy => ?_, fun policy below => ?_, fun policy reached => ?_⟩
      · exact classified.trans ((meterFrame_yellow_forward metered colour policy).trans
          (congrArg (acceptFrame a c) debited))
      · obtain ⟨stays, thin⟩ := thinLine_passes sumEq below
        rw [classified, meterFrame_yellow_thin metered colour policy, ingress]
        rw [debited, thin, if_neg (by rw [stays]; decide)]
        rfl
      · obtain ⟨over_, thin⟩ := thinLine_discards sumEq reached
        rw [classified, meterFrame_yellow_thin metered colour policy, ingress]
        rw [debited, thin, if_pos over_]
        exact discards _ .thinned rfl
    · have colour : d.colour m f.length = .red := colour_none mode full spent
      have counted := colourFrame_red colour
      refine ⟨fun policy => ?_, fun policy => ?_⟩
      · refine classified.trans ((meterFrame_red_drop metered colour policy).trans ?_)
        refine (congrArg (discardArriving a .red) counted).trans ?_
        exact discards (d.setMeterState m red) .red rfl
      · exact classified.trans ((meterFrame_red_forward metered colour policy).trans
          (congrArg (acceptFrame a c) counted))

end Sys2Proof.Machine

/-! The Classifier: what an acceptance leaves in the pool, in the queues and in the slots. -/

namespace Sys2Proof.Machine

open Device (Writes)

/- ### The end of an event -/

set_option Elab.async false in
/-- Where the Endpoint has nothing in hand the end of an event is the transmitter's choice (R98). -/
theorem settle_ready {d : Device} (h : d.mgmtReady) : settle d = trunkChoose d := by
  have still : (trunkChoose d).mgmtReady := by
    unfold Device.mgmtReady
    rw [trunkChoose_endpoint h.1]
    exact h
  unfold settle
  rw [fillSlot_ready h, fillSlot_ready still, trunkChoose_idem]

theorem considerPoolEmpty_slot (l : Line) (station : Option Nat) (n : Nat) (d : Device) :
    (considerPoolEmpty l station n d).endpoint.slot = d.endpoint.slot := by
  unfold considerPoolEmpty
  split
  · exact joinEvent_slot ..
  · rfl

/-- What an ATTENTION says depends on no queue and on no slot (R176). -/
theorem attended_egress (d : Device) (x : PerLine Egress) :
    ({ d with egress := x } : Device).attended = { d.attended with egress := x } := by
  unfold Device.attended Device.answered
  dsimp only
  split
  · cases d.trunkTx <;> rfl
  · rfl

theorem attended_slots (d : Device) (x : Table Nat) :
    ({ d with slots := x } : Device).attended = { d.attended with slots := x } := by
  unfold Device.attended Device.answered
  dsimp only
  split
  · cases d.trunkTx <;> rfl
  · rfl

/- ### The pool (R41, R58 to R60, R70) -/

/-- A claim of a trunk frame in the words of the statements (R41, R58, R60, R70). -/
theorem claimTrunk_eq {d : Device} {a : Arriving} (c : Circuit) (payload : List Byte) (n : Nat)
    (room : blocksFor a.length ≤ d.pool.free.length) :
    claimTrunk a c payload n d = d.afterClaim .t none (blocksFor a.length)
      (d.pool.afterAccept (d.acceptedFrame a c payload n) (blocksFor a.length) n) := by
  unfold claimTrunk
  dsimp only
  rw [considerPoolEmpty_claim]
  congr 1
  unfold Pool.hold
  rw [acceptedFrame_name c payload n room]
  unfold Pool.countShared Pool.afterAccept Pool.charge
  dsimp only
  split <;> rfl

/-- The descriptor of a branch frame that is accepted (R41). -/
theorem completeDescriptor_eq {d : Device} {ref : Nat} {f : Frame} (found : d.frame? ref = some f)
    (c : Circuit) (n : Nat) :
    completeDescriptor ref c n d = { d with pool := { d.pool with
      frames := d.pool.frames.insert ref
        { f with refs := n, shared := decide (1 < n), fillCycle := d.fillCycleOf c },
      sharedCount := if 1 < n then d.pool.sharedCount + f.chain.length else d.pool.sharedCount } } := by
  unfold completeDescriptor
  rw [found]
  unfold Pool.countShared
  dsimp only
  split <;> rfl

/- ### Queues (R42) -/

theorem queue_setQueue (d : Device) (l l' : Line) (c c' : Class) (q : List Entry) :
    (d.setQueue l c q).queue l' c' = if l' = l ∧ c' = c then q else d.queue l' c' := by
  unfold Device.setQueue Device.queue Device.setEgr Device.egr
  by_cases line : l' = l
  · subst line
    rw [PerLine.get_set_self]
    by_cases cls : c' = c
    · subst cls
      rw [if_pos ⟨rfl, rfl⟩, PerClass.get_set_self]
    · rw [if_neg fun h => cls h.2, PerClass.get_set_of_ne _ _ cls]
  · rw [if_neg fun h => line h.1, PerLine.get_set_of_ne _ _ line]

theorem egr_setQueue (d : Device) (l l' : Line) (c : Class) (q : List Entry) :
    ((d.setQueue l c q).egr l').credits = (d.egr l').credits ∧
      ((d.setQueue l c q).egr l').release = (d.egr l').release := by
  unfold Device.setQueue Device.setEgr Device.egr
  by_cases line : l' = l
  · subst line
    rw [PerLine.get_set_self]
    exact ⟨rfl, rfl⟩
  · rw [PerLine.get_set_of_ne _ _ line]
    exact ⟨rfl, rfl⟩

section Enqueue

variable (c : Circuit) (cid ref : Nat) (q : Class)

/-- A frame is placed once on every line of a list, at the tail of its class queue (R42). -/
theorem queue_enqueue (lines : List Line) (d : Device) (nodup : lines.Nodup) (l : Line) (q' : Class) :
    (lines.foldl (enqueue c cid ref q) d).queue l q' =
      d.queue l q' ++ (if l ∈ lines ∧ q' = q then [newEntry c cid ref l] else []) := by
  induction lines generalizing d with
  | nil => simp
  | cons x xs ih =>
    obtain ⟨fresh, nodup⟩ := List.nodup_cons.1 nodup
    have first : (enqueue c cid ref q d x).queue l q' =
        if l = x ∧ q' = q then d.queue x q ++ [newEntry c cid ref x] else d.queue l q' :=
      queue_setQueue ..
    rw [List.foldl_cons, ih _ nodup, first]
    by_cases here : l = x ∧ q' = q
    · obtain ⟨rfl, rfl⟩ := here
      simp [fresh]
    · rw [if_neg here]
      refine congrArg (d.queue l q' ++ ·) (if_congr ?_ rfl rfl)
      rw [List.mem_cons]
      tauto

theorem egr_enqueue (lines : List Line) (d : Device) (l : Line) :
    ((lines.foldl (enqueue c cid ref q) d).egr l).credits = (d.egr l).credits ∧
      ((lines.foldl (enqueue c cid ref q) d).egr l).release = (d.egr l).release :=
  List.foldlRecOn (motive := fun x : Device => (x.egr l).credits = (d.egr l).credits ∧
    (x.egr l).release = (d.egr l).release) lines _ ⟨rfl, rfl⟩ fun x h y _ => by
      obtain ⟨credits, release⟩ := egr_setQueue x y l q (x.queue y q ++ [newEntry c cid ref y])
      exact ⟨credits.trans h.1, release.trans h.2⟩

theorem enqueue_egress (lines : List Line) (d : Device) : lines.foldl (enqueue c cid ref q) d =
    { d with egress := (lines.foldl (enqueue c cid ref q) d).egress } :=
  List.foldlRecOn (motive := fun x : Device => x = { d with egress := x.egress }) lines _ rfl fun x h y _ => by
    rw [h]
    rfl

end Enqueue

theorem reducedSet_nodup (d : Device) (c : Circuit) : (d.reducedSet c).Nodup :=
  ((show Line.all.Nodup by decide).filter _).filter _

set_option Elab.async false in
/-- A line on which no branch is in DONE looks at nothing (R122). -/
theorem notice_eq_self {d : Device} {l : Line} (h : ∀ k : Branch, k.line = l → (d.seq k).state ≠ .done) :
    notice d l = d := by
  unfold notice
  split
  · rfl
  · rename_i k branch
    have line : k.line = l := by
      revert branch
      cases l <;> cases k <;> decide
    exact if_neg fun both => h k line both.2

/- ### Slots (R43) -/

/-- What is counted depends on no slot (R44). -/
theorem countReason_slots (d : Device) (s : Table Nat) (l : Line) (cid : Nat) (r : Reason) :
    ({ d with slots := s } : Device).countReason l cid r = { d.countReason l cid r with slots := s } := by
  have bump (x : Device) (c : CircuitCounter) : ({ x with slots := s } : Device).bumpCircuit cid c =
      { x.bumpCircuit cid c with slots := s } := by
    unfold Device.bumpCircuit Device.bumpCircuitBy
    rcases found : x.circuit? cid with _ | circuit
    · rw [show ({ x with slots := s } : Device).circuit? cid = none from found]
    · rw [show ({ x with slots := s } : Device).circuit? cid = some circuit from found]
  unfold Device.countReason
  split
  · rfl
  · exact bump (d.bumpLine l r.lineCounter) _

/-- A slot's frame that is given up, in the words of the statements (R43, R90). -/
theorem dropSlot_eq (l : Line) (r : Reason) (d : Device) (cid ref : Nat) :
    dropSlot l r d (cid, ref) = { d.dropFrame l ref r with slots := d.slots.erase cid } := by
  unfold dropSlot Device.dropFrame
  dsimp only
  have frame : ({ d with slots := d.slots.erase cid } : Device).frame? ref = d.frame? ref := rfl
  rw [frame]
  split
  · rfl
  · rw [countReason_slots]
    rfl

/-- The part after a PERIODIC frame has taken its circuit's slot, but for the slots (R43). -/
def Device.superseding (d : Device) (cid : Nat) (l : Line) : Device :=
  match d.slots.find? cid with
  | none => d
  | some old => d.dropFrame l old .superseded

theorem placePeriodic_eq (cid ref : Nat) (l : Line) (d : Device) :
    placePeriodic cid ref l d =
      { d.superseding cid l with slots := (placePeriodic cid ref l d).slots } ∧
    (placePeriodic cid ref l d).slots.find? cid = some ref ∧
    ∀ cid', cid' ≠ cid → (placePeriodic cid ref l d).slots.find? cid' = d.slots.find? cid' := by
  unfold placePeriodic Device.superseding
  rcases d.slots.find? cid with _ | old
  · exact ⟨rfl, Table.find?_insert_self .., fun cid' other => Table.find?_insert_of_ne _ _ other⟩
  · refine ⟨?_, Table.find?_insert_self .., fun cid' other => ?_⟩
    · dsimp only
      rw [dropSlot_eq]
    · refine (Table.find?_insert_of_ne _ _ other).trans ?_
      rw [dropSlot_slots]
      exact Table.find?_erase_of_ne _ other

end Sys2Proof.Machine

/-! Acceptance: what an accepted frame leaves, on the queues or in its slot. -/

namespace Sys2Proof.Machine

open Device (Writes)

section Accept

variable {d : Device} {a : Arriving} {c : Circuit}

set_option Elab.async false in
/-- A frame of a circuit without a meter goes on to acceptance (R39). -/
theorem meterFrame_unmetered (h : c.meter = none) : meterFrame a c d = acceptFrame a c d := by
  unfold meterFrame
  rw [h]

/-- The part once a frame's blocks are settled and it has been counted, before it is placed (R41). -/
def Device.counted (d : Device) (a : Arriving) (c : Circuit) : Device :=
  ((settleBlocks a c (d.reducedSet c).length d).bumpCircuit a.cid .acceptedFrames).bumpCircuitBy a.cid
    .acceptedBytes a.length

theorem counted_writes (room : d.hasRoom a) :
    Writes [.pool, .endpoint, .circuitCounters] d (d.counted a c) :=
  ((settleBlocks_writes d a c _ room).mono.andThen (bumpCircuit_writes ..)).andThen
    (bumpCircuitBy_writes ..)

theorem acceptFrame_aperiodic (h : c.kind = .aperiodic) :
    acceptFrame a c d = placeAperiodic c a.cid (d.placedRef a.origin) (d.classOf c a.priority)
      (d.reducedSet c) (d.counted a c) := by
  unfold acceptFrame
  rw [h]
  rfl

theorem acceptFrame_periodic (h : c.kind = .periodic) :
    acceptFrame a c d = placePeriodic a.cid (d.placedRef a.origin) ((d.reducedSet c).headD .t)
      (d.counted a c) := by
  unfold acceptFrame
  rw [h]
  rfl

/-- The class of an accepted frame, in the words of the statements (R30). -/
theorem classOf_eq (d : Device) (c : Circuit) (priority : Nat) : d.classOf c priority =
    match c.classSource with
    | .fixed => c.fixedClass
    | .mapped => d.tables.priorities.getD (c.ingressLine.toNat * 8 + priority) .c0 := rfl

theorem counted_slot : (d.counted a c).endpoint.slot = d.endpoint.slot := by
  have settled : (settleBlocks a c (d.reducedSet c).length d).endpoint.slot = d.endpoint.slot := by
    unfold settleBlocks
    split
    · exact considerPoolEmpty_slot ..
    · rw [(completeDescriptor_writes ..).endpoint]
    · rw [(completeDescriptor_writes ..).endpoint]
  unfold Device.counted
  rw [(bumpCircuitBy_writes ..).endpoint, (bumpCircuit_writes ..).endpoint]
  exact settled

theorem counted_unasked (h : d.unasked) : (d.counted a c).unasked := by
  have settled : (settleBlocks a c (d.reducedSet c).length d).unasked := by
    unfold settleBlocks
    split
    · exact considerPoolEmpty_unasked (by exact h) ..
    · exact (completeDescriptor_writes ..).unasked h
    · exact (completeDescriptor_writes ..).unasked h
  exact (bumpCircuitBy_writes ..).unasked ((bumpCircuit_writes ..).unasked settled)

end Accept

/-- An accepted trunk frame's blocks are settled and it is counted (R41, R60, R70). -/
theorem counted_trunk {d : Device} {cid priority : Nat} {payload : List Byte} (c : Circuit)
    (room : d.hasRoom (trunkArriving cid priority payload)) :
    d.counted (trunkArriving cid priority payload) c =
      ((d.afterClaim .t none (max 1 ((payload.length + 127) / 128)) (d.pool.afterAccept
        (heldFrame d.pool.free cid priority payload (d.reducedSet c).length (d.fillCycleOf c))
        (max 1 ((payload.length + 127) / 128)) (d.reducedSet c).length)).bumpCircuit cid
          .acceptedFrames).bumpCircuitBy cid .acceptedBytes payload.length := by
  have claimed := claimTrunk_eq (a := trunkArriving cid priority payload) c payload
    (d.reducedSet c).length (room payload rfl)
  exact congrArg (fun x : Device => (x.bumpCircuit cid .acceptedFrames).bumpCircuitBy cid .acceptedBytes
    payload.length) claimed

/-- An accepted branch frame's descriptor is completed and it is counted (R41). -/
theorem counted_branch {d : Device} {ref : Nat} {f : Frame} (found : d.frame? ref = some f) (k : Branch)
    (st : Nat) (exchanged : Option (Option Nat)) (c : Circuit) :
    d.counted (branchArriving k st exchanged ref f) c =
      (({ d with pool := { d.pool with
          frames := d.pool.frames.insert ref { f with
            refs := (d.reducedSet c).length, shared := decide (1 < (d.reducedSet c).length),
            fillCycle := d.fillCycleOf c },
          sharedCount :=
            if 1 < (d.reducedSet c).length then d.pool.sharedCount + f.chain.length
            else d.pool.sharedCount } } : Device).bumpCircuit f.cid .acceptedFrames).bumpCircuitBy f.cid
              .acceptedBytes f.length := by
  have completed := completeDescriptor_eq found c (d.reducedSet c).length
  refine Eq.trans ?_ (congrArg (fun x : Device =>
    (x.bumpCircuit f.cid .acceptedFrames).bumpCircuitBy f.cid .acceptedBytes f.length) completed)
  cases exchanged <;> rfl

/-- A trunk frame that no check refuses and no meter colours is accepted (R33 to R41). -/
theorem classifyTrunk_accepts {d : Device} {cid : Nat} {payload : List Byte} {c : Circuit}
    (opened : d.trunkAdm = .opened) (found : d.circuit? cid = some c)
    (passed : d.trunkRefusal cid payload.length = none) (unmetered : c.meter = none) (priority : Nat) :
    classifyTrunk cid priority payload d = acceptFrame (trunkArriving cid priority payload) c d := by
  have refusal := (refusal_trunk found priority payload).trans passed
  rw [classifyTrunk_opened opened, classify_passed (a := trunkArriving cid priority payload) found refusal,
    meterFrame_unmetered unmetered]

/-- A frame that no check refuses is of a kind that its circuit takes (R35). -/
theorem kind_of_refusal {d : Device} {a : Arriving} {c : Circuit} (h : d.refusal a c = none) :
    a.origin.wrongKind c a.cid = false := by
  unfold Device.refusal at h
  split at h
  · cases h
  · split at h
    · cases h
    · split at h
      · cases h
      · rename_i kind
        exact Bool.eq_false_iff.2 kind

/-- The class queues of a part whose queues are those of another. -/
theorem queue_of_egress {d d' : Device} (h : d'.egress = d.egress) (l : Line) (c : Class) :
    d'.queue l c = d.queue l c := by
  unfold Device.queue Device.egr
  rw [h]

set_option Elab.async false in
theorem egr_of_egress {d d' : Device} (h : d'.egress = d.egress) (l : Line) : d'.egr l = d.egr l := by
  unfold Device.egr
  rw [h]

/-- An entry of a branch queue, in the words of the statements (R42). -/
theorem newEntry_branch {l : Line} (h : l ≠ .t) (c : Circuit) (cid ref : Nat) :
    newEntry c cid ref l =
      { frame := ref, egressCid := c.egressCid.getD cid, station := c.egressStation, busy := 0,
        nextSegment := 1 } := by
  unfold newEntry
  rw [if_neg h]
  rfl

/-- Settles O14. -/
theorem acceptedAperiodicFrameIsHeldAndQueued : Obligations.AcceptedAperiodicFrameIsHeldAndQueued := by
  refine ⟨?_, fun d ready => settle_ready ready, ?_⟩
  · intro now cid priority payload c s quiet hc hp hl opened found passed aperiodic unmetered lines n
      branches waiting frame held counted q entry
    let a := trunkArriving cid priority payload
    let arrived := s.dev.arrived now (trunkData cid priority payload)
    have refusal : arrived.refusal a c = none :=
      (refusal_trunk (d := arrived) (cid := cid) found priority payload).trans passed
    have room := hasRoom_of_refusal refusal
    have ingress : c.ingressLine = .t := (ingress_of_refusal refusal).symm
    have fill : arrived.fillCycleOf c = none := by
      unfold Device.fillCycleOf
      rw [aperiodic]
      rfl
    have isCounted : arrived.counted a c = counted := by
      have h := counted_trunk (cid := cid) (priority := priority) c room
      rw [fill] at h
      exact h
    have classIs : arrived.classOf c priority = q := by
      rw [classOf_eq, ingress]
      cases source : c.classSource with
      | fixed => exact (show q = c.fixedClass by simp only [q, source]).symm
      | mapped =>
        refine Eq.trans ?_ (show q = s.dev.tables.priorities.getD priority .c0 by
          simp only [q, source]).symm
        show s.dev.tables.priorities.getD (0 * 8 + priority) .c0 = _
        rw [Nat.zero_mul, Nat.zero_add]
    let placed := lines.foldl (enqueue c cid (s.dev.pool.free.headD 0) q) counted
    have written : Writes [.now, .lines, .pool, .endpoint, .circuitCounters] s.dev counted := by
      rw [← isCounted]
      exact (arrived_writes ..).mono.andThen (counted_writes room)
    have stays (x : Device) (l : Line) (hl : l ∈ lines) (seqs : x.seqs = s.dev.seqs) : notice x l = x := by
      refine notice_eq_self fun k branch => ?_
      unfold Device.seq
      rw [seqs]
      exact waiting k (branch ▸ hl)
    have accepted : acceptFrame a c arrived = placed := by
      have unseen : ∀ (ls : List Line) (x : Device), (∀ l ∈ ls, l ∈ lines) → x.seqs = s.dev.seqs →
          ls.foldl notice x = x := by
        intro ls
        induction ls with
        | nil => exact fun _ _ _ => rfl
        | cons l ls ih =>
          intro x sub seqs
          rw [List.foldl_cons, stays x l (sub l List.mem_cons_self) seqs]
          exact ih x (fun l' h => sub l' (List.mem_cons_of_mem _ h)) seqs
      rw [acceptFrame_aperiodic aperiodic, isCounted]
      have ready : arrived.classOf c a.priority = q := classIs
      rw [ready]
      refine unseen lines placed (fun _ h => h) ?_
      have w : Writes [.egress, .queued] counted placed :=
        .foldl (fun d l => enqueue_writes d c cid _ q l) lines counted
      exact w.seqs.trans written.seqs
    have block : placed = { counted with egress := placed.egress } := enqueue_egress ..
    have queues (l : Line) (q' : Class) : placed.queue l q' =
        s.dev.queue l q' ++ (if l ∈ lines ∧ q' = q then [entry] else []) := by
      refine (queue_enqueue c cid _ q lines counted (reducedSet_nodup ..) l q').trans ?_
      rw [queue_of_egress written.egress]
      refine congrArg (s.dev.queue l q' ++ ·) ?_
      split
      · rename_i here
        rw [newEntry_branch (fun trunk => branches (trunk ▸ here.1))]
      · rfl
    have ends : settle placed = placed.attended := by
      have slot : placed.endpoint.slot = none := by
        rw [block, ← isCounted]
        exact counted_slot.trans quiet.2.1.1
      have unasked : placed.unasked := by
        rw [block, ← isCounted]
        exact counted_unasked (a := a) ⟨quiet.2.1.2.1, quiet.2.1.2.2.1⟩
      refine settle_attention slot unasked.1 unasked.2 ?_
      have still := quiet.2.2
      unfold Device.trunkQuiet at still ⊢
      have sameQueue (q' : Class) : placed.queue .t q' = s.dev.queue .t q' := by
        rw [queues, if_neg fun h => branches h.1, List.append_nil]
      rw [show placed.trunkTx = s.dev.trunkTx by rw [block]; exact written.trunkTx,
        show placed.trunkAdm = s.dev.trunkAdm by rw [block]; exact written.trunkAdm]
      refine still.imp_right (.imp_right fun ⟨slots, queue⟩ => ⟨?_, fun q' => (sameQueue q').trans (queue q')⟩)
      rw [block]
      unfold Device.slotsAt Device.slotLine? Device.circuit? at slots ⊢
      dsimp only
      rw [written.slots, written.tables]
      exact slots
    have runs := exec_trunkData quiet hc hp hl ((classifyTrunk_accepts (d := arrived) opened found passed
      unmetered priority).trans accepted) ends
    have attended : placed.attended = { counted.attended with egress := placed.egress } := by
      rw [block]
      exact attended_egress ..
    have egress : placed.attended.egress = placed.egress := by rw [attended]
    refine ⟨_, runs, ?_, fun l q' => (queue_of_egress egress l q').trans (queues l q'), fun l => ?_⟩
    · show ({ s with dev := placed.attended } : State) =
        { s with dev := { counted.attended with egress := placed.attended.egress } }
      rw [egress, ← attended]
    · show (placed.attended.egr l).credits = _ ∧ (placed.attended.egr l).release = _
      rw [egr_of_egress egress]
      obtain ⟨credits, release⟩ := egr_enqueue c cid (s.dev.pool.free.headD 0) q lines counted l
      rw [← egr_of_egress written.egress]
      exact ⟨credits, release⟩
  · intro k st ref f c d held found passed a lines f' heldPart counted q entry looks
    have refusal : d.refusal a c = none := (refusal_branch (f := f) found k st none ref).trans passed
    have ingress : c.ingressLine = k.line := (ingress_of_refusal refusal).symm
    have aperiodic : c.kind = .aperiodic := by
      have kind : (c.kind == .periodic) = false := kind_of_refusal refusal
      revert kind
      cases c.kind <;> decide
    have classified : c.meter = none → classify a d = acceptFrame a c d := fun unmetered =>
      (classify_passed (a := a) found refusal).trans (meterFrame_unmetered unmetered)
    have fill : d.fillCycleOf c = none := by
      unfold Device.fillCycleOf
      rw [aperiodic]
      rfl
    have isCounted : d.counted a c = counted := by
      have h := counted_branch held k st none c
      rw [fill] at h
      exact h
    have classIs : d.classOf c f.priority = q := by
      refine (classOf_eq ..).trans ?_
      cases source : c.classSource <;> simp only [q, source, ingress]
    have looksIs : looks = notice := by
      funext x l
      cases l <;> rfl
    have written : Writes [.pool, .endpoint, .circuitCounters] d counted := by
      rw [← isCounted]
      exact counted_writes (hasRoom_of_refusal refusal)
    refine ⟨classified, lines.foldl (enqueue c f.cid ref q) counted, ?_, enqueue_egress .., fun l q' => ?_,
      fun l => ?_⟩
    · rw [acceptFrame_aperiodic aperiodic, isCounted, looksIs]
      exact congrArg (placeAperiodic c f.cid ref · lines counted) classIs
    · refine (queue_enqueue c f.cid ref q lines counted (reducedSet_nodup ..) l q').trans ?_
      rw [queue_of_egress written.egress]
      rfl
    · obtain ⟨credits, release⟩ := egr_enqueue c f.cid ref q lines counted l
      rw [← egr_of_egress written.egress]
      exact ⟨credits, release⟩

end Sys2Proof.Machine

/-! Acceptance of a PERIODIC frame: it takes its circuit's slot. -/

namespace Sys2Proof.Machine

open Device (Writes)

set_option Elab.async false in
/-- A frame that takes a slot lists that slot and no other anew (R43). -/
theorem mem_placePeriodic {cid ref : Nat} {l : Line} {d : Device} {x : Nat × Nat}
    (h : x ∈ (placePeriodic cid ref l d).slots.cells) : x = (cid, ref) ∨ x ∈ d.slots.cells := by
  unfold placePeriodic at h
  dsimp only at h
  refine (Table.mem_place h).imp_right fun mem => ?_
  split at mem
  · rw [dropSlot_slots] at mem
    exact (List.mem_filter.1 mem).1
  · exact mem

/-- A circuit whose open egress lines are one branch has its slot on a branch while T is open (R24,
R89). -/
theorem slotLine_ne_trunk {d : Device} {c : Circuit} {k : Branch} (opened : d.trunkAdm = .opened)
    (h : d.reducedSet c = [k.line]) : c.slotLine ≠ .t := by
  have mem : k.line ∈ egressLines c.egress := List.mem_of_mem_filter (h ▸ List.mem_cons_self)
  have open_ : d.lineOpen .t = true := beq_iff_eq.2 opened
  intro trunk
  obtain ⟨l, ls, lines⟩ := List.exists_cons_of_ne_nil (List.ne_nil_of_mem mem)
  unfold Circuit.slotLine at trunk
  rw [lines] at trunk
  have here : Line.t ∈ d.reducedSet c := by
    refine List.mem_filter.2 ⟨?_, open_⟩
    rw [lines, ← show l = .t from trunk]
    exact List.mem_cons_self
  rw [h, List.mem_singleton] at here
  cases k <;> cases here

/-- Settles O15. -/
theorem acceptedPeriodicFrameTakesItsSlot : Obligations.AcceptedPeriodicFrameTakesItsSlot := by
  refine ⟨?_, ?_⟩
  · intro now cid priority payload c k s quiet hc hp hl opened found passed periodic unmetered one n ref
      frame held counted settled
    let a := trunkArriving cid priority payload
    let arrived := s.dev.arrived now (trunkData cid priority payload)
    have refusal : arrived.refusal a c = none :=
      (refusal_trunk (d := arrived) (cid := cid) found priority payload).trans passed
    have room := hasRoom_of_refusal refusal
    have set : arrived.reducedSet c = [k.line] := one
    have fill : arrived.fillCycleOf c = some s.dev.timer.cycle := if_pos periodic
    have isCounted : arrived.counted a c = counted := by
      have h := counted_trunk (cid := cid) (priority := priority) c room
      rw [fill, set] at h
      exact h
    have written : Writes [.now, .lines, .pool, .endpoint, .circuitCounters] s.dev counted := by
      rw [← isCounted]
      exact (arrived_writes ..).mono.andThen (counted_writes room)
    let placed := placePeriodic cid ref k.line counted
    have accepted : acceptFrame a c arrived = placed := by
      rw [acceptFrame_periodic periodic, isCounted, set]
      rfl
    obtain ⟨block, taken, others⟩ := placePeriodic_eq cid ref k.line counted
    have isSettled : counted.superseding cid k.line = settled :=
      congrArg (fun held : Option Nat => match held with
        | none => counted
        | some old => counted.dropFrame k.line old .superseded)
        (congrArg (Table.find? · cid) written.slots)
    have moved := placePeriodic_writes counted cid ref k.line
    have ends : settle placed = placed.attended := by
      have slot : placed.endpoint.slot = none := by
        rw [show placed.endpoint = counted.endpoint from moved.endpoint, ← isCounted]
        exact counted_slot.trans quiet.2.1.1
      have unasked : placed.unasked := by
        refine moved.unasked ?_
        rw [← isCounted]
        exact counted_unasked (a := a) ⟨quiet.2.1.2.1, quiet.2.1.2.2.1⟩
      refine settle_attention slot unasked.1 unasked.2 ?_
      have still := quiet.2.2
      unfold Device.trunkQuiet at still ⊢
      rw [show placed.trunkTx = s.dev.trunkTx from moved.trunkTx.trans written.trunkTx,
        show placed.trunkAdm = s.dev.trunkAdm from moved.trunkAdm.trans written.trunkAdm]
      refine still.imp_right (.imp_right fun ⟨slots, queue⟩ => ⟨?_, fun q' => ?_⟩)
      · refine List.filter_eq_nil_iff.2 fun x hx at_ => ?_
        have tables : placed.tables = s.dev.tables := moved.tables.trans written.tables
        have line : placed.slotLine? = s.dev.slotLine? := by
          unfold Device.slotLine? Device.circuit?
          rw [tables]
        rw [line] at at_
        rcases mem_placePeriodic hx with rfl | old
        · unfold Device.slotLine? at at_
          rw [found] at at_
          exact slotLine_ne_trunk opened one (Option.some.inj (beq_iff_eq.1 at_))
        · rw [written.slots] at old
          exact List.filter_eq_nil_iff.1 slots x old at_
      · exact (queue_of_egress (moved.egress.trans written.egress) .t q').trans (queue q')
    have runs := exec_trunkData quiet hc hp hl ((classifyTrunk_accepts (d := arrived) opened found passed
      unmetered priority).trans accepted) ends
    rw [isSettled] at block
    have attended : placed.attended = { settled.attended with slots := placed.slots } := by
      rw [show placed = _ from block]
      exact attended_slots ..
    have slots : placed.attended.slots = placed.slots := by rw [attended]
    refine ⟨_, runs, ?_, ?_, fun cid' other => ?_⟩
    · show ({ s with dev := placed.attended } : State) =
        { s with dev := { settled.attended with slots := placed.attended.slots } }
      rw [slots, ← attended]
    · show placed.attended.slots.find? cid = some ref
      rw [slots]
      exact taken
    · show placed.attended.slots.find? cid' = _
      rw [slots, ← written.slots]
      exact others cid' other
  · intro k st ref f c l d held found passed one a f' heldPart counted settled
    have refusal : d.refusal a c = none :=
      (refusal_branch (f := f) found k st (some (some f.cid)) ref).trans passed
    have periodic : c.kind = .periodic := by
      have kind : (c.kind == .aperiodic || some f.cid != some f.cid) = false := kind_of_refusal refusal
      rw [Bool.or_eq_false_iff] at kind
      revert kind
      cases c.kind <;> simp
    have isCounted : d.counted a c = counted := by
      have h := counted_branch held k st (some (some f.cid)) c
      rw [show d.fillCycleOf c = some d.timer.cycle from if_pos periodic, one] at h
      exact h
    have written : Writes [.pool, .endpoint, .circuitCounters] d counted := by
      rw [← isCounted]
      exact counted_writes (hasRoom_of_refusal refusal)
    have isPlaced : acceptFrame a c d = placePeriodic f.cid ref l counted := by
      rw [acceptFrame_periodic periodic, isCounted, one]
      rfl
    obtain ⟨block, taken, others⟩ := placePeriodic_eq f.cid ref l counted
    have isSettled : counted.superseding f.cid l = settled :=
      congrArg (fun held : Option Nat => match held with
        | none => counted
        | some old => counted.dropFrame l old .superseded)
        (congrArg (Table.find? · f.cid) written.slots)
    rw [isSettled] at block
    have classified (unmetered : c.meter = none) : classify a d = acceptFrame a c d :=
      (classify_passed (a := a) found refusal).trans (meterFrame_unmetered unmetered)
    have endpoint : (acceptFrame a c d).endpoint = d.endpoint := by
      rw [isPlaced, (placePeriodic_writes ..).endpoint]
      exact (bumpCircuitBy_writes ..).endpoint.trans (bumpCircuit_writes heldPart ..).endpoint
    refine ⟨classified, fun ready => settle_ready ?_, ?_, ?_, ?_⟩
    · unfold Device.mgmtReady
      rw [endpoint]
      exact ready
    · rw [isPlaced]
      exact block
    · rw [isPlaced]
      exact taken
    · rw [isPlaced, ← written.slots]
      exact others

end Sys2Proof.Machine

/-! The WEIGHTED round: over it each eligible source is picked as many times as its weight. -/

namespace Sys2Proof.Machine

section Round

variable {ls : LineSettings} {eligible : Source → Bool}

set_option Elab.async false in
theorem nodup_able (eligible : Source → Bool) : (weightedRank.filter eligible).Nodup :=
  List.Nodup.filter eligible (by decide)

/-- A pick that finds a credit takes one from the credits left to the eligible sources. -/
theorem sum_spend {credits : Credits} {able : List Source} {pick : Source} (nodup : able.Nodup)
    (mem : pick ∈ able) (left : credits.of pick ≠ 0) :
    (able.map (credits.spend pick).of).sum + 1 = (able.map credits.of).sum := by
  have others : (able.erase pick).map (credits.spend pick).of = (able.erase pick).map credits.of :=
    List.map_congr_left fun s hs => Credits.of_spend_of_ne _ ((nodup.mem_erase_iff.1 hs).1)
  have after := List.sum_map_erase (credits.spend pick).of mem
  have before := List.sum_map_erase credits.of mem
  rw [others, Credits.of_spend_self] at after
  omega

/-- A selection that finds a credit left picks an eligible source with a credit and takes one from
it (R94). -/
theorem selectSource_left {credits : Credits} (mode : ls.egressMode = .weighted)
    (left : ∃ s, eligible s = true ∧ credits.of s ≠ 0) :
    ∃ pick, eligible pick = true ∧ credits.of pick ≠ 0 ∧
      selectSource ls credits eligible = some (pick, credits.spend pick) := by
  have round := roundCredits_of_left (ls := ls) left
  obtain ⟨s, hs, positive⟩ := left
  obtain ⟨pick, picked⟩ :
      ∃ pick, greatest credits.of (weightedRank.filter eligible) = some pick :=
    Option.ne_none_iff_exists'.1 fun nothing =>
      List.ne_nil_of_mem (mem_filter_weightedRank.2 hs) (greatest_eq_none_iff.1 nothing)
  obtain ⟨mem, most, -⟩ := greatest_first (filter_weightedRank_pairwise eligible) picked
  have more := most s (mem_filter_weightedRank.2 hs)
  refine ⟨pick, mem_filter_weightedRank.1 mem, by omega, ?_⟩
  rw [selectSource_weighted mode, round, picked, Option.map_some]

/-- As many selections as the eligible sources have credits use up exactly these credits. -/
theorem picks_all (mode : ls.egressMode = .weighted) (n : Nat) (credits : Credits)
    (total : ((weightedRank.filter eligible).map credits.of).sum = n) (s : Source) :
    (picks ls eligible n credits).1.count s = (if eligible s then credits.of s else 0) ∧
      (picks ls eligible n credits).2.of s = (if eligible s then 0 else credits.of s) := by
  induction n generalizing credits with
  | zero =>
    have spent : eligible s = true → credits.of s = 0 := fun hs =>
      List.sum_eq_zero_iff.1 total _ (List.mem_map_of_mem (mem_filter_weightedRank.2 hs))
    cases hs : eligible s <;> simp [picks, hs, spent]
  | succ n ih =>
    have left : ∃ s, eligible s = true ∧ credits.of s ≠ 0 := by
      by_contra spent
      push Not at spent
      have zero : ((weightedRank.filter eligible).map credits.of).sum = 0 := by
        refine List.sum_eq_zero_iff.2 fun x hx => ?_
        obtain ⟨s, hs, rfl⟩ := List.mem_map.1 hx
        exact spent s (mem_filter_weightedRank.1 hs)
      omega
    obtain ⟨pick, able, positive, selected⟩ := selectSource_left mode left
    have rest := sum_spend (nodup_able eligible) (mem_filter_weightedRank.2 able) positive
    obtain ⟨count, credit⟩ := ih (credits.spend pick) (by omega)
    simp only [picks, selected]
    rw [List.count_cons, count, credit]
    by_cases here : s = pick
    · subst here
      simp only [able, if_true, Credits.of_spend_self, beq_self_eq_true]
      exact ⟨Nat.sub_add_cancel (Nat.pos_of_ne_zero positive), trivial⟩
    · have apart : (pick == s) = false := beq_false_of_ne (Ne.symm here)
      rw [Credits.of_spend_of_ne _ here, apart]
      exact ⟨rfl, rfl⟩

end Round

/-- Settles O28: the credits used up are the weights. -/
theorem roundPicksEachSourceByItsWeight : Obligations.RoundPicksEachSourceByItsWeight := by
  intro ls eligible mode
  exact picks_all mode _ _ rfl

end Sys2Proof.Machine

/-! The choice of an idle trunk transmitter: the response slot, the T slot of lowest CID, the class
picked. -/

namespace Sys2Proof.Machine

/- ### Shaper holds (R96) -/

set_option Elab.async false in
@[simp] theorem setRelease_release (l : Line) (c : Class) (d : Device) :
    d.setRelease l c (d.release l c) = d := by
  have own : (d.egr l).release.set c ((d.egr l).release.get c) = (d.egr l).release := by
    cases c <;> rfl
  unfold Device.setRelease Device.release
  rw [own]
  exact congrArg (fun e => { d with egress := e }) (PerLine.set_get d.egress l)

theorem setHold_eq (l : Line) (c : Class) (n : Nat) (d : Device) :
    setHold l c n d = d.setRelease l c
      (if 0 < (d.settings l).rates.get c ∧ 0 < n then some (d.now + n * (d.settings l).rates.get c)
        else d.release l c) := by
  unfold setHold
  dsimp only
  split
  · rfl
  · exact (setRelease_release l c d).symm

theorem release_setQueue (d : Device) (l : Line) (c : Class) (q : List Entry) (c' : Class) :
    (d.setQueue l c q).release l c' = d.release l c' :=
  congrArg (PerClass.get · c') (egr_setQueue d l l c q).2

/- ### The three choices (R98, R99) -/

section Choice

variable {d : Device}

/-- In the slots of a line the slot of lowest CID comes first. -/
theorem slotsAt_cons {l : Line} {cid ref : Nat} (sorted : d.slots.sorted)
    (mem : (cid, ref) ∈ d.slotsAt l) (lowest : ∀ x ∈ d.slotsAt l, cid ≤ x.1) :
    ∃ rest, d.slotsAt l = (cid, ref) :: rest := by
  have order : (d.slotsAt l).Pairwise fun a b => a.1 < b.1 :=
    (List.pairwise_map.1 sorted).filter _
  cases slots : d.slotsAt l with
  | nil => exact absurd (slots ▸ mem) List.not_mem_nil
  | cons x rest =>
    rw [slots] at mem lowest order
    rcases List.mem_cons.1 mem with rfl | later
    · exact ⟨rest, rfl⟩
    · have above := (List.pairwise_cons.1 order).1 _ later
      have below := lowest x List.mem_cons_self
      omega

theorem trunkChoose_slot {cid ref : Nat} {rest : List (Nat × Nat)} (idle : d.trunkTx = none)
    (empty : d.endpoint.slot = none) (opened : d.trunkAdm = .opened)
    (slots : d.slotsAt .t = (cid, ref) :: rest) : trunkChoose d = startTrunkSlot cid ref d := by
  unfold trunkChoose
  rw [idle, empty]
  dsimp only
  rw [if_pos opened, slots]

theorem trunkChoose_select (idle : d.trunkTx = none) (empty : d.endpoint.slot = none)
    (opened : d.trunkAdm = .opened) (slots : d.slotsAt .t = []) :
    trunkChoose d = trunkSelect d := by
  unfold trunkChoose
  rw [idle, empty]
  dsimp only
  rw [if_pos opened, slots]

theorem startTrunkSlot_eq {cid ref : Nat} {c : Circuit} {f : Frame}
    (circuit : d.circuit? cid = some c) (frame : d.frame? ref = some f) :
    startTrunkSlot cid ref d =
      { d with
        slots := d.slots.erase cid,
        trunkTx := some
          { holds := .frame ref,
            wire := trunkData (c.egressCid.getD cid) f.priority f.payload } } := by
  unfold startTrunkSlot startTrunkFrame Device.trunkWire
  rw [circuit, show Device.frame? { d with slots := d.slots.erase cid } ref = some f from frame]
  rfl

theorem lengthOf_eq {ref : Nat} {f : Frame} (frame : d.frame? ref = some f) :
    d.lengthOf ref = f.length := by
  unfold Device.lengthOf
  rw [frame]
  rfl

theorem startTrunkClass_eq {c : Class} {e : Entry} {es : List Entry} {f : Frame}
    (queue : d.queue .t c = e :: es) (frame : d.frame? e.frame = some f) :
    startTrunkClass c d =
      { (d.setQueue .t c es).setRelease .t c
          (if 0 < (d.settings .t).rates.get c ∧ 0 < f.length then
            some (d.now + f.length * (d.settings .t).rates.get c)
          else d.release .t c) with
        trunkTx := some
          { holds := .frame e.frame, wire := trunkData e.egressCid f.priority f.payload } } := by
  unfold startTrunkClass
  rw [queue]
  dsimp only
  rw [lengthOf_eq frame, setHold_eq, release_setQueue]
  unfold startTrunkFrame Device.trunkWire
  rw [show Device.frame? ((d.setQueue .t c es).setRelease .t c _) e.frame = some f from frame]
  rfl

end Choice

/-- Settles O29: the branches of the choice. -/
theorem idleTransmitterStartsTheFirstSource : Obligations.IdleTransmitterStartsTheFirstSource := by
  intro d idle sorted
  refine ⟨fun r slot => trunkChoose_record idle slot, fun empty mgmtOnly => ?_,
    fun empty opened => ⟨?slot, ?nothing, ?cls⟩⟩
  · exact trunkChoose_quiet empty (.inr (.inl mgmtOnly))
  case slot =>
    intro cid ref c f mem lowest circuit frame
    obtain ⟨rest, slots⟩ := slotsAt_cons sorted mem lowest
    rw [trunkChoose_slot idle empty opened slots, startTrunkSlot_eq circuit frame]
  case nothing =>
    exact fun slots queues => trunkChoose_quiet empty (.inr (.inr ⟨slots, queues⟩))
  case cls =>
    intro c credits e es f slots selected queue frame
    rw [trunkChoose_select idle empty opened slots]
    unfold trunkSelect
    rw [selected]
    dsimp only
    rw [startTrunkClass_eq (d := d.setCredits .t credits) (e := e) (es := es) (f := f) queue frame]
    rfl

end Sys2Proof.Machine

/-! The end of a trunk transmission: the frame is released, and what waits is sent. -/

namespace Sys2Proof.Machine

open Device (Writes)

/- ### The slot rule on an Endpoint with an empty slot (R171) -/

section Slot

variable {d : Device}

set_option Elab.async false in
theorem fillSlot_restart (slot : d.endpoint.slot = none) (h : d.endpoint.inProgress = some .restart) :
    fillSlot d = d := by
  unfold fillSlot
  rw [slot, h]

/-- A held SET_LINE keeps the queue waiting, but not an ATTENTION. -/
theorem fillSlot_held {k : Branch} {op : Byte} {tag : List Byte} (slot : d.endpoint.slot = none)
    (h : d.endpoint.inProgress = some (.setLine k op tag)) : fillSlot d = placeAttention d := by
  unfold fillSlot
  rw [slot, h]

theorem placeAttention_held {k : Branch} {op : Byte} {tag : List Byte}
    (slot : d.endpoint.slot = none) (h : d.endpoint.inProgress = some (.setLine k op tag))
    (pending : d.endpoint.attnPending = true) :
    placeAttention d = { d with endpoint := { d.endpoint with
      slot := some { bytes := attentionRecord d, isRestart := false }, attnPending := false } } := by
  unfold placeAttention
  rw [slot, h]
  exact if_pos pending

theorem addressed_iff (d : Device) (bs : List Byte) : d.addressed bs = true ↔
    ∃ node, bs.head? = some node ∧
      (node.toNat = 63 ∨ node.toNat = d.tables.device.nodeAddress) := by
  cases bs with
  | nil => simp [Device.addressed]
  | cons node rest => simp [Device.addressed, rd1]

/-- The part after its queue has lost the records that are not for it, each counted (R170). -/
def Device.judged (d : Device) (others queue : List (List Byte)) : Device :=
  { d with endpoint := { d.endpoint with
      queue := queue,
      notMineCount := others.foldl (fun n _ => raiseCount n 1) d.endpoint.notMineCount } }

theorem takeHead_none {others : List (List Byte)} (h : ∀ bs ∈ others, d.addressed bs = false) :
    takeHead others d = d.judged others [] := by
  induction others generalizing d with
  | nil => rfl
  | cons bs rest ih =>
    unfold takeHead
    rw [h bs List.mem_cons_self]
    exact ih fun x hx => h x (List.mem_cons_of_mem _ hx)

theorem takeHead_addressed {others : List (List Byte)} {bs : List Byte} {rest : List (List Byte)}
    (h : ∀ bs ∈ others, d.addressed bs = false) (mine : d.addressed bs = true) :
    takeHead (others ++ bs :: rest) d = performHead bs (d.judged others rest) := by
  induction others generalizing d with
  | nil =>
    rw [List.nil_append]
    unfold takeHead
    rw [mine]
    rfl
  | cons x xs ih =>
    rw [List.cons_append]
    unfold takeHead
    rw [h x List.mem_cons_self]
    exact ih (d := countNotMine { d with endpoint := { d.endpoint with queue := xs ++ bs :: rest } })
      (fun y hy => h y (List.mem_cons_of_mem _ hy)) mine

theorem performHead_held {bs : List Byte} {after : Device} (h : performRequest bs d = (after, none)) :
    performHead bs d = after := by
  unfold performHead
  rw [h]

theorem performHead_replied {bs : List Byte} {after : Device} {r : Reply}
    (h : performRequest bs d = (after, some r)) :
    performHead bs d = { after with endpoint := { after.endpoint with
      slot := some { bytes := after.response bs r, isRestart := after.restarting } } } := by
  unfold performHead
  rw [h]

theorem response_eq (bs : List Byte) (r : Reply) : d.response bs r =
    responseRecord d (bs.getD 1 0x00) [bs.getD 2 0x00, bs.getD 3 0x00] r := by
  unfold Device.response
  rw [byteOf_rd1]
  rfl

theorem restarting_eq (d : Device) :
    d.restarting = decide (d.endpoint.inProgress = some .restart) := by
  unfold Device.restarting
  rw [Bool.eq_iff_iff, beq_iff_eq, decide_eq_true_iff]

end Slot

/- ### The end of a transmission (R100) -/

section Complete

variable {d : Device} {tx : TrunkSending}

/-- The pool as the end of a transmission leaves it. -/
def Pool.afterSending (p : Pool) : TrunkHolds → Pool
  | .frame ref => p.release ref
  | .record _ => p

theorem trunkComplete_eq (sending : d.trunkTx = some tx) (plain : tx.holds ≠ .record true) :
    trunkComplete d = { d.sent with pool := d.pool.afterSending tx.holds } := by
  unfold trunkComplete trunkSent
  rw [sending]
  dsimp only
  split
  next ref holds =>
    rw [holds]
    rfl
  next isRestart holds =>
    cases isRestart with
    | false =>
      rw [holds]
      rfl
    | true => exact absurd holds plain

/-- A record in the slot goes to an idle transmitter, and the slot rule fills the slot it leaves. -/
theorem settle_record {r : MgmtRecord} (idle : d.trunkTx = none) (full : d.endpoint.slot = some r) :
    settle d = fillSlot { d with
      trunkTx := some { holds := .record r.isRestart,
                        wire := trunkData Config.managementCid 0 r.bytes },
      endpoint := { d.endpoint with slot := none } } :=
  settle_steps (fillSlot_full full) (trunkChoose_record idle full) rfl
    (trunkChoose_sending ((fillSlot_writes _).trunkTx))

end Complete

set_option Elab.async false in
/-- Settles O30: `trunkComplete_eq`, then what the end of the event makes of what waits. -/
theorem trunkCompletionReleasesTheFrame : Obligations.TrunkCompletionReleasesTheFrame := by
  intro now tx s running sending plain x sent
  have event : ∀ pool, pool = s.dev.pool.afterSending tx.holds → ∀ d', settle { sent with pool := pool } = d' →
      exec (.trunkTransmissionComplete now) s = .next { s with dev := d' } := fun pool hp d' ends =>
    next_event running (trunkComplete_eq (d := { s.dev with now := now }) sending plain)
      (hp ▸ ends)
  have frame : ∀ ref, tx.holds = .frame ref →
      s.dev.pool.release ref = s.dev.pool.afterSending tx.holds := fun ref h => by rw [h]; rfl
  have record : tx.holds = .record false → s.dev.pool = s.dev.pool.afterSending tx.holds :=
    fun h => by rw [h]; rfl
  refine ⟨fun ready empty => ⟨fun ref h => ?_, fun h => ?_⟩,
    fun ready => ⟨fun ref h => ?_, fun h => ?_⟩, fun r full => ?_⟩
  · exact event _ (frame ref h) _ (settle_quiet ready (.inr empty))
  · exact event _ (record h) _ (settle_quiet (d := sent) ready (.inr empty))
  · exact event _ (frame ref h) _ (settle_ready ready)
  · exact event _ (record h) _ (settle_ready (d := sent) ready)
  · intro p started filled completes held addressed
    have begins : ∀ d', fillSlot (started p.queue) = d' → completes d' := fun d' fills => by
      have pool : (started p.queue).pool = s.dev.pool.afterSending tx.holds := by
        unfold Pool.afterSending
        rfl
      exact event _ pool d' ((settle_record (d := { sent with pool := (started p.queue).pool })
        rfl full).trans fills)
    have unaddressed : ∀ others : List (List Byte), (∀ bs ∈ others, ¬ addressed bs) →
        ∀ bs ∈ others, s.dev.addressed bs = false := fun others h bs hbs =>
      Bool.eq_false_iff.2 fun mine => h bs hbs ((addressed_iff _ bs).1 mine)
    have takes : p.inProgress = none → p.attnPending = false → ∀ d',
        takeHead p.queue (started p.queue) = d' → completes d' := fun idle calm d' ends =>
      begins d' ((fillSlot_take (d := started p.queue) rfl idle calm).trans ends)
    refine ⟨fun response ready => ?_, fun restart => ?_, fun ⟨k, op, tag, h⟩ calm => ?_,
      fun progress pending => ?_, fun idle calm others foreign => ⟨fun all => ?_,
        fun bs rest split mine => ⟨fun after done => ?_, fun after reply done => ?_⟩⟩⟩
    · exact begins _ (fillSlot_response (d := started p.queue) rfl ready)
    · exact begins _ (fillSlot_restart (d := started p.queue) rfl restart)
    · exact begins _ ((fillSlot_held (d := started p.queue) rfl h).trans (placeAttention_calm (d := started p.queue) calm))
    · refine begins _ ?_
      rcases progress with idle | ⟨k, op, tag, h⟩
      · exact fillSlot_attention (d := started p.queue) rfl idle pending
      · exact (fillSlot_held (d := started p.queue) rfl h).trans (placeAttention_held (d := started p.queue) rfl h pending)
    · refine takes idle calm _ ?_
      rw [all]
      exact takeHead_none (unaddressed others foreign)
    · refine takes idle calm _ ?_
      rw [split]
      exact (takeHead_addressed (d := started (others ++ bs :: rest))
        (unaddressed others foreign) ((addressed_iff _ bs).2 mine)).trans (performHead_held done)
    · refine takes idle calm _ ?_
      rw [split]
      refine ((takeHead_addressed (d := started (others ++ bs :: rest))
        (unaddressed others foreign) ((addressed_iff _ bs).2 mine)).trans
          (performHead_replied done)).trans ?_
      rw [response_eq, restarting_eq]

end Sys2Proof.Machine

/-! SUPPORT. References given up one after another for one reason on one line: what is counted, and
what becomes of the pool. -/

namespace Sys2Proof.Machine

open Device (Writes)

/- ### One reference (R64, R88) -/

set_option Elab.async false in
/-- What is counted depends on no queue, slot or sequencer. -/
theorem countReason_around (d : Device) (e : PerLine Egress) (s : Table Nat) (q : PerBranch Sequencer)
    (l : Line) (cid : Nat) (r : Reason) :
    ({ d with egress := e, slots := s, seqs := q } : Device).countReason l cid r =
      { d.countReason l cid r with egress := e, slots := s, seqs := q } := by
  have bump (x : Device) (c : CircuitCounter) :
      ({ x with egress := e, slots := s, seqs := q } : Device).bumpCircuit cid c =
        { x.bumpCircuit cid c with egress := e, slots := s, seqs := q } := by
    unfold Device.bumpCircuit Device.bumpCircuitBy
    rcases found : x.circuit? cid with _ | circuit
    · rw [show ({ x with egress := e, slots := s, seqs := q } : Device).circuit? cid = none
        from found]
    · rw [show ({ x with egress := e, slots := s, seqs := q } : Device).circuit? cid = some circuit
        from found]
  unfold Device.countReason
  split
  · rfl
  · exact bump (d.bumpLine l r.lineCounter) _

/-- Giving up a reference depends on no queue, slot or sequencer. -/
theorem dropFrame_around (d : Device) (e : PerLine Egress) (s : Table Nat) (q : PerBranch Sequencer)
    (l : Line) (ref : Nat) (r : Reason) :
    ({ d with egress := e, slots := s, seqs := q } : Device).dropFrame l ref r =
      { d.dropFrame l ref r with egress := e, slots := s, seqs := q } := by
  unfold Device.dropFrame
  have frame : ({ d with egress := e, slots := s, seqs := q } : Device).frame? ref = d.frame? ref :=
    rfl
  rw [frame]
  split
  · rfl
  · rw [countReason_around]
    rfl

theorem dropFrame_pool (d : Device) (l : Line) (ref : Nat) (r : Reason) :
    (d.dropFrame l ref r).pool = d.pool.release ref := by
  unfold Device.dropFrame
  split
  next absent => exact (Pool.release_absent absent).symm
  next f held =>
    have kept := (countReason_writes d l f.cid r).pool
    unfold Device.releaseFrame
    rw [kept]

theorem circuitCount_dropFrame (d : Device) (l : Line) (ref cid : Nat) (r : Reason)
    (c : CircuitCounter) :
    (d.dropFrame l ref r).circuitCount cid c =
      if (d.frame? ref).map Frame.cid = some cid ∧ d.circuit? cid ≠ none ∧
          r.circuitCounter = some c then raiseCount (d.circuitCount cid c) 1
      else d.circuitCount cid c := by
  unfold Device.dropFrame
  split
  next absent =>
    rw [absent, if_neg fun h => nomatch h.1]
    rfl
  next f held =>
    have counted := circuitCount_countReason d l f.cid cid r c
    simp only [held, Option.map_some, Option.some_inj]
    by_cases same : f.cid = cid
    · subst same
      exact counted.trans (if_congr ⟨fun h => ⟨rfl, h.1, h.2.2⟩, fun h => ⟨h.2.1, rfl, h.2.2⟩⟩ rfl rfl)
    · rw [if_neg fun h => same h.2.1.symm] at counted
      rw [if_neg fun h => same h.1]
      exact counted

/- ### The pool after a release -/

theorem refsOf_release (p : Pool) (ref j : Nat) :
    (p.release ref).refsOf j = p.refsOf j - (if j = ref then 1 else 0) := by
  rcases held : p.frames.find? ref with _ | f
  · rw [Pool.release_absent held]
    split
    · subst_vars
      unfold Pool.refsOf
      rw [held]
      rfl
    · rfl
  · by_cases more : 1 < f.refs
    · rw [Pool.release_held held more]
      unfold Pool.refsOf
      dsimp only
      rw [find?_insert]
      split
      · subst_vars
        rw [held]
        rfl
      · rfl
    · rw [Pool.release_last held more]
      unfold Pool.refsOf
      rw [Pool.freeFrame_frames, find?_erase]
      split
      · subst_vars
        rw [held]
        exact (Nat.sub_eq_zero_of_le (Nat.not_lt.1 more)).symm
      · rfl

/-- What is still held keeps its CID when a reference is given up. -/
theorem cid_release {p : Pool} {ref j : Nat} (left : (p.release ref).refsOf j ≠ 0) :
    ((p.release ref).frames.find? j).map Frame.cid = (p.frames.find? j).map Frame.cid := by
  rcases held : p.frames.find? ref with _ | f
  · rw [Pool.release_absent held]
  · by_cases more : 1 < f.refs
    · rw [Pool.release_held held more]
      dsimp only
      rw [find?_insert]
      split
      · subst_vars
        rw [held]
        rfl
      · rfl
    · rw [Pool.release_last held more] at left ⊢
      unfold Pool.refsOf at left
      rw [Pool.freeFrame_frames, find?_erase] at left ⊢
      split
      · rw [if_pos ‹_›] at left
        exact absurd rfl left
      · rfl

/-- While the agreements of the references hold, a frame's count is the number of its holders. -/
theorem refsOf_of_refsOk {d : Device} (h : d.refsOk) (ref : Nat) :
    d.pool.refsOf ref = d.references.count ref := by
  obtain ⟨found, counted, -, -⟩ := h
  unfold Pool.refsOf
  rcases hf : d.pool.frames.find? ref with _ | f
  · refine (List.count_eq_zero.2 fun mem => ?_).symm
    have held := found ref mem
    unfold Device.frame? at held
    rw [hf] at held
    cases held
  · exact (counted (ref, f) (Table.mem_of_lookup hf)).1

/- ### Several references -/

/-- References given up in order for one reason on one line. -/
def Device.dropAll (d : Device) (l : Line) (r : Reason) (refs : List Nat) : Device :=
  refs.foldl (fun d ref => d.dropFrame l ref r) d

section DropAll

variable (d : Device) (l : Line) (r : Reason)

theorem dropAll_nil : d.dropAll l r [] = d := rfl

theorem dropAll_cons (ref : Nat) (refs : List Nat) :
    d.dropAll l r (ref :: refs) = (d.dropFrame l ref r).dropAll l r refs := rfl

theorem dropAll_append (xs ys : List Nat) :
    d.dropAll l r (xs ++ ys) = (d.dropAll l r xs).dropAll l r ys := List.foldl_append

theorem dropAll_around (e : PerLine Egress) (s : Table Nat) (q : PerBranch Sequencer)
    (refs : List Nat) :
    ({ d with egress := e, slots := s, seqs := q } : Device).dropAll l r refs =
      { d.dropAll l r refs with egress := e, slots := s, seqs := q } := by
  induction refs generalizing d with
  | nil => rfl
  | cons ref refs ih => rw [dropAll_cons, dropFrame_around, ih, dropAll_cons]

theorem dropAll_writes (refs : List Nat) :
    Writes [.lines, .circuitCounters, .pool] d (d.dropAll l r refs) :=
  .foldl (fun d ref => dropFrame_writes d l ref r) refs d

set_option Elab.async false in
theorem dropAll_pool (refs : List Nat) :
    (d.dropAll l r refs).pool = refs.foldl Pool.release d.pool := by
  induction refs generalizing d with
  | nil => rfl
  | cons ref refs ih => rw [dropAll_cons, ih, dropFrame_pool, List.foldl_cons]

/-- Each reference given up is counted once on the line. -/
theorem lineCount_dropAll (refs : List Nat) (m : Line) (c : LineCounter) :
    (d.dropAll l r refs).lineCount m c =
      if m = l ∧ c = r.lineCounter then
        refs.foldl (fun n _ => raiseCount n 1) (d.lineCount m c)
      else d.lineCount m c := by
  induction refs generalizing d with
  | nil => simp [dropAll_nil]
  | cons ref refs ih =>
    rw [dropAll_cons, ih, lineCount_dropFrame]
    split
    next here =>
      obtain ⟨rfl, rfl⟩ := here
      rfl
    next => rfl

/-- Each reference given up, of those that are held, is counted once against its frame's circuit
while that is present. -/
theorem circuitCount_dropAll (refs : List Nat)
    (held : ∀ ref, refs.count ref ≤ d.pool.refsOf ref) (cid : Nat) (c : CircuitCounter) :
    (d.dropAll l r refs).circuitCount cid c =
      if d.circuit? cid ≠ none ∧ r.circuitCounter = some c then
        (refs.filter fun ref => (d.frame? ref).map Frame.cid == some cid).foldl
          (fun n _ => raiseCount n 1) (d.circuitCount cid c)
      else d.circuitCount cid c := by
  induction refs generalizing d with
  | nil => simp [dropAll_nil]
  | cons ref refs ih =>
    have counts (j : Nat) : (d.dropFrame l ref r).pool.refsOf j =
        d.pool.refsOf j - (if j = ref then 1 else 0) := by rw [dropFrame_pool, refsOf_release]
    have left (j : Nat) : refs.count j ≤ (d.dropFrame l ref r).pool.refsOf j := by
      have before := held j
      rw [count_cons_if] at before
      rw [counts]
      omega
    have same : refs.filter (fun x => ((d.dropFrame l ref r).frame? x).map Frame.cid == some cid) =
        refs.filter fun x => (d.frame? x).map Frame.cid == some cid := by
      refine List.filter_congr fun x mem => ?_
      have positive := (List.count_pos_iff.2 mem).trans_le (left x)
      have pool := dropFrame_pool d l ref r
      unfold Device.frame?
      rw [pool] at positive ⊢
      rw [cid_release (Nat.ne_of_gt positive)]
    have present : (d.dropFrame l ref r).circuit? cid = d.circuit? cid :=
      congrArg (fun t : Tables => t.circuits.find? cid) (dropFrame_writes d l ref r).tables
    rw [dropAll_cons, ih _ left, same, present, circuitCount_dropFrame]
    split
    next counts =>
      obtain ⟨here, counter⟩ := counts
      rw [List.filter_cons]
      by_cases mine : (d.frame? ref).map Frame.cid = some cid
      · rw [if_pos ⟨mine, here, counter⟩, if_pos (beq_iff_eq.2 mine), List.foldl_cons]
      · rw [if_neg fun h => mine h.1, if_neg fun h => mine (beq_iff_eq.1 h)]
    next other => rw [if_neg fun h => other h.2]

end DropAll

end Sys2Proof.Machine

/-! The sweep of a branch's class heads: which entries it removes, and what it leaves of the part. -/

namespace Sys2Proof.Machine

open Device (Writes)

variable {k : Branch} {d d' d'' : Device}

/- ### Heads removed one after another (R118) -/

/-- What the removal of heads of the class queues of a branch, in the order given, leaves of a part:
each is released under STATION_GONE, and the partial delivery of a class that lost a head ends. -/
structure Device.Swept (k : Branch) (gone : List (Class × Entry)) (d d' : Device) : Prop where
  rest : d' = { d.dropAll k.line .stationGone (gone.map fun g => g.2.frame) with
    egress := d'.egress, slots := d.slots, seqs := d'.seqs }
  queue (l : Line) (c : Class) : d'.queue l c =
    if l = k.line then (d.queue l c).drop (gone.countP fun g => g.1 == c) else d.queue l c
  egr (l : Line) : (d'.egr l).credits = (d.egr l).credits ∧ (d'.egr l).release = (d.egr l).release
  seq (b : Branch) : d'.seq b = { d.seq b with
    delivering := if b = k ∧ ∃ g ∈ gone, (d.seq k).delivering = some g.1 then none
      else (d.seq b).delivering }

open Device (Swept)

set_option Elab.async false in
theorem Device.Swept.refl (k : Branch) (d : Device) : Swept k [] d d where
  rest := rfl
  queue l c := by simp
  egr l := ⟨rfl, rfl⟩
  seq b := by simp

theorem Device.Swept.trans {g h : List (Class × Entry)} (first : Swept k g d d')
    (second : Swept k h d' d'') : Swept k (g ++ h) d d'' where
  rest := by
    refine second.rest.trans ?_
    rw [first.rest, dropAll_around, List.map_append, dropAll_append]
  queue l c := by
    rw [second.queue, first.queue]
    split
    · rw [List.drop_drop, List.countP_append]
    · rfl
  egr l := ⟨(second.egr l).1.trans (first.egr l).1, (second.egr l).2.trans (first.egr l).2⟩
  seq b := by
    rw [second.seq, first.seq b, first.seq k]
    dsimp only
    congr 1
    by_cases here : b = k
    · subst here
      by_cases ended : ∃ x ∈ g, (d.seq b).delivering = some x.1
      · obtain ⟨x, mem, same⟩ := ended
        have ended : ∃ x ∈ g, (d.seq b).delivering = some x.1 := ⟨x, mem, same⟩
        have later : ∃ x ∈ g ++ h, (d.seq b).delivering = some x.1 :=
          ⟨x, List.mem_append_left _ mem, same⟩
        simp only [ended, later, and_self, if_true, ite_self]
      · have only : (∃ x ∈ g ++ h, (d.seq b).delivering = some x.1) ↔
            ∃ x ∈ h, (d.seq b).delivering = some x.1 := by
          simp only [List.mem_append, or_and_right, exists_or, ended, false_or]
        simp only [ended, only, true_and, if_false]
    · simp only [here, false_and, if_false]

theorem removeHead_eq (k : Branch) (c : Class) (es : List Entry) (d : Device) :
    removeHead k c es d = { d with
      egress := (d.setQueue k.line c es).egress, slots := d.slots,
      seqs := (removeHead k c es d).seqs } := by
  unfold removeHead
  dsimp only
  split <;> rfl

theorem removeHead_seq (k : Branch) (c : Class) (es : List Entry) (d : Device) (b : Branch) :
    (removeHead k c es d).seq b = { d.seq b with
      delivering := if b = k ∧ (d.seq k).delivering = some c then none
        else (d.seq b).delivering } := by
  unfold removeHead
  dsimp only
  by_cases delivered : (d.seq k).delivering = some c
  · rw [if_pos delivered, seq_setSeq]
    by_cases here : b = k
    · rw [if_pos here, if_pos ⟨here, delivered⟩, here]
      rfl
    · rw [if_neg here, if_neg fun h => here h.1]
      rfl
  · rw [if_neg delivered, if_neg fun h => delivered h.2]
    rfl

/-- One head is removed. -/
theorem Device.Swept.head {c : Class} {e : Entry} {es : List Entry}
    (queue : d.queue k.line c = e :: es) :
    Swept k [(c, e)] d ((removeHead k c es d).dropFrame k.line e.frame .stationGone) := by
  have shape : (removeHead k c es d).dropFrame k.line e.frame .stationGone =
      { d.dropFrame k.line e.frame .stationGone with
        egress := (d.setQueue k.line c es).egress, slots := d.slots,
        seqs := (removeHead k c es d).seqs } := by
    rw [removeHead_eq, dropFrame_around]
  rw [shape]
  refine ⟨rfl, fun l q => ?_, fun l => egr_setQueue d k.line l c es, fun b => ?_⟩
  · refine (queue_setQueue d k.line l c q es).trans ?_
    by_cases line : l = k.line
    · by_cases cls : q = c
      · subst line cls
        rw [if_pos ⟨rfl, rfl⟩, if_pos rfl, queue]
        simp
      · have other : (c == q) = false := beq_false_of_ne (Ne.symm cls)
        rw [if_neg fun h => cls h.2, if_pos line]
        simp [other]
    · rw [if_neg fun h => line h.1, if_neg line]
  · refine (removeHead_seq k c es d b).trans ?_
    simp

/- ### The heads of a class (R118) -/

/-- Whether an entry's station takes no transactions (R111, R118). -/
def Device.stationGone (d : Device) (k : Branch) (e : Entry) : Bool :=
  !(e.station.map (d.stationUp k)).getD false

/-- The entries that a sweep removes from a class. -/
def Device.removed (d : Device) (k : Branch) (c : Class) : List Entry :=
  if d.unheld k c then (d.queue k.line c).takeWhile (d.stationGone k) else []

theorem stationUp_of_stations (h : d'.stations = d.stations) : d'.stationUp = d.stationUp := by
  unfold Device.stationUp Device.station
  rw [h]

theorem sweepQueue_swept {c : Class} {q : List Entry} (queue : d.queue k.line c = q) :
    Swept k ((q.takeWhile (d.stationGone k)).map fun e => (c, e)) d (sweepQueue k c q d) := by
  induction q generalizing d with
  | nil => exact .refl k d
  | cons e es ih =>
    unfold sweepQueue
    rw [List.takeWhile_cons]
    unfold Device.stationGone
    cases up : (e.station.map (d.stationUp k)).getD false with
    | true => exact .refl k d
    | false =>
      have first := Swept.head queue
      have stations : ((removeHead k c es d).dropFrame k.line e.frame .stationGone).stations =
          d.stations := (dropFrame_writes ..).stations.trans (removeHead_writes ..).stations
      have rest := ih (d := (removeHead k c es d).dropFrame k.line e.frame .stationGone) (by
        rw [first.queue, if_pos rfl, queue]
        simp)
      unfold Device.stationGone at rest
      rw [stationUp_of_stations stations] at rest
      exact first.trans rest

theorem sweepClass_swept (k : Branch) (d : Device) (c : Class) :
    Swept k ((d.removed k c).map fun e => (c, e)) d (sweepClass k d c) := by
  unfold sweepClass Device.removed
  split
  · exact sweepQueue_swept rfl
  · exact .refl k d

/- ### The sweep (R118) -/

/-- The heads that a sweep of some classes removes, with their classes. -/
def Device.goneHeads (d : Device) (k : Branch) (cs : List Class) : List (Class × Entry) :=
  cs.flatMap fun c => (d.removed k c).map fun e => (c, e)

/-- The removal of one class's heads leaves those of another class to be removed as they were. -/
theorem Device.Swept.removed {c x : Class} {es : List Entry}
    (h : Swept k (es.map fun e => (c, e)) d d') (stations : d'.stations = d.stations)
    (other : x ≠ c) : d'.removed k x = d.removed k x := by
  have apart : (c == x) = false := beq_false_of_ne (Ne.symm other)
  have queue : d'.queue k.line x = d.queue k.line x := by
    rw [h.queue, if_pos rfl, List.countP_map]
    simp [Function.comp_def, apart]
  have holds : (d'.seq k).holds = (d.seq k).holds := by rw [h.seq k]
  have release : d'.release k.line x = d.release k.line x :=
    congrArg (fun r : PerClass (Option Nat) => r.get x) (h.egr k.line).2
  unfold Device.removed Device.unheld Device.stationGone
  rw [queue, holds, release, stationUp_of_stations stations]

theorem foldl_sweepClass_swept (k : Branch) {cs : List Class} (nodup : cs.Nodup) (d : Device) :
    Swept k (d.goneHeads k cs) d (cs.foldl (sweepClass k) d) := by
  induction cs generalizing d with
  | nil => exact .refl k d
  | cons c cs ih =>
    obtain ⟨fresh, nodup⟩ := List.nodup_cons.1 nodup
    have first := sweepClass_swept k d c
    have rest := ih nodup (sweepClass k d c)
    have same : (sweepClass k d c).goneHeads k cs = d.goneHeads k cs :=
      List.flatMap_congr fun x mem => by
        rw [first.removed (sweepClass_writes ..).stations fun h => fresh (h ▸ mem)]
    rw [same] at rest
    exact first.trans rest

theorem sweep_swept (k : Branch) (d : Device) : Swept k (d.goneHeads k Class.all) d (sweep k d) :=
  foldl_sweepClass_swept k (by decide) d

theorem countP_goneHeads (d : Device) (k : Branch) {cs : List Class} (nodup : cs.Nodup) (c : Class) :
    (d.goneHeads k cs).countP (fun g => g.1 == c) =
      if c ∈ cs then (d.removed k c).length else 0 := by
  unfold Device.goneHeads
  induction cs with
  | nil => rfl
  | cons x xs ih =>
    obtain ⟨fresh, nodup⟩ := List.nodup_cons.1 nodup
    rw [List.flatMap_cons, List.countP_append, ih nodup, List.countP_map]
    by_cases same : x = c
    · subst same
      simp [Function.comp_def, fresh]
    · have apart : (x == c) = false := beq_false_of_ne same
      simp [Function.comp_def, apart, Ne.symm same]

set_option Elab.async false in
theorem mem_classes (c : Class) : c ∈ Class.all := by cases c <;> decide

theorem goneHeads_frames (d : Device) (k : Branch) :
    (d.goneHeads k Class.all).map (fun g => g.2.frame) =
      (Class.all.flatMap (d.removed k)).map Entry.frame := by
  unfold Device.goneHeads
  rw [List.map_flatMap, List.map_flatMap]
  exact List.flatMap_congr fun c _ => List.map_map

end Sys2Proof.Machine

/-! SUPPORT. The first attempts of a branch's transactions, and the selection that starts them. -/

namespace Sys2Proof.Machine

open Device (Writes)

variable {k : Branch} {d : Device}

/- ### Attempts (R13, R112) -/

set_option Elab.async false in
theorem setSeq_setSeq (d : Device) (k : Branch) (q q' : Sequencer) :
    (d.setSeq k q).setSeq k q' = d.setSeq k q' := by
  unfold Device.setSeq
  rw [PerBranch.set_set]

/-- A frame's transmission as it is recorded at its start (R13). -/
def Device.sendingOf (d : Device) (k : Branch) (role : TxRole) (f : BranchFrame) : BranchSending :=
  { role := role, starts := d.now,
    ends := d.now + frameSize f.payload.length * (d.settings k.line).byteTime, wire := f.wire }

theorem sendBranch_eq (k : Branch) (role : TxRole) (f : BranchFrame) (d : Device) :
    sendBranch k role f d =
      d.setSeq k { d.seq k with sending := some (d.sendingOf k role f) } := rfl

theorem startAttempt_sends (k : Branch) (r : InFlight) (d : Device) :
    startAttempt k r d = d.setSeq k { d.seq k with
      inFlight := some { r with replyWait := none },
      sending := some (d.sendingOf k .request (d.requestOf k r)) } := by
  unfold startAttempt
  rw [sendBranch_eq, seq_setSeq_self, setSeq_setSeq]
  rfl

/- ### The service scan (R120) -/

theorem station_setStation_self (d : Device) (k : Branch) (s : Nat) (x : Station) :
    (d.setStation k s x).station k s = x :=
  (station_setStation ..).trans (if_pos rfl)

/-- The bytes of a SERVICE request (R136, Section 1.12). -/
theorem service_wire (station : Nat) (resync : Bool) :
    (BranchFrame.bare .service station resync 0).wire =
      sealHeader [0x12, byteOf station, if resync then 0x40 else 0x00, 0x00, 0x00, 0x00] := by
  have flags : (BranchFrame.bare .service station resync 0).flags = if resync then 0x40 else 0 := by
    cases resync <;> rfl
  rw [wire_split, BranchFrame.header, flags]
  have empty : withCheck [] = [] := rfl
  have header : [byteOf 0x12, byteOf station, byteOf (if resync then 0x40 else 0)] ++ be2 0 ++
      [byteOf 0] = [0x12, byteOf station, if resync then 0x40 else 0x00, 0x00, 0x00, 0x00] := by
    cases resync <;> rfl
  refine Eq.trans (b := sealHeader ([byteOf 0x12, byteOf station,
    byteOf (if resync then 0x40 else 0)] ++ be2 0 ++ [byteOf 0]) ++ withCheck []) rfl ?_
  rw [empty, List.append_nil, header]

theorem startService_eq {st : Nat} (candidate : d.serviceCandidate k = some st) :
    startService k d = (d.setStation k st { d.station k st with serviced := true }).setSeq k
      { d.seq k with
        lastServiced := st,
        inFlight := some (firstAttempt .service st (serviceWorst (d.settings k.line))),
        sending := some
          { role := .request, starts := d.now,
            ends := d.now + 7 * (d.settings k.line).byteTime,
            wire := sealHeader [0x12, byteOf st,
              if (d.station k st).resyncPending then 0x40 else 0x00, 0x00, 0x00, 0x00] } } := by
  unfold startService markServiced
  rw [candidate]
  dsimp only
  rw [startAttempt_sends, seq_setSeq_self, setSeq_setSeq, ← service_wire]
  have request : (((d.setStation k st { d.station k st with serviced := true }).setSeq k
      { (d.setStation k st { d.station k st with serviced := true }).seq k with
        lastServiced := st }).requestOf k
          (firstAttempt .service st (serviceWorst (d.settings k.line)))) =
      BranchFrame.bare .service st (d.station k st).resyncPending 0 := by
    refine Eq.trans (b := BranchFrame.bare .service st ((d.setStation k st
      { d.station k st with serviced := true }).station k st).resyncPending 0) rfl ?_
    rw [station_setStation_self]
  rw [request]
  rfl

/- ### The head of a class (R117, R134) -/

theorem segmentOf_eq {e : Entry} {f : Frame} (frame : d.frame? e.frame = some f) (s : Nat) :
    d.segmentOf e s = (f.segment s, f.chain.length) := by
  unfold Device.segmentOf
  rw [frame]

theorem priorityOf_eq {ref : Nat} {f : Frame} (frame : d.frame? ref = some f) :
    d.priorityOf ref = f.priority := by
  unfold Device.priorityOf
  rw [frame]
  rfl

/-- The request of a DELIVER of a segment of a held frame (R134). -/
def deliverFrame (x : Station) (st : Nat) (e : Entry) (f : Frame) (s : Nat) : BranchFrame :=
  { kind := .deliver, station := st,
    toggle := if x.resyncPending then false else x.downToggle, resync := x.resyncPending,
    fresh := false, position := segmentPosition s f.chain.length,
    field := f.priority * 8192 + e.egressCid, payload := f.segment s }

theorem requestOf_deliver {c : Class} {e : Entry} {es : List Entry} {f : Frame} {r : InFlight}
    {s : Nat} (txn : r.txn = .deliver c s) (queue : d.queue k.line c = e :: es)
    (frame : d.frame? e.frame = some f) :
    d.requestOf k r = deliverFrame (d.station k r.station) r.station e f s := by
  unfold Device.requestOf
  rw [txn]
  dsimp only
  rw [queue]
  dsimp only
  rw [segmentOf_eq frame, priorityOf_eq frame]
  rfl

theorem startDeliver_eq {c : Class} {e : Entry} {es : List Entry} {f : Frame} {st : Nat}
    (queue : d.queue k.line c = e :: es) (frame : d.frame? e.frame = some f)
    (station : e.station = some st) :
    let length := (f.segment e.nextSegment).length
    let rate := (d.settings k.line).rates.get c
    startDeliver k c d =
      (d.setRelease k.line c (if 0 < rate ∧ 0 < length then some (d.now + length * rate)
        else d.release k.line c)).setSeq k { d.seq k with
          inFlight := some (firstAttempt (.deliver c e.nextSegment) st
            (deliverWorst (d.settings k.line) length)),
          sending := some (d.sendingOf k .request
            (deliverFrame (d.station k st) st e f e.nextSegment)) } := by
  intro length rate
  unfold startDeliver
  rw [queue]
  dsimp only
  rw [segmentOf_eq frame, station, setHold_eq, startAttempt_sends]
  have queue' : (d.setRelease k.line c (if 0 < rate ∧ 0 < length then some (d.now + length * rate)
      else d.release k.line c)).queue k.line c = e :: es := by
    refine Eq.trans ?_ queue
    unfold Device.queue Device.setRelease Device.setEgr Device.egr
    rw [PerLine.get_set_self]
  rw [requestOf_deliver (by rfl) queue' frame]
  rfl

/- ### Selections (R117, R122) -/

theorem selectBranch_none
    (pick : selectSource ((sweep k d).settings k.line) ((sweep k d).egr k.line).credits
      ((sweep k d).branchEligible k) = none) :
    selectBranch k d = (sweep k d).setSeq k { (sweep k d).seq k with state := .done } := by
  unfold selectBranch
  dsimp only
  rw [pick]
  rfl

theorem selectBranch_pick {s : Source} {credits : Credits}
    (pick : selectSource ((sweep k d).settings k.line) ((sweep k d).egr k.line).credits
      ((sweep k d).branchEligible k) = some (s, credits)) :
    selectBranch k d =
      startPick k s (setSeqState k .aperiodic ((sweep k d).setCredits k.line credits)) := by
  unfold selectBranch
  dsimp only
  rw [pick]

set_option Elab.async false in
theorem release_setCredits (d : Device) (l : Line) (credits : Credits) (c : Class) :
    (d.setCredits l credits).release l c = d.release l c := by
  unfold Device.setCredits Device.release Device.setEgr Device.egr
  rw [PerLine.get_set_self]

theorem queue_setCredits (d : Device) (l : Line) (credits : Credits) (c : Class) :
    (d.setCredits l credits).queue l c = d.queue l c := by
  unfold Device.setCredits Device.queue Device.setEgr Device.egr
  rw [PerLine.get_set_self]

/-- The DELIVER that a selection starts, on the part as the sweep has left it (R117, R134). -/
theorem startPick_deliver {c : Class} {credits : Credits} {e : Entry} {es : List Entry} {f : Frame}
    {st : Nat} (queue : d.queue k.line c = e :: es) (frame : d.frame? e.frame = some f)
    (station : e.station = some st) :
    let length := (f.segment e.nextSegment).length
    let rate := (d.settings k.line).rates.get c
    startPick k (.cls c) (setSeqState k .aperiodic (d.setCredits k.line credits)) =
      ((d.setCredits k.line credits).setRelease k.line c
        (if 0 < rate ∧ 0 < length then some (d.now + length * rate)
          else d.release k.line c)).setSeq k { d.seq k with
            state := .aperiodic,
            inFlight := some (firstAttempt (.deliver c e.nextSegment) st
              (deliverWorst (d.settings k.line) length)),
            sending := some (d.sendingOf k .request
              (deliverFrame (d.station k st) st e f e.nextSegment)) } := by
  intro length rate
  have starts := startDeliver_eq (k := k) (c := c) (e := e) (es := es) (f := f) (st := st)
    (d := setSeqState k .aperiodic (d.setCredits k.line credits))
    ((queue_setCredits d k.line credits c).trans queue) frame station
  have release : (setSeqState k .aperiodic (d.setCredits k.line credits)).release k.line c =
      d.release k.line c := release_setCredits d k.line credits c
  have seq : (setSeqState k .aperiodic (d.setCredits k.line credits)).seq k =
      { d.seq k with state := .aperiodic } := seq_setSeq_self ..
  refine Eq.trans (b := startDeliver k c (setSeqState k .aperiodic (d.setCredits k.line credits)))
    rfl (starts.trans ?_)
  rw [release, seq]
  exact setSeq_setSeq ((d.setCredits k.line credits).setRelease k.line c _) k _ _

/-- The SERVICE that a selection starts (R120, R136). -/
theorem startPick_service {credits : Credits} {st : Nat}
    (candidate : d.serviceCandidate k = some st) :
    startPick k .service (setSeqState k .aperiodic (d.setCredits k.line credits)) =
      ((d.setCredits k.line credits).setStation k st
        { d.station k st with serviced := true }).setSeq k { d.seq k with
          state := .aperiodic, lastServiced := st,
          inFlight := some (firstAttempt .service st (serviceWorst (d.settings k.line))),
          sending := some
            { role := .request, starts := d.now,
              ends := d.now + 7 * (d.settings k.line).byteTime,
              wire := sealHeader [0x12, byteOf st,
                if (d.station k st).resyncPending then 0x40 else 0x00, 0x00, 0x00, 0x00] } } := by
  have seq : (setSeqState k .aperiodic (d.setCredits k.line credits)).seq k =
      { d.seq k with state := .aperiodic } := seq_setSeq_self ..
  have same : (setSeqState k .aperiodic (d.setCredits k.line credits)).serviceCandidate k =
      some st := by
    unfold Device.serviceCandidate
    rw [seq]
    exact candidate
  refine Eq.trans (b := startService k (setSeqState k .aperiodic (d.setCredits k.line credits)))
    rfl ((startService_eq same).trans ?_)
  rw [seq]
  exact setSeq_setSeq ((d.setCredits k.line credits).setStation k st _) k _ _

end Sys2Proof.Machine

/-! A shaper release expiry, and the selections it leads to. -/

namespace Sys2Proof.Machine

open Device (Writes)

variable {k : Branch} {d d' : Device}

/- ### A branch's selection leaves the other lines alone -/

set_option Elab.async false in
theorem line_ne_trunk (k : Branch) : Line.t ≠ k.line := by cases k <;> decide

theorem egr_setEgr_of_ne {l m : Line} (x : Egress) (h : l ≠ m) : (d.setEgr m x).egr l = d.egr l :=
  PerLine.get_set_of_ne _ _ h

theorem egr_of_queues {l : Line} (queue : ∀ c, d'.queue l c = d.queue l c)
    (credits : (d'.egr l).credits = (d.egr l).credits)
    (release : (d'.egr l).release = (d.egr l).release) : d'.egr l = d.egr l := by
  have queues : (d'.egr l).queues = (d.egr l).queues := by
    have c0 := queue .c0
    have c1 := queue .c1
    have c2 := queue .c2
    have c3 := queue .c3
    unfold Device.queue PerClass.get at c0 c1 c2 c3
    generalize (d'.egr l).queues = a at *
    generalize (d.egr l).queues = b at *
    cases a
    cases b
    simp_all
  generalize d'.egr l = a at *
  generalize d.egr l = b at *
  cases a
  cases b
  simp_all

theorem sweep_egr {l : Line} (h : l ≠ k.line) : (sweep k d).egr l = d.egr l := by
  have swept := sweep_swept k d
  exact egr_of_queues (fun c => (swept.queue l c).trans (if_neg h)) (swept.egr l).1 (swept.egr l).2

theorem startPick_egr {l : Line} (h : l ≠ k.line) (s : Source) :
    (startPick k s d).egr l = d.egr l := by
  cases s with
  | service => exact congrArg (PerLine.get · l) (startService_writes d k).egress
  | cls c =>
    unfold startPick startDeliver
    dsimp only
    split
    · rfl
    · refine (congrArg (PerLine.get · l) (startAttempt_writes _ k _).egress).trans ?_
      rw [setHold_eq]
      exact egr_setEgr_of_ne _ h

theorem selectBranch_egr {l : Line} (h : l ≠ k.line) : (selectBranch k d).egr l = d.egr l := by
  unfold selectBranch
  dsimp only
  split
  · exact sweep_egr h
  · refine (startPick_egr h _).trans (Eq.trans ?_ (sweep_egr h))
    exact egr_setEgr_of_ne (d := sweep k d) _ h

/- ### Quiet parts, where a branch's queues may have changed -/

/-- Nothing of the Endpoint, of the transmitter and of the slots is listed. -/
abbrev Calm (fs : List Field) : Prop :=
  .endpoint ∉ fs ∧ .trunkTx ∉ fs ∧ .trunkAdm ∉ fs ∧ .slots ∉ fs ∧ .tables ∉ fs

theorem Device.Writes.trunkQuiet_queues {fs : List Field} (w : Writes fs d d') (h : d.trunkQuiet)
    (queue : ∀ c, d'.queue .t c = d.queue .t c) (free : Calm fs := by decide) : d'.trunkQuiet := by
  obtain ⟨-, trunkTx, trunkAdm, slots, tables⟩ := free
  unfold Device.trunkQuiet Device.slotsAt Device.slotLine? Device.circuit? at h ⊢
  simp only [w.trunkTx trunkTx, w.trunkAdm trunkAdm, w.slots slots, w.tables tables, queue]
  exact h

theorem Device.Writes.settle_quiet_queues {fs : List Field} (w : Writes fs d d')
    (ready : d.mgmtReady) (still : d.trunkQuiet) (queue : ∀ c, d'.queue .t c = d.queue .t c)
    (free : Calm fs := by decide) : settle d' = d' :=
  Machine.settle_quiet (w.mgmtReady ready free.1) (w.trunkQuiet_queues still queue free)

/- ### The hold that ends (R97) -/

theorem expiry_ends {s : State} {act : Device → Device} {d d' : Device}
    (runs : s.dev.inReset = false) (acts : act s.dev = d) (ends : settle d = d') :
    (.next { s with dev := s.dev.expiry act } : Host.Outcome State Fault Refusal) =
      .next { s with dev := d' } := by
  rw [Device.expiry_running runs, acts, ends]

/-- The part at the end of a class's shaper hold (R97). -/
def Device.freed (d : Device) (l : Line) (c : Class) (due : Nat) : Device :=
  ({ d with now := due } : Device).setRelease l c none

theorem shaperRelease_due {l : Line} {c : Class} {due : Nat} (held : d.release l c = some due) :
    shaperRelease l c d = notice (d.freed l c due) l := by
  unfold shaperRelease
  rw [held]
  rfl

theorem freed_writes (d : Device) (l : Line) (c : Class) (due : Nat) :
    Writes [.now, .egress] d (d.freed l c due) :=
  (now_writes d due).mono.andThen (setRelease_writes ..)

theorem freed_queue (d : Device) (l m : Line) (c q : Class) (due : Nat) :
    (d.freed l c due).queue m q = d.queue m q := by
  unfold Device.freed Device.setRelease Device.queue Device.setEgr Device.egr
  by_cases same : m = l
  · rw [same, PerLine.get_set_self]
  · rw [PerLine.get_set_of_ne _ _ same]

set_option Elab.async false in
theorem freed_eligible (d : Device) (c : Class) (due : Nat) (q : Class) :
    (d.freed .t c due).trunkEligible (.cls q) =
      (!(d.queue .t q).isEmpty && (q == c || (d.release .t q).isNone)) := by
  have release : ((d.freed .t c due).release .t q).isNone = (q == c || (d.release .t q).isNone) := by
    unfold Device.freed Device.setRelease Device.release Device.setEgr Device.egr
    by_cases same : q = c
    · subst same
      rw [PerLine.get_set_self, PerClass.get_set_self, beq_self_eq_true]
      rfl
    · rw [PerLine.get_set_self, PerClass.get_set_of_ne _ _ same, beq_false_of_ne same]
      rfl
  unfold Device.trunkEligible
  dsimp only
  rw [freed_queue, release]

theorem notice_branch (k : Branch) (d : Device) : notice d k.line = wakeBranch k d := by
  cases k <;> rfl

/-- Only an OPEN branch in DONE looks at what has become free (R122). -/
theorem notice_calm {l : Line}
    (h : ∀ k : Branch, l = k.line → d.admission k ≠ .opened ∨ (d.seq k).state ≠ .done) :
    notice d l = d := by
  by_cases branch : ∃ k : Branch, l = k.line
  · obtain ⟨k, rfl⟩ := branch
    rw [notice_branch]
    exact if_neg fun both => (h k rfl).elim (· both.1) (· both.2)
  · cases l with
    | t => rfl
    | b0 => exact absurd ⟨.b0, rfl⟩ branch
    | b1 => exact absurd ⟨.b1, rfl⟩ branch
    | b2 => exact absurd ⟨.b2, rfl⟩ branch
    | b3 => exact absurd ⟨.b3, rfl⟩ branch

end Sys2Proof.Machine

/-! The selections that a shaper release expiry leads to, in the words of the statement. -/

namespace Sys2Proof.Machine

open Device (Writes)

variable {k : Branch} {d : Device}

/- ### The sweep in the words of the statement -/

set_option Elab.async false in
theorem stationUp_eq (d : Device) (k : Branch) (st : Nat) : d.stationUp k st =
    decide ((d.station k st).state = .active ∨ (d.station k st).state = .suspect) := by
  unfold Device.stationUp
  cases (d.station k st).state <;> rfl

theorem stationGone_eq (d : Device) (k : Branch) (e : Entry) : d.stationGone k e =
    match e.station with
    | none => true
    | some st => decide ((d.station k st).state ≠ .active ∧ (d.station k st).state ≠ .suspect) := by
  unfold Device.stationGone
  rcases e.station with _ | st
  · rfl
  · dsimp only
    rw [Option.map_some, stationUp_eq]
    cases (d.station k st).state <;> rfl

theorem removed_eq (d : Device) (k : Branch) (c : Class) : d.removed k c =
    if (d.seq k).holds.get c = false ∧ d.release k.line c = none then
      (d.queue k.line c).takeWhile (d.stationGone k) else [] := by
  unfold Device.removed Device.unheld
  refine if_congr ?_ rfl rfl
  rw [Bool.and_eq_true, Bool.not_eq_true', Option.isNone_iff_eq_none]

theorem mem_goneHeads {g : Class × Entry} :
    g ∈ d.goneHeads k Class.all ↔ g.2 ∈ d.removed k g.1 := by
  obtain ⟨c, e⟩ := g
  unfold Device.goneHeads
  rw [List.mem_flatMap]
  constructor
  · rintro ⟨c', -, mem⟩
    obtain ⟨e', mem, same⟩ := List.mem_map.1 mem
    cases same
    exact mem
  · exact fun mem => ⟨c, mem_classes c, List.mem_map.2 ⟨e, mem, rfl⟩⟩

theorem delivering_gone : (∃ g ∈ d.goneHeads k Class.all, (d.seq k).delivering = some g.1) ↔
    ((d.seq k).delivering.map fun c => decide (d.removed k c ≠ [])) = some true := by
  rcases (d.seq k).delivering with _ | c
  · exact ⟨fun ⟨_, _, h⟩ => (nomatch h), fun h => nomatch h⟩
  · rw [Option.map_some, Option.some_inj, decide_eq_true_iff]
    constructor
    · rintro ⟨g, mem, same⟩
      cases same
      exact List.ne_nil_of_mem (mem_goneHeads.1 mem)
    · intro some
      obtain ⟨e, mem⟩ := List.exists_mem_of_ne_nil _ some
      exact ⟨(c, e), mem_goneHeads.2 mem, rfl⟩

/-- What a sweep leaves of the part (R118). -/
theorem sweep_leaves (k : Branch) (d : Device) :
    let all := Class.all.flatMap (d.removed k)
    sweep k d = { d with
      lines := (sweep k d).lines, circuitCounters := (sweep k d).circuitCounters,
      egress := (sweep k d).egress, seqs := (sweep k d).seqs,
      pool := all.foldl (fun p e => p.release e.frame) d.pool } ∧
    (∀ (l : Line) (c : Class), (sweep k d).queue l c =
      if l = k.line then (d.queue l c).drop (d.removed k c).length else d.queue l c) ∧
    (∀ l : Line, ((sweep k d).egr l).credits = (d.egr l).credits ∧
      ((sweep k d).egr l).release = (d.egr l).release) ∧
    (∀ b : Branch, (sweep k d).seq b = { d.seq b with
      delivering :=
        if b = k ∧ ((d.seq k).delivering.map fun c => decide (d.removed k c ≠ [])) = some true then
          none
        else (d.seq b).delivering }) ∧
    (sweep k d).lineCount k.line .stationGone =
      all.foldl (fun n _ => raiseCount n 1) (d.lineCount k.line .stationGone) := by
  intro all
  have swept := sweep_swept k d
  have frames : (d.goneHeads k Class.all).map (fun g => g.2.frame) = all.map Entry.frame :=
    goneHeads_frames d k
  have rest := swept.rest
  rw [frames] at rest
  refine ⟨?_, fun l c => ?_, swept.egr, fun b => ?_, ?_⟩
  · have pool : (sweep k d).pool = all.foldl (fun p e => p.release e.frame) d.pool := by
      rw [rest]
      exact (dropAll_pool ..).trans List.foldl_map
    rw [← pool]
    have w := (sweep_writes d k).mono
      (fs := [.egress, .queued, .seqs, .cores, .lines, .circuitCounters, .pool])
    generalize sweep k d = e at w ⊢
    exact w.eq_of fun f => by cases f <;> exact rfl
  · rw [swept.queue, countP_goneHeads d k (by decide), if_pos (mem_classes c)]
  · rw [swept.seq b]
    simp only [delivering_gone]
  · have count : (sweep k d).lineCount k.line .stationGone =
        (d.dropAll k.line .stationGone (all.map Entry.frame)).lineCount k.line .stationGone := by
      rw [rest]
      rfl
    rw [count, lineCount_dropAll, if_pos ⟨rfl, rfl⟩, List.foldl_map]

/- ### The pick in the words of the statement -/

theorem fits_eq (d : Device) (k : Branch) (worst : Nat) : d.fits k worst =
    match (d.seq k).deadline with
    | none => false
    | some deadline => decide (d.now + worst ≤ deadline) := by
  unfold Device.fits
  split <;> simp [*]

theorem segmentOf_fst (d : Device) (e : Entry) (s : Nat) :
    (d.segmentOf e s).1 = ((d.frame? e.frame).map fun f => f.segment s).getD [] := by
  unfold Device.segmentOf
  split <;> simp [*]

theorem serviceCandidate_eq (d : Device) (k : Branch) : d.serviceCandidate k =
    (List.range' ((d.seq k).lastServiced + 1) (30 - (d.seq k).lastServiced) ++
      List.range' 1 (d.seq k).lastServiced).find? fun st =>
        decide ((d.stationConfig k st).configured = true ∧
          (d.stationConfig k st).service = true ∧
          decide ((d.station k st).state = .active ∨ (d.station k st).state = .suspect) = true ∧
          (d.station k st).serviced = false) := by
  unfold Device.serviceCandidate serviceOrder
  congr 1
  funext st
  rw [stationUp_eq, Bool.eq_iff_iff]
  simp [and_assoc]

theorem branchEligible_cls (d : Device) (k : Branch) (c : Class) : d.branchEligible k (.cls c) =
    match d.queue k.line c with
    | [] => false
    | e :: _ =>
      !(d.seq k).holds.get c && (d.release k.line c).isNone &&
        decide ((d.seq k).delivering = none ∨ (d.seq k).delivering = some c) &&
        d.fits k (deliverWorst (d.settings k.line) (d.segmentOf e e.nextSegment).1.length) := by
  have delivering : ((d.seq k).delivering.isNone || (d.seq k).delivering == some c) =
      decide ((d.seq k).delivering = none ∨ (d.seq k).delivering = some c) := by
    rw [Bool.eq_iff_iff]
    simp
  unfold Device.branchEligible Device.unheld
  simp only [delivering] <;> rfl

/-- Settles O31. -/
theorem shaperReleaseMakesASelection : Obligations.ShaperReleaseMakesASelection := by
  refine ⟨?expiry, ?trunk, fun k d => ?sweep, fun k d => ?selection⟩
  case expiry =>
    rintro l c s ⟨runs, ready, still⟩
    constructor
    · intro due held freed
      refine ⟨fun k line opened done => ?_, fun calm => ?_⟩
      · subst line
        have acts : shaperRelease k.line c s.dev = selectBranch k freed :=
          ((shaperRelease_due held).trans (notice_branch k _)).trans (if_pos ⟨opened, done⟩)
        have written : Writes (.now :: selectionFields) s.dev (selectBranch k freed) :=
          (freed_writes s.dev k.line c due).mono.andThen (selectBranch_writes _ k)
        refine expiry_ends runs acts (written.settle_quiet_queues ready still fun q => ?_)
        have egr : (selectBranch k freed).egr .t = freed.egr .t := selectBranch_egr (line_ne_trunk k)
        exact (congrArg (fun e : Egress => e.queues.get q) egr).trans
          (freed_queue s.dev k.line .t c q due)
      · refine expiry_ends runs ((shaperRelease_due held).trans (notice_calm calm)) ?_
        exact (freed_writes s.dev l c due).settle_quiet_queues ready still
          fun q => freed_queue s.dev l .t c q due
    · intro free
      have acts : shaperRelease l c s.dev = s.dev := by
        unfold shaperRelease
        rw [free]
      exact expiry_ends runs acts (settle_quiet ready still)
  case trunk =>
    intro c due s runs ready held freed able
    refine ⟨expiry_ends runs (shaperRelease_due held) (settle_ready ready),
      fun idle opened slots => ?_⟩
    have eligible : freed.trunkEligible = able := by
      funext source
      cases source with
      | cls q => exact freed_eligible s.dev c due q
      | service => rfl
    refine (trunkChoose_select (d := freed) idle ready.1 opened slots).trans ?_
    unfold trunkSelect
    rw [eligible]
    rfl
  case sweep =>
    intro swept gone removed all
    have same : d.removed k = removed := by
      funext c
      rw [removed_eq]
      refine if_congr Iff.rfl (congrArg (List.takeWhile · _) ?_) rfl
      funext e
      exact stationGone_eq d k e
    have leaves := sweep_leaves k d
    rw [same] at leaves
    exact leaves
  case selection =>
    intro swept q ls wait fits segment deliverTime serviceTime up candidate eligible pick
    have candidateIs : swept.serviceCandidate k = candidate := serviceCandidate_eq swept k
    have fitsIs : ∀ worst, swept.fits k worst = fits worst := fits_eq swept k
    have segmentIs : ∀ e, (swept.segmentOf e e.nextSegment).1 = segment e := fun e =>
      segmentOf_fst ..
    have eligibleIs : swept.branchEligible k = eligible := by
      funext source
      cases source with
      | service =>
        exact congrArg₂ (fun (x : Option Nat) fit => x.isSome && fit) candidateIs (fitsIs _)
      | cls c =>
        refine (branchEligible_cls swept k c).trans ?_
        simp only [fitsIs, segmentIs] <;> rfl
    have start : ∀ x, pick = x → selectSource ((sweep k d).settings k.line)
        ((sweep k d).egr k.line).credits ((sweep k d).branchEligible k) = x := fun x picked =>
      (congrArg (selectSource ls (swept.egr k.line).credits) eligibleIs).trans picked
    refine ⟨fun none => selectBranch_none (start _ none), ?delivers, ?polls⟩
    case delivers =>
      intro c credits e es f st picked queue frame station bytes x n s hold request
      have bytesIs : bytes = f.segment e.nextSegment :=
        congrArg (fun o : Option Frame => (o.map fun f => f.segment e.nextSegment).getD []) frame
      have holdIs : hold = if 0 < ls.rates.get c ∧ 0 < (f.segment e.nextSegment).length then
          some (swept.now + (f.segment e.nextSegment).length * ls.rates.get c)
          else swept.release k.line c := by rw [← bytesIs]
      have requestIs : request = deliverFrame x st e f s := by
        unfold deliverFrame
        rw [← bytesIs]
        rfl
      refine (selectBranch_pick (start _ picked)).trans ((startPick_deliver queue frame station).trans ?_)
      rw [holdIs, requestIs, bytesIs]
      rfl
    case polls =>
      intro credits st picked found x
      exact (selectBranch_pick (start _ picked)).trans
        (startPick_service (candidateIs.trans found))

end Sys2Proof.Machine

/-! The validation of a commit: its five checks, and the first entry that fails one. -/

namespace Sys2Proof.Machine

/- ### First failures in an ordered list -/

section First

variable {α β : Type} {key : α → Nat} {f : α → Option β} {l : List α}

set_option Elab.async false in
/-- In a list ordered by a key the search stops at the member of least key that answers. -/
theorem findSome?_least (order : l.Pairwise fun a b => key a < key b) {a : α} {b : β} (mem : a ∈ l)
    (answers : f a = some b) (first : ∀ x ∈ l, key x < key a → f x = none) :
    l.findSome? f = some b := by
  induction l with
  | nil => cases mem
  | cons x xs ih =>
    obtain ⟨below, order⟩ := List.pairwise_cons.1 order
    rw [List.findSome?_cons]
    rcases List.mem_cons.1 mem with rfl | later
    · rw [answers]
    · rw [first x List.mem_cons_self (below a later)]
      exact ih order later fun y hy => first y (List.mem_cons_of_mem _ hy)

theorem find?_least {p : α → Bool} (order : l.Pairwise fun a b => key a < key b) {a : α}
    (mem : a ∈ l) (holds : p a = true) (first : ∀ x ∈ l, key x < key a → p x = false) :
    l.find? p = some a := by
  rw [List.find?_eq_findSome?_guard]
  refine findSome?_least order mem ((Option.guard_eq_some_iff).2 ⟨rfl, holds⟩) fun x hx below => ?_
  rw [Option.guard_eq_none_iff]
  exact first x hx below

end First

/- ### The shape of a circuit (R24) -/

section Shape

variable (t : Tables) (c : Circuit)

theorem egressBranches_eq (e : PerLine Bool) :
    egressBranches e = [.b0, .b1, .b2, .b3].filter fun k : Branch => e.get k.line := by
  obtain ⟨t, b0, b1, b2, b3⟩ := e
  cases t <;> cases b0 <;> cases b1 <;> cases b2 <;> cases b3 <;> rfl

theorem line_inj {j k : Branch} (h : j.line = k.line) : j = k := by
  revert h
  cases j <;> cases k <;> decide

theorem trunk_or_branch (l : Line) : l = .t ∨ ∃ k : Branch, l = k.line := by
  cases l with
  | t => exact .inl rfl
  | b0 => exact .inr ⟨.b0, rfl⟩
  | b1 => exact .inr ⟨.b1, rfl⟩
  | b2 => exact .inr ⟨.b2, rfl⟩
  | b3 => exact .inr ⟨.b3, rfl⟩

theorem branch?_line (k : Branch) : k.line.branch? = some k := by cases k <;> rfl

theorem stationFits_iff (l : Line) (s : Option Nat) : t.stationFits l s = true ↔
    (l = .t → s = none) ∧ ∀ k : Branch, l = k.line → s.map (t.configured k) = some true := by
  unfold Tables.stationFits
  rcases trunk_or_branch l with rfl | ⟨k, rfl⟩
  · have apart : ∀ k : Branch, Line.t = k.line → s.map (t.configured k) = some true := fun k same =>
      absurd same (line_ne_trunk k)
    rw [and_iff_left apart]
    cases s with
    | none => simp [Line.branch?]
    | some s => simp [Line.branch?]
  · have apart : k.line = .t → s = none := fun same => absurd same.symm (line_ne_trunk k)
    rw [and_iff_right apart, branch?_line]
    have only : (∀ j : Branch, k.line = j.line → s.map (t.configured j) = some true) ↔
        s.map (t.configured k) = some true :=
      ⟨fun h => h k rfl, fun h j same => line_inj same ▸ h⟩
    rw [only]
    cases s with
    | none => simp
    | some s => simp

theorem egressFits_iff : t.egressFits c = true ↔
    (egressBranches c.egress = [] → c.egressStation = none) ∧
      ∀ k ∈ egressBranches c.egress, c.egressStation.map (t.configured k) = some true := by
  unfold Tables.egressFits
  cases station : c.egressStation with
  | none =>
    rcases egressBranches c.egress with _ | ⟨k, ks⟩
    · simp
    · refine iff_of_false (fun h => nomatch h) fun h => ?_
      exact nomatch h.2 k List.mem_cons_self
  | some s =>
    rcases egressBranches c.egress with _ | ⟨k, ks⟩
    · simp
    · simp

theorem shapeOk_iff : t.shapeOk c = true ↔
    (c.ingressLine = .t → c.ingressStation = none) ∧
    (∀ k : Branch, c.ingressLine = k.line → c.ingressStation.map (t.configured k) = some true) ∧
    egressLines c.egress ≠ [] ∧ c.ingressLine ∉ egressLines c.egress ∧
    (c.kind = .periodic → (egressLines c.egress).length = 1 ∧ c.maxLength ≤ 128) ∧
    (egressBranches c.egress = [] → c.egressStation = none) ∧
    ∀ k ∈ egressBranches c.egress, c.egressStation.map (t.configured k) = some true := by
  have ingress : c.ingressLine ∉ egressLines c.egress ↔ c.egress.get c.ingressLine = false := by
    unfold egressLines
    rw [List.mem_filter, ← Bool.not_eq_true]
    cases c.ingressLine <;> simp [Line.all]
  have periodic : (c.kind == .aperiodic || ((egressLines c.egress).length == 1 &&
      decide (c.maxLength ≤ 128))) = true ↔
      (c.kind = .periodic → (egressLines c.egress).length = 1 ∧ c.maxLength ≤ 128) := by
    cases c.kind <;> simp
  have lines : (egressLines c.egress).isEmpty = false ↔ egressLines c.egress ≠ [] := by
    rw [← Bool.not_eq_true, List.isEmpty_iff]
  unfold Tables.shapeOk
  rw [Bool.and_eq_true, Bool.and_eq_true, Bool.and_eq_true, Bool.and_eq_true, Bool.not_eq_true',
    Bool.not_eq_true', stationFits_iff, egressFits_iff, periodic, ingress, lines]
  simp only [and_assoc]

end Shape

/- ### The references of a schedule entry (R163) -/

section References

variable (t : Tables)

theorem outputOk_iff (k : Branch) (s : Nat) (cid : Option Nat) : t.outputOk k s cid = true ↔
    ∀ i, cid = some i → ∃ c, t.circuits.find? i = some c ∧ c.kind = .periodic ∧
      egressLines c.egress = [k.line] ∧ c.egressStation = some s := by
  unfold Tables.outputOk
  cases cid with
  | none => simp
  | some i => cases found : t.circuits.find? i <;> simp [found, and_assoc]

theorem inputOk_iff (k : Branch) (s : Nat) (cid : Option Nat) : t.inputOk k s cid = true ↔
    ∀ i, cid = some i → ∃ c, t.circuits.find? i = some c ∧ c.kind = .periodic ∧
      c.ingressLine = k.line ∧ c.ingressStation = some s := by
  unfold Tables.inputOk
  cases cid with
  | none => simp
  | some i => cases found : t.circuits.find? i <;> simp [found, and_assoc]

theorem namedOnce_iff (index : Nat) (e : SchedEntry) : t.namedOnce index e = true ↔
    ∀ x ∈ t.schedule.cells, x.1 < index →
      (e.output = none ∨ x.2.output ≠ e.output) ∧ (e.input = none ∨ x.2.input ≠ e.input) := by
  unfold Tables.namedOnce
  rw [List.all_eq_true]
  refine forall₂_congr fun x _ => ?_
  rw [Bool.or_eq_true, decide_eq_true_iff, ← not_lt, imp_iff_not_or]
  simp

end References

/- ### Overbooking (R164) -/

section Overbooking

variable {limit : Int} {worst : SchedEntry → Nat}

/-- The sum of the worst cases of some entries, in ns. -/
def totalWorst (worst : SchedEntry → Nat) (es : List (Nat × SchedEntry)) : Int :=
  (((es.map fun c => worst c.2).sum : Nat) : Int)

set_option Elab.async false in
theorem totalWorst_cons (x : Nat × SchedEntry) (es : List (Nat × SchedEntry)) :
    totalWorst worst (x :: es) = worst x.2 + totalWorst worst es := by
  unfold totalWorst
  simp

theorem totalWorst_nonneg (es : List (Nat × SchedEntry)) : 0 ≤ totalWorst worst es :=
  Int.natCast_nonneg _

/-- The first entry over the limit ends the longest list of entries that is not. -/
theorem firstOver_eq_some_iff {es : List (Nat × SchedEntry)} {sum : Int} {i : Nat} :
    firstOver limit worst sum es = some i ↔ ∃ before e after, es = before ++ (i, e) :: after ∧
      (before = [] ∨ sum + totalWorst worst before ≤ limit) ∧
      limit < sum + totalWorst worst (before ++ [(i, e)]) := by
  induction es generalizing sum with
  | nil => simp [firstOver]
  | cons x xs ih =>
    obtain ⟨j, y⟩ := x
    unfold firstOver
    by_cases above : limit < sum + worst y
    · rw [if_pos above]
      constructor
      · intro same
        cases same
        refine ⟨[], y, xs, rfl, .inl rfl, ?_⟩
        rw [List.nil_append, totalWorst_cons]
        simpa [totalWorst] using above
      · rintro ⟨before, e, after, split, below, -⟩
        cases before with
        | nil =>
          cases split
          rfl
        | cons b bs =>
          obtain ⟨rfl, -⟩ := List.cons.inj split
          have more := totalWorst_nonneg (worst := worst) bs
          rcases below with empty | below
          · cases empty
          · rw [totalWorst_cons] at below
            dsimp only at below
            omega
    · rw [if_neg above, ih]
      constructor
      · rintro ⟨before, e, after, rfl, below, exceeds⟩
        refine ⟨(j, y) :: before, e, after, rfl, .inr ?_, ?_⟩
        · rw [totalWorst_cons]
          dsimp only
          rcases below with rfl | below
          · simp only [totalWorst, List.map_nil, List.sum_nil]
            omega
          · omega
        · rw [List.cons_append, totalWorst_cons]
          dsimp only
          omega
      · rintro ⟨before, e, after, split, below, exceeds⟩
        cases before with
        | nil =>
          cases split
          rw [List.nil_append, totalWorst_cons] at exceeds
          simp only [totalWorst, List.map_nil, List.sum_nil] at exceeds
          omega
        | cons b bs =>
          obtain ⟨rfl, rfl⟩ := List.cons.inj split
          rw [List.cons_append, totalWorst_cons] at exceeds
          dsimp only at exceeds
          refine ⟨bs, e, after, rfl, ?_, by omega⟩
          rcases below with empty | below
          · cases empty
          · rw [totalWorst_cons] at below
            dsimp only at below
            exact .inr (by omega)

/-- No entry goes over the limit if all of them together do not. -/
theorem firstOver_eq_none_iff {es : List (Nat × SchedEntry)} {sum : Int} :
    firstOver limit worst sum es = none ↔ (es ≠ [] → sum + totalWorst worst es ≤ limit) := by
  induction es generalizing sum with
  | nil => simp [firstOver]
  | cons x xs ih =>
    obtain ⟨j, y⟩ := x
    have rest := totalWorst_nonneg (worst := worst) xs
    unfold firstOver
    rw [totalWorst_cons]
    dsimp only
    by_cases above : limit < sum + worst y
    · rw [if_pos above]
      constructor
      · exact fun h => nomatch h
      · intro h
        have := h (List.cons_ne_nil _ _)
        omega
    · rw [if_neg above, ih]
      constructor
      · intro h _
        by_cases empty : xs = []
        · subst empty
          simp only [totalWorst, List.map_nil, List.sum_nil]
          omega
        · have := h empty
          omega
      · intro h _
        have := h (List.cons_ne_nil _ _)
        omega

end Overbooking

end Sys2Proof.Machine

/-! The validation of a commit, in the words of the statement. -/

namespace Sys2Proof.Machine

/- ### Circuits and references (R163) -/

section Tables

variable (t : Tables)

set_option Elab.async false in
theorem entryRefsOk_iff (index : Nat) (e : SchedEntry) : t.entryRefsOk index e = true ↔
    t.configured (scheduleBranch index) e.station = true ∧
    (∀ cid, e.output = some cid → ∃ c, t.circuits.find? cid = some c ∧ c.kind = .periodic ∧
      egressLines c.egress = [(scheduleBranch index).line] ∧ c.egressStation = some e.station) ∧
    (∀ cid, e.input = some cid → ∃ c, t.circuits.find? cid = some c ∧ c.kind = .periodic ∧
      c.ingressLine = (scheduleBranch index).line ∧ c.ingressStation = some e.station) ∧
    ∀ x ∈ t.schedule.cells, x.1 < index →
      (e.output = none ∨ x.2.output ≠ e.output) ∧ (e.input = none ∨ x.2.input ≠ e.input) := by
  unfold Tables.entryRefsOk
  dsimp only
  rw [Bool.and_eq_true, Bool.and_eq_true, Bool.and_eq_true, outputOk_iff, inputOk_iff,
    namedOnce_iff]
  simp only [and_assoc]

theorem badCircuit_eq_none_iff :
    t.badCircuit = none ↔ ∀ c ∈ t.circuits.cells, t.shapeOk c.2 = true := by
  unfold Tables.badCircuit
  rw [Option.map_eq_none_iff, List.find?_eq_none]
  simp

theorem badReference_eq_none_iff :
    t.badReference = none ↔ ∀ c ∈ t.schedule.cells, t.entryRefsOk c.1 c.2 = true := by
  unfold Tables.badReference
  rw [Option.map_eq_none_iff, List.find?_eq_none]
  simp

variable {t}

theorem badCircuit_least {cid : Nat} {c : Circuit} (sorted : t.circuits.sorted)
    (mem : (cid, c) ∈ t.circuits.cells) (bad : t.shapeOk c ≠ true)
    (least : ∀ x ∈ t.circuits.cells, x.1 < cid → t.shapeOk x.2 = true) :
    t.badCircuit = some cid := by
  unfold Tables.badCircuit
  rw [find?_least (key := Prod.fst) (List.pairwise_map.1 sorted) mem (by simpa using bad)
    fun x hx below => by simpa using least x hx below]
  rfl

theorem badReference_least {i : Nat} {e : SchedEntry} (sorted : t.schedule.sorted)
    (mem : (i, e) ∈ t.schedule.cells) (bad : t.entryRefsOk i e ≠ true)
    (least : ∀ x ∈ t.schedule.cells, x.1 < i → t.entryRefsOk x.1 x.2 = true) :
    t.badReference = some i := by
  unfold Tables.badReference
  rw [find?_least (key := Prod.fst) (List.pairwise_map.1 sorted) mem (by simpa using bad)
    fun x hx below => by simpa using least x hx below]
  rfl

end Tables

/- ### Overbooking (R164) -/

section Overbooking

/-- The entries of a branch that are due in a residue. -/
def Tables.due (t : Tables) (k : Branch) (r : Nat) : List (Nat × SchedEntry) :=
  t.schedule.cells.filter fun c =>
    decide (k.toNat * 48 ≤ c.1 ∧ c.1 < k.toNat * 48 + 48 ∧ r % c.2.period = c.2.phase)

/-- The residue goes over the branch's limit at an entry. -/
def Tables.overAt (t : Tables) (k : Branch) (r i : Nat) : Prop :=
  r < 128 ∧ ∃ before e after, t.due k r = before ++ (i, e) :: after ∧
    (before = [] ∨ totalWorst (t.entryWorst k) before ≤ t.overbookingLimit k) ∧
    t.overbookingLimit k < totalWorst (t.entryWorst k) (before ++ [(i, e)])

variable {t : Tables} {k : Branch}

theorem entriesOfResidue_eq (r : Nat) :
    entriesOfResidue (branchEntries t.schedule k) r = t.due k r := by
  unfold entriesOfResidue branchEntries Tables.due
  rw [List.filter_filter]
  refine List.filter_congr fun c _ => ?_
  rw [Bool.eq_iff_iff]
  simp
  tauto

theorem overbooked_eq (t : Tables) (k : Branch) : t.overbooked k =
    (List.range 128).findSome? fun r =>
      firstOver (t.overbookingLimit k) (t.entryWorst k) 0 (t.due k r) := by
  unfold Tables.overbooked
  dsimp only
  simp only [entriesOfResidue_eq]
  split
  next empty =>
    refine (List.findSome?_eq_none_iff.2 fun r _ => ?_).symm
    rw [← entriesOfResidue_eq, List.isEmpty_iff.1 empty]
    rfl
  next => rfl

theorem overAt_iff {r i : Nat} (h : r < 128) : t.overAt k r i ↔
    firstOver (t.overbookingLimit k) (t.entryWorst k) 0 (t.due k r) = some i := by
  unfold Tables.overAt
  rw [firstOver_eq_some_iff, and_iff_right h]
  simp only [zero_add]

theorem overbooked_eq_none_iff : t.overbooked k = none ↔
    ∀ r < 128, t.due k r ≠ [] → totalWorst (t.entryWorst k) (t.due k r) ≤ t.overbookingLimit k := by
  rw [overbooked_eq, List.findSome?_eq_none_iff]
  simp only [List.mem_range, firstOver_eq_none_iff, zero_add]

theorem overbooked_calm (h : ∀ r i, ¬ t.overAt k r i) : t.overbooked k = none := by
  rw [overbooked_eq, List.findSome?_eq_none_iff]
  intro r hr
  rw [List.mem_range] at hr
  exact Option.eq_none_iff_forall_ne_some.2 fun i hi => h r i ((overAt_iff hr).2 hi)

theorem overbooked_least {r i : Nat} (here : t.overAt k r i)
    (least : ∀ lower j, lower < r → ¬ t.overAt k lower j) : t.overbooked k = some i := by
  have bound := here.1
  rw [overbooked_eq]
  refine findSome?_least (key := id) List.pairwise_lt_range (List.mem_range.2 bound)
    ((overAt_iff bound).1 here) fun x hx below => ?_
  refine Option.eq_none_iff_forall_ne_some.2 fun j hj => least x j below ?_
  exact (overAt_iff (List.mem_range.1 hx)).2 hj

end Overbooking

/- ### Line Settings (R165) -/

section Lines

variable {d : Device} {list : List Staged} {k : Branch}

/-- The list holds the Line Settings of a branch that is not SHUT. -/
def Device.badLine (d : Device) (list : List Staged) (k : Branch) : Prop :=
  d.admission k ≠ .shut ∧ ∃ e ∈ list, e.unit = 5 ∧ e.index = k.line.toNat

/-- Whether check 4 names a line. -/
def Device.namesLine (d : Device) (list : List Staged) (l : Line) : Bool :=
  list.any (fun e => e.unit == 5 && e.index == l.toNat) &&
    match l.branch? with
    | none => false
    | some k => d.admission k != .shut

theorem badLineEntry_eq (d : Device) (list : List Staged) :
    d.badLineEntry list = (Line.all.find? (d.namesLine list)).map Line.toNat := rfl

set_option Elab.async false in
theorem namesLine_branch : d.namesLine list k.line = true ↔ d.badLine list k := by
  unfold Device.namesLine Device.badLine
  rw [branch?_line]
  simp [and_comm]

theorem namesLine_trunk : d.namesLine list .t = false := Bool.and_false _

theorem badLineEntry_eq_none_iff : d.badLineEntry list = none ↔ ∀ k, ¬ d.badLine list k := by
  rw [badLineEntry_eq, Option.map_eq_none_iff, List.find?_eq_none]
  constructor
  · exact fun h k bad => h k.line (by cases k <;> decide) (namesLine_branch.2 bad)
  · intro h l _
    rcases trunk_or_branch l with rfl | ⟨k, rfl⟩
    · rw [namesLine_trunk]
      exact Bool.false_ne_true
    · exact fun named => h k (namesLine_branch.1 named)

theorem badLineEntry_least (bad : d.badLine list k)
    (least : ∀ b : Branch, b.toNat < k.toNat → ¬ d.badLine list b) :
    d.badLineEntry list = some k.line.toNat := by
  rw [badLineEntry_eq, find?_least (key := Line.toNat) (by decide)
    (show k.line ∈ Line.all by cases k <;> decide) (namesLine_branch.2 bad) fun l _ below => ?_]
  · rfl
  · rcases trunk_or_branch l with rfl | ⟨b, rfl⟩
    · exact namesLine_trunk
    · rw [← Bool.not_eq_true, namesLine_branch]
      refine least b ?_
      revert below
      cases b <;> cases k <;> decide

end Lines

/- ### The checks in their order (R163) -/

section Conflict

variable {d : Device}

theorem conflict_eq_none_iff : d.conflict = none ↔
    (d.tables.withList d.change.list).badCircuit = none ∧
    (d.tables.withList d.change.list).badReference = none ∧
    Branch.all.findSome? (d.tables.withList d.change.list).overbooked = none ∧
    d.badLineEntry d.change.list = none ∧
    (d.tables.withList d.change.list).device.crossOk = true := by
  unfold Device.conflict
  dsimp only
  rcases (d.tables.withList d.change.list).badCircuit with _ | a
  · rcases (d.tables.withList d.change.list).badReference with _ | a
    · rcases Branch.all.findSome? (d.tables.withList d.change.list).overbooked with _ | a
      · rcases d.badLineEntry d.change.list with _ | a
        · simp
        · simp
      · simp
    · simp
  · simp

theorem conflict_circuit {cid : Nat}
    (h : (d.tables.withList d.change.list).badCircuit = some cid) : d.conflict = some (1, cid) := by
  unfold Device.conflict
  dsimp only
  rw [h]

variable (shaped : (d.tables.withList d.change.list).badCircuit = none)

include shaped

theorem conflict_reference {i : Nat}
    (h : (d.tables.withList d.change.list).badReference = some i) : d.conflict = some (3, i) := by
  unfold Device.conflict
  dsimp only
  rw [shaped, h]

variable (referring : (d.tables.withList d.change.list).badReference = none)

include referring

theorem conflict_overbooked {i : Nat}
    (h : Branch.all.findSome? (d.tables.withList d.change.list).overbooked = some i) :
    d.conflict = some (3, i) := by
  unfold Device.conflict
  dsimp only
  rw [shaped, referring, h]

variable (booked : Branch.all.findSome? (d.tables.withList d.change.list).overbooked = none)

include booked

theorem conflict_line {l : Nat} (h : d.badLineEntry d.change.list = some l) :
    d.conflict = some (5, l) := by
  unfold Device.conflict
  dsimp only
  rw [shaped, referring, booked, h]

theorem conflict_crossed (calm : d.badLineEntry d.change.list = none)
    (crossed : (d.tables.withList d.change.list).device.crossOk ≠ true) :
    d.conflict = some (8, 0) := by
  unfold Device.conflict
  dsimp only
  rw [shaped, referring, booked, calm]
  exact if_neg crossed

end Conflict

theorem crossOk_iff (s : DeviceSettings) : s.crossOk = true ↔ s.w ≤ s.d / 4 ∧ s.g < s.d := by
  unfold DeviceSettings.crossOk
  rw [Bool.and_eq_true, decide_eq_true_iff, decide_eq_true_iff]

theorem withList_ordered {t : Tables} (h : t.ordered) (list : List Staged) :
    (t.withList list).ordered :=
  List.foldlRecOn (motive := Tables.ordered) list _ h fun _ kept e _ => withEntry_ordered e kept

set_option Elab.async false in
theorem overbookeds_eq_none_iff {t : Tables} :
    Branch.all.findSome? t.overbooked = none ↔ ∀ k, t.overbooked k = none := by
  rw [List.findSome?_eq_none_iff]
  exact ⟨fun h k => h k (by cases k <;> decide), fun h k _ => h k⟩

/-- Settles O49. -/
theorem validationMakesEveryCheck : Obligations.ValidationMakesEveryCheck := by
  intro d t configured lines branches shape references worst due limit total badShape badReference
    overAt badLine
  have shapeIs : ∀ c, t.shapeOk c = true ↔ shape c := fun c => by
    have h := shapeOk_iff t c
    rw [egressBranches_eq] at h
    exact h
  have referencesIs : ∀ i e, t.entryRefsOk i e = true ↔ references i e := entryRefsOk_iff t
  have circuits := badCircuit_eq_none_iff t
  have entries := badReference_eq_none_iff t
  refine ⟨conflict_eq_none_iff.trans (and_congr ?_ (and_congr ?_ (and_congr ?_ (and_congr ?_
    (crossOk_iff _))))), fun ordered => ?_⟩
  · exact circuits.trans (forall₂_congr fun c _ => shapeIs c.2)
  · exact entries.trans (forall₂_congr fun c _ => referencesIs c.1 c.2)
  · exact overbookeds_eq_none_iff.trans (forall_congr' fun k => overbooked_eq_none_iff)
  · refine badLineEntry_eq_none_iff.trans ⟨fun h e mem k unit index => ?_, fun h k bad => ?_⟩
    · by_contra shut
      exact h k ⟨shut, e, mem, unit, index⟩
    · obtain ⟨shut, e, mem, unit, index⟩ := bad
      exact shut (h e mem k unit index)
  obtain ⟨sortedCircuits, -, sortedSchedule, -⟩ := withList_ordered ordered d.change.list
  refine ⟨fun cid bad least => ?_, fun shaped => ?_⟩
  · obtain ⟨c, mem, bad⟩ := bad
    have first := badCircuit_least sortedCircuits mem (mt (shapeIs c).1 bad) fun x hx below => by
      by_contra fails
      exact least x.1 below ⟨x.2, hx, mt (shapeIs x.2).2 fails⟩
    exact conflict_circuit first
  have check1 : t.badCircuit = none := circuits.2 fun c mem => by
    by_contra fails
    exact shaped c.1 ⟨c.2, mem, mt (shapeIs c.2).2 fails⟩
  refine ⟨fun i bad least => ?_, fun referring => ?_⟩
  · obtain ⟨e, mem, bad⟩ := bad
    have first := badReference_least sortedSchedule mem (mt (referencesIs i e).1 bad)
      fun x hx below => by
        by_contra fails
        exact least x.1 below ⟨x.2, hx, mt (referencesIs x.1 x.2).2 fails⟩
    exact conflict_reference check1 first
  have check2 : t.badReference = none := entries.2 fun c mem => by
    by_contra fails
    exact referring c.1 ⟨c.2, mem, mt (referencesIs c.1 c.2).2 fails⟩
  refine ⟨fun k r i here least lower => ?_, fun booked => ?_⟩
  · have first := findSome?_least (key := Branch.toNat) (f := t.overbooked) (l := Branch.all)
      (by decide) (show k ∈ Branch.all by cases k <;> decide) (overbooked_least here least)
      fun b _ below => overbooked_calm fun q j => lower b q j below
    exact conflict_overbooked check1 check2 first
  have check3 : Branch.all.findSome? t.overbooked = none :=
    overbookeds_eq_none_iff.2 fun k => overbooked_calm (booked k)
  refine ⟨fun k bad least => ?_, fun calm crossed => ?_⟩
  · exact conflict_line check1 check2 check3 (badLineEntry_least bad least)
  · have check4 : d.badLineEntry d.change.list = none := badLineEntry_eq_none_iff.2 calm
    exact conflict_crossed check1 check2 check3 check4 fun ok => crossed ((crossOk_iff _).1 ok)

end Sys2Proof.Machine

/-! Cycle starts: the timer they leave, and the tables in force at the end of their event. -/

namespace Sys2Proof.Machine

open Device (Writes)

variable {d d' : Device}

/- ### Requests while the timer runs (R162) -/

set_option Elab.async false in
theorem performCommit_tables (kind : Nat) (number : Cycle) (h : d.timer.state ≠ .unlocked) :
    (performCommit kind number d).1.tables = d.tables := by
  unfold performCommit
  dsimp only
  repeat' split
  all_goals try rfl
  next _ _ _ locked _ _ _ _ now => exact absurd ⟨now, h⟩ locked

theorem setTrunk_tables (state : Nat) : (setTrunk state d).1.tables = d.tables :=
  (setTrunk_writes state d).tables

theorem setBranch_tables (k : Branch) (state : Nat) (op : Byte) (tag : List Byte) :
    (setBranch k state op tag d).1.tables = d.tables := by
  unfold setBranch
  repeat' split
  all_goals dsimp only
  · exact (shutBranch_writes ..).tables
  · rfl
  · exact (openBranch_writes ..).tables

/-- Of the requests only an immediate COMMIT, which needs an UNLOCKED timer, changes the tables in
force (R162). -/
theorem performRequest_tables (bs : List Byte) (h : d.timer.state ≠ .unlocked) :
    (performRequest bs d).1.tables = d.tables := by
  unfold performRequest
  split
  · rfl
  · rename_i op _
    cases op with
    | read => rfl
    | stage => exact (performStage_writes ..).tables
    | discard => rfl
    | commit => exact performCommit_tables _ _ h
    | setLine =>
      unfold performOp performSetLine
      dsimp only
      split
      · rfl
      · split
        · exact setTrunk_tables _
        · exact setBranch_tables ..
    | clear => exact (performClear_writes ..).tables
    | takeEvents => exact (performTakeEvents_writes ..).tables
    | restart => rfl

theorem performHead_tables (bs : List Byte) (h : d.timer.state ≠ .unlocked) :
    (performHead bs d).tables = d.tables := by
  have performed := performRequest_tables bs h
  unfold performHead
  split
  next d' same =>
    rw [same] at performed
    exact performed
  next d' r same =>
    rw [same] at performed
    exact performed

theorem takeHead_tables (queue : List (List Byte)) (h : d.timer.state ≠ .unlocked) :
    (takeHead queue d).tables = d.tables := by
  induction queue generalizing d with
  | nil => rfl
  | cons bs rest ih =>
    unfold takeHead
    dsimp only
    split
    · exact performHead_tables (d := { d with endpoint := { d.endpoint with queue := rest } }) bs h
    · exact ih h

theorem fillSlot_tables (h : d.timer.state ≠ .unlocked) : (fillSlot d).tables = d.tables := by
  unfold fillSlot
  split
  · rfl
  · rfl
  · rfl
  · exact (placeAttention_writes d).tables
  · split
    · exact (placeAttention_writes d).tables
    · exact takeHead_tables _ h

/-- The end of an event of a part whose timer runs leaves the tables in force. -/
theorem settle_tables (h : d.timer.state ≠ .unlocked) : (settle d).tables = d.tables := by
  have once {x : Device} (hx : x.timer.state ≠ .unlocked) :
      (trunkChoose (fillSlot x)).tables = x.tables ∧
      (trunkChoose (fillSlot x)).timer.state ≠ .unlocked := by
    have chosen := trunkChoose_writes (fillSlot x)
    refine ⟨chosen.tables.trans (fillSlot_tables hx), ?_⟩
    rw [chosen.timer, (fillSlot_writes x).timer]
    exact hx
  obtain ⟨first, still⟩ := once h
  exact (once still).1.trans first

/- ### The events that start cycles (R76 to R82) -/

theorem exec_trunkCycle {now : Nat} {n : Cycle} {s : State} {d d' : Device}
    (runs : s.dev.inReset = false) (acts : timerArrival n (s.dev.arrived now (trunkCycle n)) = d)
    (ends : settle d = d') :
    exec (.trunkCycleArrival now (trunkCycle n)) s = .next { s with dev := d' } := by
  rw [← ends]
  exact (next_trunkArrival runs (checkTrunk_trunkCycle n) acts).2

theorem timerArrival_accepts {n : Cycle} (h : d.timer.accepts d.now) :
    timerArrival n d = frameStart n d := by
  unfold timerArrival
  unfold Timer.accepts at h
  generalize d.timer.state = st at h ⊢
  generalize d.timer.expiry = expiry at h ⊢
  cases st with
  | locked =>
    cases expiry with
    | none => rfl
    | some pending =>
      cases pending with
      | lockWindow early due => exact if_neg (Nat.not_lt.2 h)
      | localCycle due => rfl
  | unlocked => rfl
  | coasting => rfl
  | free => rfl

theorem exec_frameStart {now : Nat} {n : Cycle} {s : State} (runs : s.dev.inReset = false)
    (accepts : s.dev.timer.accepts now) :
    exec (.trunkCycleArrival now (trunkCycle n)) s =
      .next { s with dev := settle (frameStart n (s.dev.arrived now (trunkCycle n))) } :=
  exec_trunkCycle runs (timerArrival_accepts accepts) rfl

theorem exec_lockWindow {s : State} {early due : Nat} (runs : s.dev.inReset = false)
    (pending : s.dev.timer.expiry = some (.lockWindow early due)) :
    exec .lockWindowExpiry s =
      .next { s with dev := settle (localStart { s.dev with now := due }) } := by
  refine expiry_ends runs ?_ rfl
  unfold lockWindowDue
  rw [pending]

set_option Elab.async false in
theorem exec_localCycle {s : State} {due : Nat} (runs : s.dev.inReset = false)
    (pending : s.dev.timer.expiry = some (.localCycle due)) :
    exec .localCycleExpiry s =
      .next { s with dev := settle (localStart { s.dev with now := due }) } := by
  refine expiry_ends runs ?_ rfl
  unfold localCycleDue
  rw [pending]

/- ### The timer after a start (R74, R76) -/

/-- The expiry of a cycle that starts at an instant, under some settings (R74, R76). -/
def expiryOf (st : TimerState) (now : Nat) (s : DeviceSettings) : Expiry :=
  match st with
  | .locked => .lockWindow (now + s.d * 1000 - s.w * 1000) (now + s.d * 1000 + s.w * 1000)
  | _ => .localCycle (now + s.d * 1000)

theorem startedCycle_exact (number : Cycle) (st : TimerState) (miss : Nat) (slip : Bool)
    (d : Device) : (startedCycle number st miss slip d).timer =
      { state := st, cycle := number, miss := miss, lastStart := some d.now,
        expiry := some (expiryOf st d.now (startedCycle number st miss slip d).tables.device) } := by
  unfold startedCycle setExpiry
  dsimp only
  have timer := actOnCommit_timer ((startTimer number st miss d).changeAct slip)
    (startTimer number st miss d)
  have now := (actOnCommit_writes (startTimer number st miss d)
    ((startTimer number st miss d).changeAct slip)).now
  unfold Device.newExpiry
  rw [timer, now]
  unfold startTimer expiryOf us
  cases st <;> rfl

/-- What a start from a CYCLE frame does after the timer has gone on leaves the timer and the tables
in force. -/
theorem frameStart_keeps (number : Cycle) (d : Device) :
    let started := startedCycle number .locked 0 (d.timer.slips number) d
    (settle (frameStart number d)).timer = started.timer ∧
      (settle (frameStart number d)).tables = started.tables := by
  intro started
  have written : Writes (.endpoint :: handOutFields) started (frameStart number d) := by
    rw [frameStart_eq]
    exact ((raiseFrameEvents_writes ..).mono.andThen (raiseCommit_writes ..)).andThen
      (handOut_writes _)
  have timer : (frameStart number d).timer = started.timer := written.timer
  refine ⟨(settle_writes _).timer.trans timer, (settle_tables ?_).trans written.tables⟩
  rw [timer, startedCycle_exact]
  exact fun h => nomatch h

theorem localStart_keeps (d : Device) :
    (settle (localStart d)).timer = (startedLocal d).timer ∧
      ((startedLocal d).timer.state ≠ .unlocked →
        (settle (localStart d)).tables = (startedLocal d).tables) := by
  have written : Writes (.endpoint :: handOutFields) (startedLocal d) (localStart d) := by
    rw [localStart_eq]
    exact (raiseCommit_writes ..).mono.andThen (handOut_writes _)
  refine ⟨(settle_writes _).timer.trans written.timer, fun runs =>
    (settle_tables ?_).trans written.tables⟩
  rw [written.timer]
  exact runs

/-- Settles O20. -/
theorem cycleFrameStartsACycle : Obligations.CycleFrameStartsACycle := by
  refine ⟨fun now n s runs accepts => ?_, fun now early due n s quiet locked window soon => ?_⟩
  · refine ⟨_, exec_frameStart runs accepts, ?_⟩
    obtain ⟨timer, tables⟩ := frameStart_keeps n (s.dev.arrived now (trunkCycle n))
    dsimp only
    rw [timer, tables]
    exact startedCycle_exact ..
  · have early_ : timerArrival n (s.dev.arrived now (trunkCycle n)) =
        (s.dev.arrived now (trunkCycle n)).bumpLine .t .earlyCycle := by
      unfold timerArrival
      rw [show (s.dev.arrived now (trunkCycle n)).timer = s.dev.timer from
        (arrived_writes ..).timer, locked, window]
      exact if_pos soon
    refine exec_trunkCycle quiet.1 early_ ?_
    exact ((arrived_writes s.dev now (trunkCycle n)).andThen (bumpLine_writes ..)
      |>.settle_quiet quiet.2.1 quiet.2.2)

end Sys2Proof.Machine

/-! Local cycle starts, the events of cycle starts, and armed commits at them. -/

namespace Sys2Proof.Machine

open Device (Writes)

variable {d d' : Device}

/- ### The timer after a local start (R80, R81) -/

set_option Elab.async false in
/-- The miss count takes a COASTING timer to FREE (R80, R81). -/
theorem raiseLocalEvents_exact (fromLocked : Bool) (before : Nat) (d : Device) :
    (raiseLocalEvents fromLocked before d).timer = { d.timer with
      state := if d.timer.state = .coasting ∧ before ≤ d.timer.miss ∧
          d.tables.device.n ≤ d.timer.miss then .free else d.timer.state } := by
  obtain ⟨x, hx⟩ : ∃ x : Device, x = if fromLocked = true then
      raiseEvent .cycleCoasting (some .t) none 0 d else d := ⟨_, rfl⟩
  have written : Writes [.endpoint] d x := by
    rw [hx]
    split
    · exact raiseEvent_writes ..
    · exact .refl d
  have free : x.becomesFree before = true ↔ d.timer.state = .coasting ∧ before ≤ d.timer.miss ∧
      d.tables.device.n ≤ d.timer.miss := by
    unfold Device.becomesFree
    rw [written.timer, written.tables, Bool.and_eq_true, beq_iff_eq, decide_eq_true_iff, max_le_iff]
  unfold raiseLocalEvents
  dsimp only
  rw [← hx]
  split
  next h =>
    rw [if_pos (free.1 h)]
    unfold goFree
    rw [(raiseEvent_writes ..).timer, ← written.timer]
  next h =>
    rw [if_neg fun both => h (free.2 both), written.timer]

theorem startedLocal_exact (d : Device) :
    let st : TimerState := if d.timer.state = .free then .free else .coasting
    let miss := min (d.timer.miss + 1) 65535
    (startedLocal d).timer =
      { state := if st = .coasting ∧ d.tables.device.n ≤ miss ∧
            (startedLocal d).tables.device.n ≤ miss then .free else st,
        cycle := d.timer.cycle + 1, miss := miss, lastStart := some d.now,
        expiry := some (.localCycle (d.now + (startedLocal d).tables.device.d * 1000)) } := by
  intro st miss
  have started := startedCycle_exact (d.timer.cycle + 1) st miss false d
  have tables : (startedLocal d).tables =
      (startedCycle (d.timer.cycle + 1) st miss false d).tables := (raiseLocalEvents_writes ..).tables
  have timer : (startedLocal d).timer = _ := raiseLocalEvents_exact (d.timer.state = .locked)
    d.tables.device.n (startedCycle (d.timer.cycle + 1) st miss false d)
  rw [timer, tables, started]
  dsimp only
  have coasts : expiryOf st d.now
      (startedCycle (d.timer.cycle + 1) st miss false d).tables.device =
      .localCycle (d.now + (startedCycle (d.timer.cycle + 1) st miss false d).tables.device.d * 1000) := by
    unfold expiryOf
    by_cases free : d.timer.state = .free
    · rw [show st = .free from if_pos free]
    · rw [show st = .coasting from if_neg free]
  rw [coasts]

/-- The timer and the tables at the end of a local start's event (R80, R81). -/
theorem localStart_ends (d : Device) :
    let st : TimerState := if d.timer.state = .free then .free else .coasting
    let miss := min (d.timer.miss + 1) 65535
    (settle (localStart d)).timer =
      { state := if st = .coasting ∧ d.tables.device.n ≤ miss ∧
            (settle (localStart d)).tables.device.n ≤ miss then .free else st,
        cycle := d.timer.cycle + 1, miss := miss, lastStart := some d.now,
        expiry := some (.localCycle (d.now + (settle (localStart d)).tables.device.d * 1000)) } := by
  intro st miss
  obtain ⟨timer, tables⟩ := localStart_keeps d
  have exact_ := startedLocal_exact d
  have runs : (startedLocal d).timer.state ≠ .unlocked := by
    rw [exact_]
    dsimp only
    split
    · exact fun h => nomatch h
    · split <;> exact fun h => nomatch h
  rw [timer, tables runs]
  exact exact_

/- ### What a consistent timer waits for (R75) -/

theorem locked_of_consistent {t : Timer} (h : t.consistent) (locked : t.state = .locked) :
    t.miss = 0 ∧ ∃ early due, t.expiry = some (.lockWindow early due) := by
  unfold Timer.consistent at h
  generalize t.expiry = expiry at h ⊢
  rw [locked] at h
  cases expiry with
  | none => cases h
  | some pending =>
    cases pending with
    | lockWindow early due => exact ⟨h, early, due, rfl⟩
    | localCycle due => cases h

theorem window_of_consistent {t : Timer} (h : t.consistent) {early due : Nat}
    (window : t.expiry = some (.lockWindow early due)) : t.state = .locked ∧ t.miss = 0 := by
  unfold Timer.consistent at h
  generalize t.state = state at h ⊢
  rw [window] at h
  cases state with
  | locked => exact ⟨rfl, h⟩
  | unlocked => cases h
  | coasting => cases h
  | free => cases h

theorem local_of_consistent {t : Timer} (h : t.consistent) :
    (∃ due, t.expiry = some (.localCycle due)) ↔ t.state = .coasting ∨ t.state = .free := by
  unfold Timer.consistent at h
  generalize t.expiry = expiry at h ⊢
  generalize t.state = state at h ⊢
  cases state with
  | unlocked =>
    refine iff_of_false (fun ⟨due, pending⟩ => ?_) (by decide)
    rw [pending] at h
    exact h
  | locked =>
    refine iff_of_false (fun ⟨due, pending⟩ => ?_) (by decide)
    rw [pending] at h
    exact h
  | coasting =>
    refine iff_of_true ?_ (.inl rfl)
    cases expiry with
    | none => exact h.elim
    | some pending =>
      cases pending with
      | lockWindow early due => exact h.elim
      | localCycle due => exact ⟨due, rfl⟩
  | free =>
    refine iff_of_true ?_ (.inr rfl)
    cases expiry with
    | none => exact h.elim
    | some pending =>
      cases pending with
      | lockWindow early due => exact h.elim
      | localCycle due => exact ⟨due, rfl⟩

theorem lockWindowDue_calm (h : ∀ early due, d.timer.expiry ≠ some (.lockWindow early due)) :
    lockWindowDue d = d := by
  unfold lockWindowDue
  split
  next early due pending => exact absurd pending (h early due)
  next => rfl

theorem localCycleDue_calm (h : ∀ due, d.timer.expiry ≠ some (.localCycle due)) :
    localCycleDue d = d := by
  unfold localCycleDue
  split
  next due pending => exact absurd pending (h due)
  next => rfl

/-- Settles O21. -/
theorem expiryStartsALocalCycle : Obligations.ExpiryStartsALocalCycle := by
  intro due s runs consistent
  refine ⟨fun early window => ⟨_, exec_lockWindow runs window, ?_⟩, fun pending => ?_,
    fun quiet => ⟨fun running => ?_, fun halted => ?_⟩⟩
  · obtain ⟨locked, miss⟩ := window_of_consistent consistent window
    have ends := localStart_ends { s.dev with now := due }
    generalize settle (localStart { s.dev with now := due }) = t at ends ⊢
    dsimp only at ends ⊢
    simp [ends, locked, miss]
  · refine ⟨_, exec_localCycle runs pending, ?_⟩
    have ends := localStart_ends { s.dev with now := due }
    generalize settle (localStart { s.dev with now := due }) = t at ends ⊢
    dsimp only at ends ⊢
    rcases (local_of_consistent consistent).1 ⟨due, pending⟩ with coasting | free
    · simp [ends, coasting]
    · simp [ends, free]
  · refine expiry_ends runs (lockWindowDue_calm fun early due window => ?_)
      (settle_quiet quiet.2.1 quiet.2.2)
    exact running (window_of_consistent consistent window).1
  · refine expiry_ends runs (localCycleDue_calm fun due pending => ?_)
      (settle_quiet quiet.2.1 quiet.2.2)
    rcases (local_of_consistent consistent).1 ⟨due, pending⟩ with h | h <;> rw [h] at halted <;>
      exact absurd halted (by decide)

end Sys2Proof.Machine

/-! The events of cycle starts, and armed commits that a start leaves or abandons. -/

namespace Sys2Proof.Machine

open Device (Writes)

variable {d d' : Device}

/- ### Events raised one after another (R84, R175) -/

/-- The second part has the first's events and those given behind them, the same cycle number, and no
request in progress or queued where the first has none. -/
structure Device.Raised (added : List Event) (d d' : Device) : Prop where
  events : d'.endpoint.events = d.endpoint.events ++ added
  cycle : d'.timer.cycle = d.timer.cycle
  unasked : d.unasked → d'.unasked

open Device (Raised)

set_option Elab.async false in
theorem Device.Raised.refl (d : Device) : Raised [] d d := ⟨(List.append_nil _).symm, rfl, id⟩

theorem Device.Raised.trans {xs ys : List Event} {d'' : Device} (h : Raised xs d d')
    (g : Raised ys d' d'') : Raised (xs ++ ys) d d'' where
  events := by rw [g.events, h.events, List.append_assoc]
  cycle := g.cycle.trans h.cycle
  unasked asked := g.unasked (h.unasked asked)

theorem Device.Raised.of_writes {fs : List Field} (w : Writes fs d d')
    (free : .endpoint ∉ fs := by decide) (cycle : d'.timer.cycle = d.timer.cycle) :
    Raised [] d d' where
  events := by rw [w.endpoint free, List.append_nil]
  cycle := cycle
  unasked asked := w.unasked asked free

theorem raiseEvent_raised (kind : EventKind) (line : Option Line) (station : Option Nat)
    (detail : Nat) {d : Device} (room : d.endpoint.events.length < 32) :
    Raised [d.eventNow kind line station detail] d (raiseEvent kind line station detail d) := by
  rw [raiseEvent_room kind line station detail room rfl]
  exact ⟨rfl, rfl, id⟩

/-- Whether an event finds room or not, none of another kind joins. -/
theorem raiseEvent_kind (kind : EventKind) (line : Option Line) (station : Option Nat)
    (detail : Nat) (d : Device) : ∃ added, Raised added d (raiseEvent kind line station detail d) ∧
      ∀ e ∈ added, e.kind = kind := by
  by_cases room : d.endpoint.events.length < 32
  · refine ⟨_, raiseEvent_raised kind line station detail room, fun e mem => ?_⟩
    rw [List.mem_singleton.1 mem]
    rfl
  · rw [raiseEvent_full kind line station detail (Nat.not_lt.1 room)]
    exact ⟨[], ⟨(List.append_nil _).symm, rfl, id⟩, fun _ mem => nomatch mem⟩

theorem raiseIf_raised (h : Prop) [Decidable h] (kind : EventKind) (line : Option Line)
    (station : Option Nat) (detail : Nat) {d : Device} (room : d.endpoint.events.length < 32) :
    Raised (if h then [d.eventNow kind line station detail] else []) d
      (if h then raiseEvent kind line station detail d else d) := by
  split
  · exact raiseEvent_raised kind line station detail room
  · exact .refl d

/-- The event as it would be recorded in a cycle. -/
def trunkEvent (kind : EventKind) (cycle : Cycle) (detail : Nat) : Event :=
  { kind := kind, cycle := cycle, line := some .t, station := none, detail := detail }

theorem eventNow_trunk (kind : EventKind) (detail : Nat) (d : Device) :
    d.eventNow kind (some .t) none detail = trunkEvent kind d.timer.cycle detail := rfl

theorem length_if_le {α : Type} (h : Prop) [Decidable h] (x : α) :
    (if h then [x] else []).length ≤ 1 := by
  split <;> simp

/-- CYCLE_LOCKED and CYCLE_SLIP join in this order (R82, R84). -/
theorem raiseFrameEvents_raised (old : Timer) (slip : Bool) {d : Device}
    (room : d.endpoint.events.length ≤ 30) :
    Raised ((if old.state ≠ .locked then [trunkEvent .cycleLocked d.timer.cycle old.miss] else []) ++
      (if slip then [trunkEvent .cycleSlip d.timer.cycle (old.cycle + 1).toNat] else [])) d
      (raiseFrameEvents old slip d) := by
  have first := raiseIf_raised (old.state ≠ .locked) .cycleLocked (some .t) none old.miss
    (d := d) (by omega)
  have more := length_if_le (old.state ≠ .locked) (d.eventNow .cycleLocked (some .t) none old.miss)
  have second := raiseIf_raised (slip = true) .cycleSlip (some .t) none (old.cycle + 1).toNat
    (d := if old.state ≠ .locked then raiseEvent .cycleLocked (some .t) none old.miss d else d) (by
      rw [first.events, List.length_append]
      omega)
  rw [eventNow_trunk, first.cycle] at second
  exact first.trans second

theorem becomesFree_iff (before : Nat) (d : Device) : d.becomesFree before = true ↔
    d.timer.state = .coasting ∧ before ≤ d.timer.miss ∧ d.tables.device.n ≤ d.timer.miss := by
  unfold Device.becomesFree
  rw [Bool.and_eq_true, beq_iff_eq, decide_eq_true_iff, max_le_iff]

/-- The timer that goes on to FREE calls for no event by itself. -/
theorem free_raised (d : Device) :
    Raised [] d { d with timer := { d.timer with state := .free } } :=
  ⟨(List.append_nil _).symm, rfl, id⟩

/-- CYCLE_COASTING and CYCLE_FREE join in this order (R80, R81, R84). -/
theorem raiseLocalEvents_raised (fromLocked : Bool) (before : Nat) {d : Device}
    (room : d.endpoint.events.length ≤ 30) :
    Raised ((if fromLocked then [trunkEvent .cycleCoasting d.timer.cycle 0] else []) ++
      (if d.timer.state = .coasting ∧ before ≤ d.timer.miss ∧ d.tables.device.n ≤ d.timer.miss then
        [trunkEvent .cycleFree d.timer.cycle d.tables.device.n] else [])) d
      (raiseLocalEvents fromLocked before d) := by
  have first := raiseIf_raised (fromLocked = true) .cycleCoasting (some .t) none 0 (d := d)
    (by omega)
  have more := length_if_le (fromLocked = true) (d.eventNow .cycleCoasting (some .t) none 0)
  have length : (d.endpoint.events ++ if fromLocked = true then
      [d.eventNow .cycleCoasting (some .t) none 0] else []).length < 32 := by
    rw [List.length_append]
    omega
  rw [← first.events] at length
  have written : Writes [.endpoint] d (if fromLocked = true then
      raiseEvent .cycleCoasting (some .t) none 0 d else d) := by
    split
    · exact raiseEvent_writes ..
    · exact .refl d
  unfold raiseLocalEvents
  refine first.trans ?_
  dsimp only
  generalize (if fromLocked = true then raiseEvent .cycleCoasting (some .t) none 0 d else d) = x
    at written length
  simp only [becomesFree_iff]
  rw [← written.timer, ← written.tables]
  split
  · exact (free_raised x).trans (raiseEvent_raised .cycleFree (some .t) none x.tables.device.n
      (d := { x with timer := { x.timer with state := .free } }) length)
  · exact .refl x

set_option Elab.async false in
/-- A local start raises no other events than these two, whatever the room. -/
theorem raiseLocalEvents_kinds (fromLocked : Bool) (before : Nat) (d : Device) :
    ∃ added, Raised added d (raiseLocalEvents fromLocked before d) ∧
      ∀ e ∈ added, e.kind = .cycleCoasting ∨ e.kind = .cycleFree := by
  obtain ⟨xs, first, coasting⟩ : ∃ xs, Raised xs d (if fromLocked = true then
      raiseEvent .cycleCoasting (some .t) none 0 d else d) ∧
      ∀ e ∈ xs, e.kind = .cycleCoasting := by
    split
    · exact raiseEvent_kind ..
    · exact ⟨[], .refl d, fun _ mem => nomatch mem⟩
  unfold raiseLocalEvents
  dsimp only
  generalize (if fromLocked = true then raiseEvent .cycleCoasting (some .t) none 0 d else d) = x
    at first
  split
  · obtain ⟨ys, second, free⟩ := raiseEvent_kind .cycleFree (some .t) none x.tables.device.n
      { x with timer := { x.timer with state := .free } }
    refine ⟨xs ++ ys, first.trans ((free_raised x).trans second), fun e mem => ?_⟩
    exact (List.mem_append.1 mem).imp (coasting e) (free e)
  · exact ⟨xs, first, fun e mem => .inl (coasting e mem)⟩

/- ### The end of the event -/

theorem fillSlot_raised (h : d.unasked) : Raised [] d (fillSlot d) := by
  obtain ⟨written, still⟩ := fillSlot_unasked h
  refine ⟨?_, congrArg Timer.cycle written.timer, fun _ => still⟩
  obtain ⟨progress, queue⟩ := h
  have placed : (placeAttention d).endpoint.events = d.endpoint.events := by
    unfold placeAttention
    split
    · rfl
    · rfl
    · rfl
    · split <;> rfl
  rw [List.append_nil]
  unfold fillSlot
  rw [progress, queue]
  cases d.endpoint.slot with
  | some r => rfl
  | none =>
    dsimp only
    split
    · exact placed
    · rfl

theorem trunkChoose_raised (h : d.unasked) : Raised [] d (trunkChoose d) := by
  refine ⟨?_, congrArg Timer.cycle (trunkChoose_writes d).timer, fun _ => trunkChoose_unasked h⟩
  rw [List.append_nil]
  unfold trunkChoose
  split
  · rfl
  · unfold startRecord
    split <;> rfl
  · split
    · split
      · rw [(startTrunkSlot_writes ..).endpoint]
      · rw [(trunkSelect_writes d).endpoint]
    · rfl

/-- With no request in hand the end of an event raises nothing. -/
theorem settle_raised (h : d.unasked) : Raised [] d (settle d) := by
  have once {x : Device} (hx : x.unasked) : Raised [] x (trunkChoose (fillSlot x)) :=
    (fillSlot_raised hx).trans (trunkChoose_raised ((fillSlot_raised hx).unasked hx))
  exact (once h).trans (once ((once h).unasked h))

theorem handOut_raised (d : Device) : Raised [] d (handOut d) :=
  .of_writes (handOut_writes d) (by decide) (congrArg Timer.cycle (handOut_writes d).timer)

/- ### Starts and the armed commit (R76, R166, R168) -/

theorem changeAct_calm {slip : Bool} (h : d.change.state ≠ .armed) :
    d.changeAct slip = .nothing := by
  unfold Device.changeAct
  split
  next armed _ => exact absurd armed h
  next => rfl

theorem changeAct_slips {target : Cycle} (armed : d.change.state = .armed)
    (h : d.change.target = some target) : d.changeAct true = .abandons target := by
  unfold Device.changeAct
  rw [armed, h]
  rfl

theorem changeAct_meets (armed : d.change.state = .armed)
    (h : d.change.target = some d.timer.cycle) : d.changeAct false = .applies := by
  unfold Device.changeAct
  rw [armed, h]
  exact if_pos rfl

theorem changeAct_misses (h : d.change.target ≠ some d.timer.cycle) :
    d.changeAct false = .nothing := by
  unfold Device.changeAct
  split
  next target _ same =>
    rw [if_neg Bool.false_ne_true, if_neg fun now => h (same.trans (congrArg some now))]
  next => rfl

/-- The part once the timer has gone on, where no commit acts. -/
theorem startedCycle_calm {number : Cycle} {st : TimerState} {miss : Nat} {slip : Bool}
    (calm : (startTimer number st miss d).changeAct slip = .nothing) :
    startedCycle number st miss slip d = setExpiry (startTimer number st miss d) := by
  unfold startedCycle
  dsimp only
  rw [calm]
  rfl

theorem slips_iff (t : Timer) (number : Cycle) :
    t.slips number = true ↔ t.state ≠ .unlocked ∧ number ≠ t.cycle + 1 := by
  unfold Timer.slips
  rw [Bool.and_eq_true, bne_iff_ne, bne_iff_ne]

theorem startedCycle_writes (number : Cycle) (st : TimerState) (miss : Nat) (slip : Bool)
    (d : Device) : Writes (.timer :: .choices :: applyFields) d
      (startedCycle number st miss slip d) :=
  ((startTimer_writes ..).mono.andThen (actOnCommit_writes ..)).andThen (setExpiry_writes _)

set_option Elab.async false in
theorem startedCycle_cycle (number : Cycle) (st : TimerState) (miss : Nat) (slip : Bool)
    (d : Device) : (startedCycle number st miss slip d).timer.cycle = number := by
  rw [startedCycle_exact]

/-- The events of a cycle's start from a CYCLE frame (R84). -/
def frameEvents (t : Timer) (number : Cycle) : List Event :=
  (if t.state ≠ .locked then [trunkEvent .cycleLocked number t.miss] else []) ++
    (if t.slips number then [trunkEvent .cycleSlip number (t.cycle + 1).toNat] else [])

theorem frameEvents_length (t : Timer) (number : Cycle) : (frameEvents t number).length ≤ 2 := by
  have first := length_if_le (t.state ≠ .locked) (trunkEvent .cycleLocked number t.miss)
  have second := length_if_le (t.slips number = true)
    (trunkEvent .cycleSlip number (t.cycle + 1).toNat)
  unfold frameEvents
  rw [List.length_append]
  omega

/-- The events of a start from a CYCLE frame at the end of its event, the commit's last. -/
theorem frameStart_raised {number : Cycle} {act : ChangeAct} {last : List Event}
    (asked : d.unasked) (room : d.endpoint.events.length ≤ 30)
    (acts : (startTimer number .locked 0 d).changeAct (d.timer.slips number) = act)
    (commits : ∀ x, Raised (frameEvents d.timer number)
      (startedCycle number .locked 0 (d.timer.slips number) d) x →
      x.change = (startedCycle number .locked 0 (d.timer.slips number) d).change →
      Raised last x (raiseCommit act x)) :
    (settle (frameStart number d)).endpoint.events =
      d.endpoint.events ++ (frameEvents d.timer number ++ last) := by
  have started := startedCycle_writes number .locked 0 (d.timer.slips number) d
  have cycle := startedCycle_cycle number .locked 0 (d.timer.slips number) d
  have events := raiseFrameEvents_raised d.timer (d.timer.slips number)
    (d := startedCycle number .locked 0 (d.timer.slips number) d) (by rw [started.endpoint]; exact room)
  rw [cycle] at events
  have all := events.trans ((commits _ events (raiseFrameEvents_writes ..).change).trans
    (handOut_raised _))
  rw [List.append_nil, ← acts] at all
  have ends := all.trans (settle_raised (all.unasked (started.unasked asked)))
  rw [List.append_nil, ← frameStart_eq] at ends
  rw [ends.events, started.endpoint]
  rfl

/-- The part at a local start, before its events (R80, R81). -/
def localCycle (d : Device) : Device :=
  startedCycle (d.timer.cycle + 1) (if d.timer.state = .free then .free else .coasting)
    (min (d.timer.miss + 1) 65535) false d

/-- What a local start does to the armed commit. -/
def localAct (d : Device) : ChangeAct :=
  (startTimer (d.timer.cycle + 1) (if d.timer.state = .free then .free else .coasting)
    (min (d.timer.miss + 1) 65535) d).changeAct false

/-- The events of a local start at the end of its event, the commit's last. -/
theorem localStart_raised {added last : List Event} (asked : d.unasked)
    (events : Raised added (localCycle d) (startedLocal d))
    (commits : Raised last (startedLocal d) (raiseCommit (localAct d) (startedLocal d))) :
    (settle (localStart d)).endpoint.events = d.endpoint.events ++ (added ++ last) := by
  have started := startedCycle_writes (d.timer.cycle + 1)
    (if d.timer.state = .free then .free else .coasting) (min (d.timer.miss + 1) 65535) false d
  have all := events.trans (commits.trans (handOut_raised _))
  rw [List.append_nil] at all
  have ends := all.trans (settle_raised (all.unasked (started.unasked asked)))
  rw [List.append_nil] at ends
  have start : localStart d = handOut (raiseCommit (localAct d) (startedLocal d)) := localStart_eq d
  have before : (localCycle d).endpoint = d.endpoint := started.endpoint
  rw [start, ends.events, before]

theorem localCycle_timer (d : Device) : (localCycle d).timer =
    { state := if d.timer.state = .free then .free else .coasting, cycle := d.timer.cycle + 1,
      miss := min (d.timer.miss + 1) 65535, lastStart := some d.now,
      expiry := some (expiryOf (if d.timer.state = .free then .free else .coasting) d.now
        (localCycle d).tables.device) } := startedCycle_exact ..

theorem localCycle_events (d : Device) : (localCycle d).endpoint = d.endpoint :=
  (startedCycle_writes ..).endpoint

/-- Where no commit acts a local cycle starts under the tables in force. -/
theorem localCycle_tables (calm : localAct d = .nothing) : (localCycle d).tables = d.tables := by
  unfold localCycle
  rw [startedCycle_calm calm]
  rfl

/-- The events of a start from a CYCLE frame where no commit acts (R84). -/
theorem frameStart_events {number : Cycle} (asked : d.unasked)
    (room : d.endpoint.events.length ≤ 30) (calm : d.change.state ≠ .armed) :
    (settle (frameStart number d)).endpoint.events = d.endpoint.events ++
      (if d.timer.state ≠ .locked then [trunkEvent .cycleLocked number d.timer.miss] else []) ++
      (if d.timer.state ≠ .unlocked ∧ number ≠ d.timer.cycle + 1 then
        [trunkEvent .cycleSlip number (d.timer.cycle + 1).toNat] else []) := by
  have ends := frameStart_raised (number := number) (act := .nothing) (last := []) asked room
    (changeAct_calm calm) fun x _ _ => .refl x
  rw [ends, List.append_nil, List.append_assoc]
  refine congrArg (d.endpoint.events ++ ·) (congrArg₂ (· ++ ·) rfl ?_)
  exact if_congr (slips_iff ..) rfl rfl

/-- The events of a local start where no commit acts (R84). -/
theorem localStart_events (asked : d.unasked) (room : d.endpoint.events.length ≤ 30)
    (calm : d.change.state ≠ .armed) :
    (settle (localStart d)).endpoint.events = d.endpoint.events ++
      (if d.timer.state = .locked then [trunkEvent .cycleCoasting (d.timer.cycle + 1) 0] else []) ++
      (if d.timer.state ≠ .free ∧ d.tables.device.n ≤ min (d.timer.miss + 1) 65535 then
        [trunkEvent .cycleFree (d.timer.cycle + 1) d.tables.device.n] else []) := by
  have act : localAct d = .nothing := changeAct_calm calm
  have events := raiseLocalEvents_raised (d.timer.state = .locked) d.tables.device.n
    (d := localCycle d) (by rw [localCycle_events]; exact room)
  have ends := localStart_raised (last := []) asked events (by
    rw [act]
    exact .refl _)
  rw [ends, List.append_nil, localCycle_timer, localCycle_tables act, List.append_assoc]
  refine congrArg (d.endpoint.events ++ ·) (congrArg₂ (· ++ ·) ?_ ?_)
  · exact if_congr decide_eq_true_iff rfl rfl
  · refine if_congr ?_ rfl rfl
    dsimp only
    by_cases free : d.timer.state = .free
    · simp [free]
    · simp [free]

/-- Settles O22. -/
theorem cycleEventsJoinInOrder : Obligations.CycleEventsJoinInOrder := by
  intro s runs ready consistent calm room event next n
  have asked : s.dev.unasked := ⟨ready.2.1, ready.2.2.1⟩
  have local_ : ∀ due, (settle (localStart { s.dev with now := due })).endpoint.events = _ :=
    fun due => localStart_events (d := { s.dev with now := due }) asked room calm
  refine ⟨fun now number accepts => ?_, fun locked => ?_, fun coasts => ?_⟩
  · refine ⟨_, exec_frameStart runs accepts, ?_⟩
    have arrived := arrived_writes s.dev now (trunkCycle number)
    have ends := frameStart_events (d := s.dev.arrived now (trunkCycle number)) (number := number)
      (arrived.unasked asked) (by rw [arrived.endpoint]; exact room)
      (by rw [arrived.change]; exact calm)
    rw [arrived.endpoint, arrived.timer] at ends
    generalize settle (frameStart number (s.dev.arrived now (trunkCycle number))) = t at ends ⊢
    dsimp only at ends ⊢
    rw [ends]
    rfl
  · obtain ⟨miss, early, due, window⟩ := locked_of_consistent consistent locked
    refine ⟨_, exec_lockWindow runs window, ?_⟩
    have ends := local_ due
    generalize settle (localStart { s.dev with now := due }) = t at ends ⊢
    dsimp only at ends
    rw [locked, miss] at ends
    simpa [trunkEvent, event, next, n] using ends
  · obtain ⟨due, pending⟩ := (local_of_consistent consistent).2 coasts
    refine ⟨_, exec_localCycle runs pending, ?_⟩
    have ends := local_ due
    generalize settle (localStart { s.dev with now := due }) = t at ends ⊢
    dsimp only at ends
    rcases coasts with coasting | free
    · rw [coasting] at ends
      simpa [trunkEvent, event, next, n, coasting] using ends
    · rw [free] at ends
      simpa [trunkEvent, event, next, n, free] using ends

end Sys2Proof.Machine

/-! Armed commits that a cycle start abandons, leaves armed, or applies. -/

namespace Sys2Proof.Machine

open Device (Writes Raised)

variable {d d' : Device}

/- ### What a start leaves to the end of its event -/

set_option Elab.async false in
theorem raiseEvent_unasked (kind : EventKind) (line : Option Line) (station : Option Nat)
    (detail : Nat) (h : d.unasked) : (raiseEvent kind line station detail d).unasked := by
  obtain ⟨added, raised, -⟩ := raiseEvent_kind kind line station detail d
  exact raised.unasked h

theorem raiseCommit_unasked (act : ChangeAct) (h : d.unasked) : (raiseCommit act d).unasked := by
  cases act with
  | nothing => exact h
  | applies => exact raiseEvent_unasked _ _ _ _ h
  | abandons target => exact raiseEvent_unasked _ _ _ _ h

theorem raiseFrameEvents_unasked (old : Timer) (slip : Bool) (h : d.unasked) :
    (raiseFrameEvents old slip d).unasked := by
  have first : (if old.state ≠ .locked then
      raiseEvent .cycleLocked (some .t) none old.miss d else d).unasked := by
    split
    · exact raiseEvent_unasked _ _ _ _ h
    · exact h
  unfold raiseFrameEvents
  dsimp only
  split
  · exact raiseEvent_unasked _ _ _ _ first
  · exact first

theorem frameStart_unasked (number : Cycle) (h : d.unasked) : (frameStart number d).unasked := by
  rw [frameStart_eq]
  exact (handOut_writes _).unasked (raiseCommit_unasked _ (raiseFrameEvents_unasked _ _
    ((startedCycle_writes ..).unasked h)))

theorem localStart_unasked (h : d.unasked) : (localStart d).unasked := by
  obtain ⟨added, raised, -⟩ := raiseLocalEvents_kinds (d.timer.state = .locked) d.tables.device.n
    (localCycle d)
  have started : (localCycle d).unasked := (startedCycle_writes ..).unasked h
  rw [localStart_eq]
  exact (handOut_writes _).unasked (raiseCommit_unasked _ (raised.unasked started))

/-- The change state and the tables at the end of the event are those the commit has left. -/
theorem frameStart_change (number : Cycle) (h : d.unasked) :
    let started := startedCycle number .locked 0 (d.timer.slips number) d
    (settle (frameStart number d)).change = started.change ∧
      (settle (frameStart number d)).tables = started.tables := by
  intro started
  have written : Writes (.endpoint :: handOutFields) started (frameStart number d) := by
    rw [frameStart_eq]
    exact ((raiseFrameEvents_writes ..).mono.andThen (raiseCommit_writes ..)).andThen
      (handOut_writes _)
  have settled := settle_unasked_writes (frameStart_unasked number h)
  exact ⟨settled.change.trans written.change, settled.tables.trans written.tables⟩

theorem localStart_change (h : d.unasked) :
    (settle (localStart d)).change = (localCycle d).change ∧
      (settle (localStart d)).tables = (localCycle d).tables := by
  have written : Writes (.endpoint :: .timer :: handOutFields) (localCycle d) (localStart d) := by
    rw [localStart_eq]
    exact ((raiseLocalEvents_writes ..).mono.andThen (raiseCommit_writes ..)).andThen
      (handOut_writes _)
  have settled := settle_unasked_writes (localStart_unasked h)
  exact ⟨settled.change.trans written.change, settled.tables.trans written.tables⟩

/- ### A slip (R168) -/

/-- A slip abandons an armed commit, and its event comes last. -/
theorem frameStart_slips {number target : Cycle} (asked : d.unasked)
    (slips : d.timer.slips number = true) (armed : d.change.state = .armed)
    (aims : d.change.target = some target) (room : d.endpoint.events.length ≤ 29) :
    (settle (frameStart number d)).change = d.change.abandoned ∧
    (settle (frameStart number d)).tables = d.tables ∧
    (settle (frameStart number d)).endpoint.events = d.endpoint.events ++
      (frameEvents d.timer number ++
        [{ kind := .commitAbandoned, cycle := number, line := none, station := none,
           detail := target.toNat }]) := by
  have acts : (startTimer number .locked 0 d).changeAct (d.timer.slips number) =
      .abandons target := by
    rw [slips]
    exact changeAct_slips armed aims
  have started : startedCycle number .locked 0 (d.timer.slips number) d =
      setExpiry (actOnCommit (.abandons target) (startTimer number .locked 0 d)) := by
    unfold startedCycle
    dsimp only
    rw [acts]
  obtain ⟨change, tables⟩ := frameStart_change number asked
  refine ⟨change.trans ?_, tables.trans ?_, frameStart_raised asked (by omega) acts fun x raised _ => ?_⟩
  · rw [started]
    rfl
  · rw [started]
    rfl
  · have few := frameEvents_length d.timer number
    have length : x.endpoint.events.length < 32 := by
      rw [raised.events, (startedCycle_writes ..).endpoint, List.length_append]
      omega
    have last := raiseEvent_raised .commitAbandoned none none target.toNat length
    have cycle : x.timer.cycle = number := raised.cycle.trans (startedCycle_cycle ..)
    unfold Device.eventNow at last
    rw [cycle] at last
    exact last

/- ### Local starts (R83, R168) -/

theorem changeAct_on_time (d : Device) :
    d.changeAct false = .nothing ∨ d.changeAct false = .applies := by
  unfold Device.changeAct
  split
  next target _ _ =>
    rw [if_neg Bool.false_ne_true]
    by_cases meets : target = d.timer.cycle
    · exact .inr (if_pos meets)
    · exact .inl (if_neg meets)
  next => exact .inl rfl

theorem localAct_cases (d : Device) : localAct d = .nothing ∨ localAct d = .applies :=
  changeAct_on_time _

theorem localAct_misses (h : d.change.target ≠ some (d.timer.cycle + 1)) : localAct d = .nothing :=
  changeAct_misses (d := startTimer _ _ _ d) h

/-- A local start abandons no commit. -/
theorem localStart_abandons_none (asked : d.unasked) :
    ∃ added, (settle (localStart d)).endpoint.events = d.endpoint.events ++ added ∧
      ∀ e ∈ added, e.kind ≠ .commitAbandoned := by
  obtain ⟨xs, first, kinds⟩ := raiseLocalEvents_kinds (d.timer.state = .locked) d.tables.device.n
    (localCycle d)
  obtain ⟨ys, second, applied⟩ : ∃ ys,
      Raised ys (startedLocal d) (raiseCommit (localAct d) (startedLocal d)) ∧
        ∀ e ∈ ys, e.kind = .commitApplied := by
    rcases localAct_cases d with act | act
    · rw [act]
      exact ⟨[], .refl _, fun _ mem => nomatch mem⟩
    · rw [act]
      exact raiseEvent_kind ..
  refine ⟨xs ++ ys, localStart_raised asked first second, fun e mem => ?_⟩
  rcases List.mem_append.1 mem with here | here
  · rcases kinds e here with kind | kind <;> rw [kind] <;> decide
  · rw [applied e here]
    decide

set_option Elab.async false in
/-- A local start whose number is not the target leaves the commit and the tables. -/
theorem localStart_misses (asked : d.unasked)
    (h : d.change.target ≠ some (d.timer.cycle + 1)) :
    (settle (localStart d)).change = d.change ∧ (settle (localStart d)).tables = d.tables := by
  obtain ⟨change, tables⟩ := localStart_change asked
  have started : localCycle d = setExpiry (startTimer _ _ _ d) :=
    startedCycle_calm (localAct_misses h)
  rw [change, tables, started]
  exact ⟨rfl, rfl⟩

/-- Settles O24. -/
theorem slipAbandonsTheArmedCommit : Obligations.SlipAbandonsTheArmedCommit := by
  constructor
  · intro now n target s runs ready accepts started slip armed aims room
    have arrived := arrived_writes s.dev now (trunkCycle n)
    have ends := frameStart_slips (d := s.dev.arrived now (trunkCycle n)) (number := n)
      (target := target) (arrived.unasked ⟨ready.2.1, ready.2.2.1⟩)
      (by rw [arrived.timer]; exact (slips_iff ..).2 ⟨started, slip⟩)
      (by rw [arrived.change]; exact armed) (by rw [arrived.change]; exact aims)
      (by rw [arrived.endpoint]; exact room)
    have exec_ := exec_frameStart runs accepts (n := n)
    generalize settle (frameStart n (s.dev.arrived now (trunkCycle n))) = t at ends exec_
    rw [arrived.change, arrived.tables, arrived.endpoint, arrived.timer] at ends
    obtain ⟨change, tables, events⟩ := ends
    refine ⟨_, frameEvents s.dev.timer n, exec_, change, tables, ?_⟩
    rw [← List.append_assoc] at events
    exact events
  · intro s runs ready consistent armed stays
    have local_ : ∀ due, stays { s with dev := settle (localStart { s.dev with now := due }) } :=
      fun due => by
        have none := localStart_abandons_none (d := { s.dev with now := due })
          ⟨ready.2.1, ready.2.2.1⟩
        have misses := localStart_misses (d := { s.dev with now := due })
          ⟨ready.2.1, ready.2.2.1⟩
        generalize settle (localStart { s.dev with now := due }) = t at none misses ⊢
        exact ⟨none, misses⟩
    refine ⟨fun locked => ?_, fun coasts => ?_⟩
    · obtain ⟨-, early, due, window⟩ := locked_of_consistent consistent locked
      exact ⟨{ s with dev := settle (localStart { s.dev with now := due }) },
        exec_lockWindow runs window, local_ due⟩
    · obtain ⟨due, pending⟩ := (local_of_consistent consistent).2 coasts
      exact ⟨{ s with dev := settle (localStart { s.dev with now := due }) },
        exec_localCycle runs pending, local_ due⟩

end Sys2Proof.Machine

/-! An armed commit that a cycle start applies: the tables, the Change Unit and the events. -/

namespace Sys2Proof.Machine

open Device (Writes Raised)

variable {d d' : Device}

/- ### The application at a start (R76, R102, R166) -/

set_option Elab.async false in
theorem applyList_inForce (d : Device) :
    (applyList d).tables = d.tables.withList d.change.list ∧
      (applyList d).change = d.change.applied :=
  ⟨(applyList_effects_write d).tables, (applyList_effects_write d).change⟩

/-- Whichever of lateness and the application is taken first, the list is in force (R102). -/
theorem applyAtStart_inForce (d : Device) :
    (applyAtStart d).tables = d.tables.withList d.change.list ∧
      (applyAtStart d).change = d.change.applied := by
  unfold applyAtStart
  dsimp only
  split
  · split
    · have late := discardLate_writes { d with choices := d.choices + 1 }
      have applied := applyList_inForce (discardLate { d with choices := d.choices + 1 })
      rw [late.tables, late.change] at applied
      exact applied
    · exact applyList_inForce { d with choices := d.choices + 1 }
  · exact applyList_inForce d

theorem startedCycle_applies {number : Cycle} {st : TimerState} {miss : Nat} {slip : Bool}
    (acts : (startTimer number st miss d).changeAct slip = .applies) :
    (startedCycle number st miss slip d).tables = d.tables.withList d.change.list ∧
      (startedCycle number st miss slip d).change = d.change.applied := by
  unfold startedCycle
  dsimp only
  rw [acts]
  exact applyAtStart_inForce (startTimer number st miss d)

/-- COMMIT_APPLIED, with the generation that the application has left (R166, R175). -/
theorem raiseCommit_applied {x : Device} {number : Cycle} {generation : BitVec 16}
    (room : x.endpoint.events.length < 32) (cycle : x.timer.cycle = number)
    (gen : x.change.generation = generation) :
    Raised [{ kind := .commitApplied, cycle := number, line := none, station := none,
              detail := generation.toNat }] x (raiseCommit .applies x) := by
  have last := raiseEvent_raised .commitApplied none none x.change.generation.toNat room
  unfold Device.eventNow at last
  rw [cycle, gen] at last
  unfold raiseCommit
  dsimp only
  rw [gen]
  exact last

/-- A start from a CYCLE frame that is no slip and carries the target applies the commit. -/
theorem frameStart_applies (asked : d.unasked) (armed : d.change.state = .armed)
    (aims : d.change.target = some (d.timer.cycle + 1)) (room : d.endpoint.events.length ≤ 29) :
    (settle (frameStart (d.timer.cycle + 1) d)).tables = d.tables.withList d.change.list ∧
    (settle (frameStart (d.timer.cycle + 1) d)).change = d.change.applied ∧
    ∃ before, (settle (frameStart (d.timer.cycle + 1) d)).endpoint.events = d.endpoint.events ++
      (before ++ [{ kind := .commitApplied, cycle := d.timer.cycle + 1, line := none,
                    station := none, detail := (d.change.generation + 1).toNat }]) := by
  have steady : d.timer.slips (d.timer.cycle + 1) = false := by
    rw [← Bool.not_eq_true, slips_iff]
    exact fun h => h.2 rfl
  have acts : (startTimer (d.timer.cycle + 1) .locked 0 d).changeAct
      (d.timer.slips (d.timer.cycle + 1)) = .applies := by
    rw [steady]
    exact changeAct_meets (d := startTimer (d.timer.cycle + 1) .locked 0 d) armed aims
  obtain ⟨tables, change⟩ := startedCycle_applies acts
  obtain ⟨change', tables'⟩ := frameStart_change (d.timer.cycle + 1) asked
  refine ⟨tables'.trans tables, change'.trans change, frameEvents d.timer (d.timer.cycle + 1),
    frameStart_raised asked (by omega) acts fun x raised same => ?_⟩
  have few := frameEvents_length d.timer (d.timer.cycle + 1)
  refine raiseCommit_applied ?_ (raised.cycle.trans (startedCycle_cycle ..)) ?_
  · rw [raised.events, (startedCycle_writes ..).endpoint, List.length_append]
    omega
  · rw [same, change]
    rfl

/-- A local start whose number is the target applies the commit. -/
theorem localStart_applies (asked : d.unasked) (armed : d.change.state = .armed)
    (aims : d.change.target = some (d.timer.cycle + 1)) (room : d.endpoint.events.length ≤ 29) :
    (settle (localStart d)).tables = d.tables.withList d.change.list ∧
    (settle (localStart d)).change = d.change.applied ∧
    ∃ before, (settle (localStart d)).endpoint.events = d.endpoint.events ++
      (before ++ [{ kind := .commitApplied, cycle := d.timer.cycle + 1, line := none,
                    station := none, detail := (d.change.generation + 1).toNat }]) := by
  have acts : localAct d = .applies := changeAct_meets (d := startTimer _ _ _ d) armed aims
  obtain ⟨tables, change⟩ := startedCycle_applies (d := d) acts
  obtain ⟨change', tables'⟩ := localStart_change asked
  have events := raiseLocalEvents_raised (d.timer.state = .locked) d.tables.device.n
    (d := localCycle d) (by rw [localCycle_events]; omega)
  refine ⟨tables'.trans tables, change'.trans change, _,
    localStart_raised asked events (acts ▸ ?_)⟩
  have first := length_if_le (decide (d.timer.state = .locked) = true)
    (trunkEvent .cycleCoasting (localCycle d).timer.cycle 0)
  have second := length_if_le ((localCycle d).timer.state = .coasting ∧
      d.tables.device.n ≤ (localCycle d).timer.miss ∧
      (localCycle d).tables.device.n ≤ (localCycle d).timer.miss)
    (trunkEvent .cycleFree (localCycle d).timer.cycle (localCycle d).tables.device.n)
  refine raiseCommit_applied ?_ ?_ ?_
  · refine Eq.trans_lt (congrArg List.length events.events) ?_
    rw [localCycle_events, List.length_append, List.length_append]
    omega
  · exact events.cycle.trans (startedCycle_cycle ..)
  · refine Eq.trans (b := (localCycle d).change.generation) ?_ ?_
    · exact congrArg Change.generation (raiseLocalEvents_writes ..).change
    · exact congrArg Change.generation change

end Sys2Proof.Machine

/-! A cycle start's hand-out: what it does at each branch. -/

namespace Sys2Proof.Machine

open Device (Writes)

variable {d d' : Device} {k j : Branch}

/- ### Work elsewhere -/

/-- What a branch's cycle start is about is the same in both parts: the sequencer, the admission state,
the tables and the two counters that it raises; and no flag "serviced this cycle" has been set. -/
structure Device.Elsewhere (k : Branch) (d d' : Device) : Prop where
  seq : d'.seq k = d.seq k
  admission : d'.admission k = d.admission k
  tables : d'.tables = d.tables
  count (c : LineCounter) : c = .cyclesBegun ∨ c = .overrun →
    d'.lineCount k.line c = d.lineCount k.line c
  serviced (st : Nat) : (d.station k st).serviced = false → (d'.station k st).serviced = false

open Device (Elsewhere)

set_option Elab.async false in
theorem Device.Elsewhere.refl (k : Branch) (d : Device) : Elsewhere k d d :=
  ⟨rfl, rfl, rfl, fun _ _ => rfl, fun _ => id⟩

theorem Device.Elsewhere.trans {d'' : Device} (h : Elsewhere k d d') (g : Elsewhere k d' d'') :
    Elsewhere k d d'' :=
  ⟨g.seq.trans h.seq, g.admission.trans h.admission, g.tables.trans h.tables,
    fun c hc => (g.count c hc).trans (h.count c hc), fun st hs => g.serviced st (h.serviced st hs)⟩

theorem Device.Elsewhere.foldl {α : Type} {f : Device → α → Device}
    (h : ∀ d x, Elsewhere k d (f d x)) (xs : List α) (d : Device) :
    Elsewhere k d (xs.foldl f d) :=
  List.foldlRecOn (motive := Elsewhere k d) xs f (.refl k d) fun x hx a _ => hx.trans (h x a)

theorem Device.Elsewhere.of_writes {fs : List Field} (w : Writes fs d d') (k : Branch)
    (free : .seqs ∉ fs ∧ .branchAdm ∉ fs ∧ .tables ∉ fs ∧ .lines ∉ fs ∧ .stations ∉ fs := by decide) :
    Elsewhere k d d' := by
  obtain ⟨seqs, branchAdm, tables, lines, stations⟩ := free
  refine ⟨congrArg (PerBranch.get · k) (w.seqs seqs),
    congrArg (PerBranch.get · k) (w.branchAdm branchAdm), w.tables tables, fun c _ => ?_,
    fun st h => ?_⟩
  · exact congrArg (fun l : PerLine LineIf => (l.get k.line).counters.get 0 c.pos) (w.lines lines)
  · unfold Device.station at h ⊢
    rw [w.stations stations]
    exact h

theorem bumpLine_elsewhere (k : Branch) {l : Line} {c : LineCounter}
    (h : l ≠ k.line ∨ c ≠ .cyclesBegun ∧ c ≠ .overrun) (d : Device) :
    Elsewhere k d (d.bumpLine l c) := by
  refine ⟨rfl, rfl, rfl, fun e he => ?_, fun _ => id⟩
  refine (lineCount_bumpLineBy ..).trans (if_neg ?_)
  rintro ⟨line, rfl⟩
  rcases h with apart | ⟨begun, overrun⟩
  · exact apart line.symm
  · exact he.elim begun overrun

theorem setSeq_elsewhere (h : j ≠ k) (q : Sequencer) (d : Device) :
    Elsewhere k d (d.setSeq j q) :=
  ⟨seq_setSeq_of_ne d q h.symm, rfl, rfl, fun _ _ => rfl, fun _ => id⟩

theorem setStation_elsewhere (k : Branch) (s : Nat) {x : Station}
    (h : (d.station j s).serviced = false → x.serviced = false) :
    Elsewhere k d (d.setStation j s x) := by
  refine ⟨rfl, rfl, rfl, fun _ _ => rfl, fun st unserviced => ?_⟩
  rw [station_setStation]
  split
  next same =>
    refine h ?_
    unfold Device.station at unserviced ⊢
    rw [← same]
    exact unserviced
  next => exact unserviced

theorem bumpStation_elsewhere (k : Branch) (s : Nat) (c : StationCounter) (d : Device) :
    Elsewhere k d (d.bumpStation j s c) := setStation_elsewhere k s id

theorem clearServiced_elsewhere (k j : Branch) (d : Device) : Elsewhere k d (clearServiced j d) :=
  .foldl (fun _ s => setStation_elsewhere k s fun _ => rfl) _ d

/-- An element of another branch that is missed (R107). -/
theorem missElement_elsewhere (h : j ≠ k) (d : Device) (e : Element) :
    Elsewhere k d (missElement j d e) :=
  ((setSeq_elsewhere h _ d).trans (bumpLine_elsewhere k (.inr (by decide)) _)).trans
    (bumpStation_elsewhere k _ _ _)

theorem line_ne (h : j ≠ k) : j.line ≠ k.line := fun same => h (line_inj same)

/-- A cycle start at one branch leaves another (R107, R108). -/
theorem branchCycleStart_elsewhere (h : j ≠ k) (cycle : Cycle) (deadline : Nat) (d : Device) :
    Elsewhere k d (branchCycleStart cycle deadline d j) := by
  unfold branchCycleStart
  split
  · split
    · exact ((((Elsewhere.foldl (missElement_elsewhere h) _ d).trans
        (clearServiced_elsewhere k j _)).trans (setSeq_elsewhere h _ _)).trans
        (bumpLine_elsewhere k (.inl (line_ne h)) _)).trans (setSeq_elsewhere h _ _)
    · exact (setSeq_elsewhere h _ d).trans (bumpLine_elsewhere k (.inl (line_ne h)) _)
  · exact .refl k d

/- ### The other owners of per-cycle work (R76) -/

set_option Elab.async false in
theorem dropFrame_elsewhere (k : Branch) {l : Line} {r : Reason}
    (h : l ≠ k.line ∨ r.lineCounter ≠ .cyclesBegun ∧ r.lineCounter ≠ .overrun) (ref : Nat)
    (d : Device) : Elsewhere k d (d.dropFrame l ref r) := by
  have w := dropFrame_writes d l ref r
  refine ⟨congrArg (PerBranch.get · k) w.seqs, congrArg (PerBranch.get · k) w.branchAdm, w.tables,
    fun c hc => ?_, fun st h => ?_⟩
  · refine (lineCount_dropFrame ..).trans (if_neg ?_)
    rintro ⟨line, rfl⟩
    rcases h with apart | ⟨begun, overrun⟩
    · exact apart line.symm
    · exact hc.elim begun overrun
  · unfold Device.station at h ⊢
    rw [w.stations]
    exact h

theorem discardLate_elsewhere (k : Branch) (d : Device) : Elsewhere k d (discardLate d) := by
  refine .foldl (fun d x => ?_) _ d
  exact Elsewhere.trans (d' := { d with slots := d.slots.erase x.1 })
    ⟨rfl, rfl, rfl, fun _ _ => rfl, fun _ => id⟩ (dropFrame_elsewhere k (r := .late) (.inr (by decide)) _ _)

theorem ageContexts_elsewhere (k : Branch) (d : Device) : Elsewhere k d (ageContexts d) := by
  refine .foldl (fun d c => ?_) _ d
  have released : Elsewhere k d { d with
      contexts := d.contexts.filter fun x => !(x.branch == c.branch && x.station == c.station),
      pool := d.pool.giveBack c.blocks c.branch.line } :=
    ⟨rfl, rfl, rfl, fun _ _ => rfl, fun _ => id⟩
  exact released.trans (bumpLine_elsewhere k (c := .timeout) (.inr (by decide)) _)

theorem countDownProbes_elsewhere (k : Branch) (d : Device) :
    Elsewhere k d (countDownProbes d) := by
  refine .foldl (fun d j => ?_) _ d
  split
  · refine .foldl (fun d s => ?_) _ d
    unfold countDownStation
    dsimp only
    split
    · exact setStation_elsewhere k s id
    · exact .refl k d
  · exact .refl k d

/-- The part that a cycle start's branches find (R76). -/
def readied (d : Device) : Device :=
  countDownProbes (ageContexts (discardLate (refillMeters d)))

theorem readied_elsewhere (k : Branch) (d : Device) : Elsewhere k d (readied d) :=
  (((Elsewhere.of_writes (refillMeters_writes d) k).trans (discardLate_elsewhere k _)).trans
    (ageContexts_elsewhere k _)).trans (countDownProbes_elsewhere k _)

theorem readied_writes (d : Device) :
    Writes [.meters, .lines, .circuitCounters, .pool, .slots, .contexts, .stations] d (readied d) :=
  (((refillMeters_writes d).mono.andThen (discardLate_writes _)).andThen
    (ageContexts_writes _)).andThen (countDownProbes_writes _)

theorem handOut_eq (d : Device) : handOut d =
    Branch.all.foldl (branchCycleStart d.timer.cycle (d.now + d.tables.device.d * 1000 -
      d.tables.device.g * 1000)) (readied d) := by
  have w := readied_writes d
  unfold handOut
  dsimp only
  rw [show countDownProbes (ageContexts (discardLate (refillMeters d))) = readied d from rfl]
  unfold Device.cycleDeadline us
  rw [w.timer, w.now, w.tables]

/-- A branch sees the one start that is its own: what it finds, and what is left of it, differ from
the given parts elsewhere alone. -/
theorem handOut_at (k : Branch) (d : Device) : ∃ x, Elsewhere k d x ∧ x.now = d.now ∧
    Elsewhere k (branchCycleStart d.timer.cycle (d.now + d.tables.device.d * 1000 -
      d.tables.device.g * 1000) x k) (handOut d) := by
  rw [handOut_eq]
  generalize hf : branchCycleStart d.timer.cycle (d.now + d.tables.device.d * 1000 -
      d.tables.device.g * 1000) = f
  have others (ks : List Branch) (fresh : k ∉ ks) (y : Device) : Elsewhere k y (ks.foldl f y) :=
    List.foldlRecOn (motive := Elsewhere k y) ks f (.refl k y) fun x hx j mem =>
      hx.trans (hf ▸ branchCycleStart_elsewhere (fun same : j = k => fresh (same ▸ mem)) _ _ x)
  have now (ks : List Branch) (y : Device) : (ks.foldl f y).now = y.now :=
    List.foldlRecOn (motive := fun x : Device => x.now = y.now) ks f rfl fun x hx j _ =>
      (hf ▸ (branchCycleStart_writes x j _ _).now).trans hx
  obtain ⟨before, after, split⟩ := List.append_of_mem (show k ∈ Branch.all by cases k <;> decide)
  have nodup : (before ++ k :: after).Nodup := by
    rw [← split]
    decide
  have fresh := (List.nodup_cons.1 (List.perm_middle.nodup_iff.1 nodup)).1
  rw [split, List.foldl_append, List.foldl_cons]
  exact ⟨before.foldl f (readied d),
    (readied_elsewhere k d).trans (others before (fun h => fresh (List.mem_append_left _ h)) _),
    (now before _).trans (readied_writes d).now,
    others after (fun h => fresh (List.mem_append_right _ h)) _⟩

/- ### The start at an OPEN branch (R107, R108) -/

theorem missElements_seq (k : Branch) (es : List Element) (d : Device) :
    ∃ list, (es.foldl (missElement k) d).seq k = { d.seq k with list := list } := by
  refine List.foldlRecOn (motive := fun x : Device => ∃ list, x.seq k = { d.seq k with list := list })
    es _ ⟨_, rfl⟩ fun x hx e _ => ?_
  obtain ⟨list, same⟩ := hx
  have marked : (missElement k x e).seq k = { x.seq k with list := (x.seq k).list.map fun e' =>
      if e'.index = e.index then { e' with status := .missed } else e' } := seq_setSeq_self x k _
  exact ⟨_, marked.trans (by rw [same])⟩

theorem missElement_count (k : Branch) (d : Device) (e : Element) {c : LineCounter}
    (h : c ≠ .missed) : (missElement k d e).lineCount k.line c = d.lineCount k.line c :=
  (lineCount_bumpLineBy (setElement k e.index .missed d) k.line k.line .missed c 1).trans
    (if_neg fun both => h both.2)

theorem missElements_count (k : Branch) (es : List Element) (d : Device) {c : LineCounter}
    (h : c ≠ .missed) : (es.foldl (missElement k) d).lineCount k.line c = d.lineCount k.line c :=
  List.foldlRecOn (motive := fun x : Device => x.lineCount k.line c = d.lineCount k.line c)
    es _ rfl fun x hx e _ => (missElement_count k x e h).trans hx

theorem missElements_writes (k : Branch) (es : List Element) (d : Device) :
    Writes [.seqs, .lines, .stations] d (es.foldl (missElement k) d) :=
  .foldl (fun d e => missElement_writes d k e) es d

set_option Elab.async false in
/-- The flags "serviced this cycle" of the branch's stations are cleared (R107). -/
theorem clearServiced_serviced (k : Branch) (d : Device) {st : Nat} (h : 1 ≤ st ∧ st ≤ 30) :
    ((clearServiced k d).station k st).serviced = false := by
  have mem : st ∈ stationAddresses := List.mem_range'_1.2 (by omega)
  obtain ⟨before, after, split⟩ := List.append_of_mem mem
  unfold clearServiced
  rw [split, List.foldl_append, List.foldl_cons]
  refine List.foldlRecOn (motive := fun x : Device => (x.station k st).serviced = false) after _
    ?_ fun x hx s _ => ?_
  · rw [station_setStation_self]
  · exact (setStation_elsewhere (d := x) (j := k) k s fun _ => rfl).serviced st hx

/-- The bytes of the branch's CYCLE frame (R107). -/
theorem cycleFrame_wire (cycle : Cycle) : (cycleFrame cycle).wire =
    sealHeader ([0x10, 0x00, 0x00] ++ be2 cycle.toNat ++ [0x00]) := List.append_nil _

/-- A branch's CYCLE frame goes out (R107). -/
theorem sendCycle_seq (x : Device) (q : Sequencer) (cycle : Cycle) :
    (sendBranch k .cycle (cycleFrame cycle) ((x.setSeq k q).bumpLine k.line .cyclesBegun)).seq k =
      { q with
        sending := some
          { role := .cycle, starts := x.now, ends := x.now + 7 * (x.settings k.line).byteTime,
            wire := (cycleFrame cycle).wire } } := by
  have begun : ((x.setSeq k q).bumpLine k.line .cyclesBegun).seq k = q := seq_setSeq_self x k q
  rw [sendBranch_eq, seq_setSeq_self, begun]
  rfl

theorem lineCount_sendBranch (k : Branch) (role : TxRole) (f : BranchFrame) (d : Device) (l : Line)
    (c : LineCounter) : (sendBranch k role f d).lineCount l c = d.lineCount l c := rfl

theorem lineCount_setSeq (d : Device) (k : Branch) (q : Sequencer) (l : Line) (c : LineCounter) :
    (d.setSeq k q).lineCount l c = d.lineCount l c := rfl

theorem station_sendCycle (x : Device) (q : Sequencer) (cycle : Cycle) (st : Nat) :
    (sendBranch k .cycle (cycleFrame cycle)
      ((x.setSeq k q).bumpLine k.line .cyclesBegun)).station k st = x.station k st := by
  generalize cycleFrame cycle = f
  rfl

theorem beginCycle_at (k : Branch) (cycle : Cycle) (deadline : Nat) (d : Device) :
    (beginCycle k cycle deadline d).seq k = { d.seq k with
      state := .periodic, cycle := cycle, deadline := some deadline, pendingStart := none,
      holds := PerClass.all false, list := buildList d.tables.schedule k cycle,
      sending := some
        { role := .cycle, starts := d.now, ends := d.now + 7 * (d.settings k.line).byteTime,
          wire := sealHeader ([0x10, 0x00, 0x00] ++ be2 cycle.toNat ++ [0x00]) } } ∧
    (beginCycle k cycle deadline d).lineCount k.line .cyclesBegun =
      raiseCount (d.lineCount k.line .cyclesBegun) 1 ∧
    ∀ st, 1 ≤ st → st ≤ 30 → ((beginCycle k cycle deadline d).station k st).serviced = false := by
  have written := (missElements_writes k (d.pendingElements k) d).andThen (clearServiced_writes _ k)
  have seq : (clearServiced k ((d.pendingElements k).foldl (missElement k) d)).seq k =
      ((d.pendingElements k).foldl (missElement k) d).seq k := by
    unfold Device.seq
    rw [(clearServiced_writes _ k).seqs]
  have count : (clearServiced k ((d.pendingElements k).foldl (missElement k) d)).lineCount k.line
      .cyclesBegun = d.lineCount k.line .cyclesBegun :=
    ((clearServiced_elsewhere k k _).count _ (.inl rfl)).trans
      (missElements_count k _ d (by decide))
  have serviced (st : Nat) (h : 1 ≤ st ∧ st ≤ 30) := clearServiced_serviced k
    ((d.pendingElements k).foldl (missElement k) d) h
  obtain ⟨list, missed⟩ := missElements_seq k (d.pendingElements k) d
  unfold beginCycle
  dsimp only
  generalize clearServiced k ((d.pendingElements k).foldl (missElement k) d) = x at *
  refine ⟨?_, ?_, fun st h1 h2 => ?_⟩
  · have settings : x.settings k.line = d.settings k.line :=
      congrArg (fun t : Tables => t.lines.get k.line) written.tables
    rw [sendCycle_seq, seq, missed, settings, written.now, cycleFrame_wire]
  · rw [lineCount_sendBranch]
    unfold Device.bumpLine
    rw [lineCount_bumpLineBy, if_pos ⟨rfl, rfl⟩, lineCount_setSeq, count]
  · rw [station_sendCycle]
    exact serviced st ⟨h1, h2⟩

end Sys2Proof.Machine

/-! A cycle start reaches every branch. -/

namespace Sys2Proof.Machine

open Device (Writes Elsewhere)

variable {d d' : Device} {k : Branch}

/- ### The list of a branch's cycle (R109) -/

set_option Elab.async false in
theorem buildList_eq (schedule : Table SchedEntry) (k : Branch) (n : Cycle) :
    buildList schedule k n =
      (schedule.cells.filter fun c => decide (k.toNat * 48 ≤ c.1 ∧ c.1 < k.toNat * 48 + 48 ∧
        n.toNat % c.2.period = c.2.phase)).map fun c =>
          { index := c.1, station := c.2.station, output := c.2.output, input := c.2.input,
            status := .pending } := by
  unfold buildList branchEntries
  rw [List.filter_filter]
  congr 1
  refine List.filter_congr fun c _ => ?_
  unfold SchedEntry.due
  rw [Bool.eq_iff_iff]
  simp
  tauto

/-- The list is in ascending index (R109). -/
theorem buildList_ascending {schedule : Table SchedEntry} (sorted : schedule.sorted) (k : Branch)
    (n : Cycle) : ((buildList schedule k n).map Element.index).Pairwise (· < ·) := by
  rw [buildList_eq, List.map_map]
  exact List.pairwise_map.2 ((List.pairwise_map.1 sorted).filter _)

/- ### From the event's beginning to its end -/

theorem arrived_elsewhere (k : Branch) (d : Device) (now : Nat) (bytes : List Byte) :
    Elsewhere k d (d.arrived now bytes) :=
  ⟨rfl, rfl, rfl, fun _ _ => by cases k <;> rfl, fun _ => id⟩

theorem startTimer_elsewhere (k : Branch) (number : Cycle) (st : TimerState) (miss : Nat)
    (d : Device) : Elsewhere k d (setExpiry (startTimer number st miss d)) :=
  ⟨rfl, rfl, rfl, fun _ _ => rfl, fun _ => id⟩

/-- What a start without a commit hands out (R76). -/
theorem frameStart_calm (number : Cycle) (d : Device) (calm : d.change.state ≠ .armed) :
    ∃ x, frameStart number d = handOut x ∧ Elsewhere k d x ∧ x.now = d.now ∧
      x.timer.cycle = number := by
  have act : (startTimer number .locked 0 d).changeAct (d.timer.slips number) = .nothing :=
    changeAct_calm calm
  have started := startedCycle_calm act
  have raised := raiseFrameEvents_writes (setExpiry (startTimer number .locked 0 d)) d.timer
    (d.timer.slips number)
  refine ⟨_, ?_, (startTimer_elsewhere k number .locked 0 d).trans (.of_writes raised k), raised.now,
    congrArg Timer.cycle raised.timer⟩
  rw [frameStart_eq, act, started]
  rfl

theorem localStart_calm (d : Device) (calm : d.change.state ≠ .armed) :
    ∃ x, localStart d = handOut x ∧ Elsewhere k d x ∧ x.now = d.now ∧
      x.timer.cycle = d.timer.cycle + 1 := by
  have act : localAct d = .nothing := changeAct_calm calm
  have started : localCycle d = setExpiry (startTimer (d.timer.cycle + 1)
      (if d.timer.state = .free then .free else .coasting) (min (d.timer.miss + 1) 65535) d) :=
    startedCycle_calm act
  have begun : Writes (.timer :: .choices :: applyFields) d (localCycle d) := startedCycle_writes ..
  have raised : Writes [.endpoint, .timer] (localCycle d) (startedLocal d) :=
    raiseLocalEvents_writes (localCycle d) (d.timer.state = .locked) d.tables.device.n
  refine ⟨startedLocal d, ?_, Elsewhere.trans (d' := localCycle d) ?_ (.of_writes raised k), ?_, ?_⟩
  · have start : localStart d = handOut (raiseCommit (localAct d) (startedLocal d)) :=
      localStart_eq d
    rw [start, act]
    exact congrArg handOut rfl
  · rw [started]
    exact startTimer_elsewhere k _ _ _ d
  · exact raised.now.trans begun.now
  · rw [startedLocal_exact]

theorem settle_elsewhere (k : Branch) (h : d.unasked) : Elsewhere k d (settle d) :=
  .of_writes (settle_unasked_writes h) k

/- ### The three cases at a branch (R107, R108) -/

theorem branchCycleStart_begins (cycle : Cycle) (deadline : Nat) (opened : d.admission k = .opened)
    (idle : (d.seq k).inFlight = none) (silent : (d.seq k).sending = none) :
    branchCycleStart cycle deadline d k = beginCycle k cycle deadline d := by
  unfold branchCycleStart
  rw [if_pos opened, if_pos ⟨by rw [idle]; rfl, by rw [silent]; rfl⟩]

theorem branchCycleStart_defers (cycle : Cycle) (deadline : Nat) (opened : d.admission k = .opened)
    (busy : (d.seq k).inFlight ≠ none ∨ (d.seq k).sending ≠ none) :
    branchCycleStart cycle deadline d k = deferCycle k cycle deadline d := by
  unfold branchCycleStart
  rw [if_pos opened, if_neg]
  rw [Option.isNone_iff_eq_none, Option.isNone_iff_eq_none]
  exact fun free => busy.elim (· free.1) (· free.2)

theorem branchCycleStart_closed (cycle : Cycle) (deadline : Nat) (closed : d.admission k ≠ .opened) :
    branchCycleStart cycle deadline d k = d := if_neg closed

theorem deferCycle_at (k : Branch) (cycle : Cycle) (deadline : Nat) (d : Device) :
    (deferCycle k cycle deadline d).seq k = { d.seq k with pendingStart := some (cycle, deadline) } ∧
    (deferCycle k cycle deadline d).lineCount k.line .overrun =
      raiseCount (d.lineCount k.line .overrun) 1 :=
  ⟨seq_setSeq_self d k _, (lineCount_bumpLineBy ..).trans (if_pos ⟨rfl, rfl⟩)⟩

/-- Settles O23. -/
theorem cycleStartReachesEveryBranch : Obligations.CycleStartReachesEveryBranch := by
  intro s k runs ready calm q device reached
  have asked : s.dev.unasked := ⟨ready.2.1, ready.2.2.1⟩
  have reaches (x t : Device) (n : Cycle) (start : Nat) (before : Elsewhere k s.dev x)
      (now : x.now = start) (cycle : x.timer.cycle = n) (after : Elsewhere k (handOut x) t) :
      reached { s with dev := t } n start := by
    obtain ⟨y, there, same, rest⟩ := handOut_at k x
    have first := before.trans there
    have last := rest.trans after
    rw [cycle, now, before.tables] at last
    have admission := first.admission
    have settings : y.settings k.line = s.dev.settings k.line :=
      congrArg (fun t : Tables => t.lines.get k.line) first.tables
    refine ⟨fun opened idle silent => ?_, fun opened busy => ?_, fun closed => ?_⟩
    · rw [branchCycleStart_begins _ _ (admission.trans opened) (by rw [first.seq]; exact idle)
        (by rw [first.seq]; exact silent)] at last
      obtain ⟨seq, count, serviced⟩ := beginCycle_at k n (start + device.d * 1000 - device.g * 1000) y
      rw [first.seq, first.tables, settings, same, now] at seq
      have ends := last.seq.trans seq
      refine ⟨ends.trans ?_, fun sorted => ?_, ?_, fun st h1 h2 => last.serviced st (serviced st h1 h2)⟩
      · rw [buildList_eq]
      · refine Eq.mpr (congrArg (fun x : Sequencer => (x.list.map Element.index).Pairwise (· < ·))
          ends) ?_
        exact buildList_ascending sorted k n
      · exact (last.count _ (.inl rfl)).trans (count.trans (congrArg (raiseCount · 1)
          (first.count _ (.inl rfl))))
    · rw [branchCycleStart_defers _ _ (admission.trans opened) (by rw [first.seq]; exact busy)] at last
      obtain ⟨seq, count⟩ := deferCycle_at k n (start + device.d * 1000 - device.g * 1000) y
      rw [first.seq] at seq
      exact ⟨last.seq.trans seq, (last.count _ (.inr rfl)).trans (count.trans
        (congrArg (raiseCount · 1) (first.count _ (.inr rfl))))⟩
    · rw [branchCycleStart_closed _ _ (by rw [admission]; exact closed)] at last
      exact last.seq.trans first.seq
  have local_ (due : Nat) : reached { s with dev := settle (localStart { s.dev with now := due }) }
      (s.dev.timer.cycle + 1) due := by
    have unasked := localStart_unasked (d := { s.dev with now := due }) asked
    obtain ⟨x, start, there, now, cycle⟩ := localStart_calm (k := k) { s.dev with now := due } calm
    rw [start] at unasked ⊢
    exact reaches x _ _ _ (Elsewhere.trans (d := s.dev) (d' := { s.dev with now := due })
      ⟨rfl, rfl, rfl, fun _ _ => rfl, fun _ => id⟩ there) now
      cycle (settle_elsewhere k unasked)
  refine ⟨fun now n accepts => ?_, fun early due window => ?_, fun due pending => ?_⟩
  · have arrived := arrived_writes s.dev now (trunkCycle n)
    have unasked := frameStart_unasked n (arrived.unasked asked)
    obtain ⟨x, start, there, same, cycle⟩ := frameStart_calm (k := k) n
      (s.dev.arrived now (trunkCycle n)) (by rw [arrived.change]; exact calm)
    have event := exec_frameStart runs accepts (n := n)
    rw [start] at unasked event
    exact ⟨{ s with dev := settle (handOut x) }, event,
      reaches x _ _ _ ((arrived_elsewhere k ..).trans there) same cycle (settle_elsewhere k unasked)⟩
  · exact ⟨{ s with dev := settle (localStart { s.dev with now := due }) },
      exec_lockWindow runs window, local_ due⟩
  · exact ⟨{ s with dev := settle (localStart { s.dev with now := due }) },
      exec_localCycle runs pending, local_ due⟩

end Sys2Proof.Machine

/-! SUPPORT. The flush of a line: its queues and slots given up in order, what is counted, and what is
left of them. -/

namespace Sys2Proof.Machine

open Device (Writes)

/- ### Slots emptied one after another -/

set_option Elab.async false in
theorem dropAll_slots (d : Device) (s : Table Nat) (l : Line) (r : Reason) (refs : List Nat) :
    ({ d with slots := s } : Device).dropAll l r refs = { d.dropAll l r refs with slots := s } := by
  have around := dropAll_around d l r d.egress s d.seqs refs
  have w := dropAll_writes d l r refs
  have kept : ({ d.dropAll l r refs with egress := d.egress, slots := s, seqs := d.seqs } : Device) =
      { d.dropAll l r refs with slots := s } := by
    rw [← w.egress, ← w.seqs]
  exact around.trans kept

theorem dropAll_setQueue (d : Device) (m l : Line) (c : Class) (q : List Entry) (r : Reason)
    (refs : List Nat) :
    (d.setQueue m c q).dropAll l r refs =
      { d.dropAll l r refs with egress := (d.setQueue m c q).egress } := by
  have around := dropAll_around d l r (d.setQueue m c q).egress d.slots d.seqs refs
  have w := dropAll_writes d l r refs
  have kept : ({ d.dropAll l r refs with
      egress := (d.setQueue m c q).egress, slots := d.slots, seqs := d.seqs } : Device) =
      { d.dropAll l r refs with egress := (d.setQueue m c q).egress } := by
    rw [← w.slots, ← w.seqs]
  exact around.trans kept

/-- Slots emptied in order: their frames are given up, and the slots with their keys are empty. -/
theorem dropSlots_eq (l : Line) (r : Reason) (xs : List (Nat × Nat)) (d : Device) :
    xs.foldl (dropSlot l r) d =
      { d.dropAll l r (xs.map Prod.snd) with
        slots := (xs.map Prod.fst).foldl Table.erase d.slots } := by
  induction xs generalizing d with
  | nil => rfl
  | cons x xs ih =>
    have head := dropSlot_eq l r d x.1 x.2
    rw [List.foldl_cons, ih, head, dropAll_slots]
    rfl

theorem eraseAll_cells {α : Type} (ks : List Nat) (t : Table α) :
    (ks.foldl Table.erase t).cells = t.cells.filter fun c => decide (c.1 ∉ ks) := by
  induction ks generalizing t with
  | nil => exact (List.filter_eq_self.2 fun _ _ => by simp).symm
  | cons k ks ih =>
    rw [List.foldl_cons, ih]
    refine (List.filter_filter ..).trans (List.filter_congr fun c _ => ?_)
    rw [Bool.eq_iff_iff]
    simp only [Bool.and_eq_true, decide_eq_true_eq, bne_iff_ne, List.mem_cons, not_or]
    exact and_comm

theorem find?_eraseAll {α : Type} (ks : List Nat) (t : Table α) (k : Nat) :
    (ks.foldl Table.erase t).find? k = if k ∈ ks then none else t.find? k := by
  induction ks generalizing t with
  | nil => simp
  | cons j ks ih =>
    rw [List.foldl_cons, ih, find?_erase]
    by_cases here : k = j
    · simp [here]
    · simp [here]

/- ### The flush (R15, R19) -/

/-- The frames of a line's queues, class after class. -/
def Device.queuedAt (d : Device) (l : Line) : List Nat :=
  Class.all.flatMap fun c => (d.queue l c).map Entry.frame

/-- What a flush of a line gives up: the frames of its queues and of its slots. -/
def Device.heldAt (d : Device) (l : Line) : List Nat :=
  d.queuedAt l ++ (d.slotsAt l).map Prod.snd

theorem flushQueue_eq (l : Line) (d : Device) (c : Class) :
    flushQueue l d c = { d.dropAll l .flushed ((d.queue l c).map Entry.frame) with
      egress := (d.setQueue l c []).egress } := by
  rw [← dropAll_setQueue]
  exact (List.foldl_map (f := Entry.frame)
    (g := fun d ref => Device.dropFrame d l ref .flushed)).symm

/-- What queues become when they are emptied depends on the queues alone. -/
theorem emptied_egress (l : Line) (cs : List Class) {x y : Device} (same : x.egress = y.egress) :
    (cs.foldl (fun d c => d.setQueue l c []) x).egress =
      (cs.foldl (fun d c => d.setQueue l c []) y).egress := by
  induction cs generalizing x y with
  | nil => exact same
  | cons c cs ih =>
    refine ih (x := x.setQueue l c []) (y := y.setQueue l c []) ?_
    unfold Device.setQueue Device.setEgr Device.egr
    rw [same]

/-- Queues flushed one after another. -/
theorem flushClasses_eq (l : Line) (cs : List Class) (nodup : cs.Nodup) (d : Device) :
    cs.foldl (flushQueue l) d =
      { d.dropAll l .flushed (cs.flatMap fun c => (d.queue l c).map Entry.frame) with
        egress := (cs.foldl (fun d c => d.setQueue l c []) d).egress } := by
  induction cs generalizing d with
  | nil => rfl
  | cons c cs ih =>
    obtain ⟨fresh, nodup⟩ := List.nodup_cons.1 nodup
    have others : (cs.flatMap fun c' => ((d.setQueue l c []).queue l c').map Entry.frame) =
        cs.flatMap fun c' => (d.queue l c').map Entry.frame := by
      refine List.flatMap_congr fun c' mem => ?_
      rw [queue_setQueue, if_neg fun h : l = l ∧ c' = c => fresh (h.2 ▸ mem)]
    rw [List.foldl_cons, ih nodup, flushQueue_eq, List.flatMap_cons, dropAll_append]
    generalize hx : d.dropAll l .flushed ((d.queue l c).map Entry.frame) = x
    have queues (c' : Class) : ({ x with egress := (d.setQueue l c []).egress } : Device).queue l c' =
        (d.setQueue l c []).queue l c' := rfl
    simp only [queues]
    rw [others, emptied_egress l cs (x := { x with egress := (d.setQueue l c []).egress })
      (y := d.setQueue l c []) rfl]
    have around := dropAll_around x l .flushed (d.setQueue l c []).egress x.slots x.seqs
      (cs.flatMap fun c' => (d.queue l c').map Entry.frame)
    have same : ({ x with egress := (d.setQueue l c []).egress } : Device) =
      { x with egress := (d.setQueue l c []).egress, slots := x.slots, seqs := x.seqs } := rfl
    have w := dropAll_writes x l .flushed (cs.flatMap fun c' => (d.queue l c').map Entry.frame)
    rw [same, around]
    dsimp only
    rw [← w.slots, ← w.seqs]
    rfl

theorem flushQueues_eq (l : Line) (d : Device) :
    flushQueues l d = (d.dropAll l .flushed (d.queuedAt l)).setEgr l
      { d.egr l with queues := PerClass.all [] } := by
  have emptied : (Class.all.foldl (fun d c => d.setQueue l c []) d).egress =
      d.egress.set l { d.egr l with queues := PerClass.all [] } := by
    cases l <;> rfl
  have w := dropAll_writes d l .flushed (d.queuedAt l)
  refine (flushClasses_eq l Class.all (by decide) d).trans ?_
  rw [emptied]
  unfold Device.setEgr
  rw [w.egress]
  rfl

/-- The flush of a line's queues and slots. -/
theorem flushLine_eq (l : Line) (d : Device) :
    flushSlots l (flushQueues l d) =
      ({ d.dropAll l .flushed (d.heldAt l) with
        slots := ((d.slotsAt l).map Prod.fst).foldl Table.erase d.slots } : Device).setEgr l
          { d.egr l with queues := PerClass.all [] } := by
  have w := dropAll_writes d l .flushed (d.queuedAt l)
  have slots : (flushQueues l d).slotsAt l = d.slotsAt l := by
    have q := flushQueues_writes d l
    unfold Device.slotsAt Device.slotLine? Device.circuit?
    rw [q.slots, q.tables]
  unfold flushSlots
  rw [slots, dropSlots_eq, flushQueues_eq]
  unfold Device.heldAt
  rw [dropAll_append]
  generalize hx : d.dropAll l .flushed (d.queuedAt l) = x at w ⊢
  have v := dropAll_writes x l .flushed ((d.slotsAt l).map Prod.snd)
  have around := dropAll_around x l .flushed
    (x.setEgr l { d.egr l with queues := PerClass.all [] }).egress x.slots x.seqs
    ((d.slotsAt l).map Prod.snd)
  have same : x.setEgr l { d.egr l with queues := PerClass.all [] } =
    { x with
      egress := (x.setEgr l { d.egr l with queues := PerClass.all [] }).egress, slots := x.slots,
      seqs := x.seqs } := rfl
  rw [same, around]
  unfold Device.setEgr
  dsimp only
  rw [w.slots, v.egress]
  rw [← v.seqs]

section Flushed

variable (l : Line) (d : Device)

theorem slotsAt_flushed : (flushSlots l (flushQueues l d)).slotsAt l = [] := by
  rw [flushLine_eq]
  have w := dropAll_writes d l .flushed (d.heldAt l)
  have line (cid : Nat) : (({ d.dropAll l .flushed (d.heldAt l) with
      slots := ((d.slotsAt l).map Prod.fst).foldl Table.erase d.slots } : Device).setEgr l
        { d.egr l with queues := PerClass.all [] }).slotLine? cid = d.slotLine? cid :=
    congrArg (fun t : Tables => (t.circuits.find? cid).map Circuit.slotLine) w.tables
  have cells : (({ d.dropAll l .flushed (d.heldAt l) with
      slots := ((d.slotsAt l).map Prod.fst).foldl Table.erase d.slots } : Device).setEgr l
        { d.egr l with queues := PerClass.all [] }).slots.cells =
      d.slots.cells.filter fun c => decide (c.1 ∉ (d.slotsAt l).map Prod.fst) :=
    eraseAll_cells ..
  unfold Device.slotsAt at line cells ⊢
  rw [cells, List.filter_filter]
  refine List.filter_eq_nil_iff.2 fun c mem => ?_
  rw [line, Bool.and_eq_true, beq_iff_eq, decide_eq_true_eq]
  rintro ⟨here, gone⟩
  exact gone (List.mem_map_of_mem (List.mem_filter.2 ⟨mem, beq_iff_eq.2 here⟩))

theorem egr_flushed : (flushSlots l (flushQueues l d)).egr l =
    { d.egr l with queues := PerClass.all [] } := by
  rw [flushLine_eq]
  exact PerLine.get_set_self ..

set_option Elab.async false in
theorem queue_flushed (c : Class) : (flushSlots l (flushQueues l d)).queue l c = [] := by
  unfold Device.queue
  rw [egr_flushed]
  cases c <;> rfl

theorem lineCount_flushed (m : Line) (c : LineCounter) :
    (flushSlots l (flushQueues l d)).lineCount m c =
      if m = l ∧ c = .flushed then
        (d.heldAt l).foldl (fun n _ => raiseCount n 1) (d.lineCount m c)
      else d.lineCount m c := by
  rw [flushLine_eq]
  exact lineCount_dropAll ..

/-- The references that a line's flush gives up are those of queues and slots alone. -/
theorem count_heldAt (ref : Nat) : (d.heldAt l).count ref ≤ d.references.count ref := by
  have queued : (d.queuedAt l).count ref ≤ (Line.all.flatMap fun l => d.queuedAt l).count ref := by
    obtain ⟨before, after, split⟩ := List.append_of_mem (show l ∈ Line.all by cases l <;> decide)
    rw [split, List.flatMap_append, List.flatMap_cons, List.count_append, List.count_append]
    omega
  have slots : ((d.slotsAt l).map Prod.snd).count ref ≤ (d.slots.cells.map Prod.snd).count ref :=
    ((List.filter_sublist (l := d.slots.cells)).map Prod.snd).count_le ref
  unfold Device.heldAt Device.references
  rw [List.count_append, List.count_append, List.count_append, List.count_append]
  unfold Device.queuedAt at queued ⊢
  omega

theorem circuitCount_flushed (refs : d.refsOk) (cid : Nat) (c : CircuitCounter) :
    (flushSlots l (flushQueues l d)).circuitCount cid c =
      if c = .flushed ∧ d.circuit? cid ≠ none then
        ((d.heldAt l).filter fun ref => (d.frame? ref).map Frame.cid == some cid).foldl
          (fun n _ => raiseCount n 1) (d.circuitCount cid c)
      else d.circuitCount cid c := by
  rw [flushLine_eq]
  refine (circuitCount_dropAll d l .flushed _ (fun ref => ?_) cid c).trans
    (if_congr ⟨fun h => ⟨(Option.some_inj.1 h.2).symm, h.1⟩, fun h => ⟨h.2, by rw [h.1]; rfl⟩⟩ rfl rfl)
  rw [refsOf_of_refsOk refs]
  exact count_heldAt l d ref

theorem flushLine_writes : Writes [.lines, .circuitCounters, .pool, .egress, .queued, .slots] d
    (flushSlots l (flushQueues l d)) :=
  (flushQueues_writes d l).mono.andThen (flushSlots_writes _ l)

end Flushed

end Sys2Proof.Machine

/-! SET_LINE of the trunk: the trunk opens, or is put in MGMT_ONLY and flushed. -/

namespace Sys2Proof.Machine

open Device (Writes)

/- ### SET_LINE (R174) -/

set_option Elab.async false in
/-- A SET_LINE is performed by its own rule. -/
theorem performRequest_setLine {req : Request} (bare : req.entries = []) (d : Device) :
    performRequest (requestRecord .setLine req) d =
      performSetLine req.argA.toNat req.argB.toNat 0x05 (be2 req.tag.toNat) d := by
  rw [performRequest_bare d (by decide) bare rfl]
  unfold performOp
  simp only [requestRecord_argA, requestRecord_argB, requestRecord_op, requestRecord_tag]
  rfl

/-- A SET_LINE that is answered at once leaves the Endpoint alone, and nothing more follows. -/
theorem exec_setLine {now : Nat} {req : Request} {s : State} {after : Device} {status : Status}
    (takes : s.dev.takes req) (bare : req.entries = [])
    (performed : performSetLine req.argA.toNat req.argB.toNat 0x05 (be2 req.tag.toNat)
      (s.dev.arrived now (requestFrame .setLine req)) = (after, some { status := status }))
    (endpoint : after.endpoint = s.dev.endpoint) :
    exec (.setLine now req) s =
      .next { s with dev := after.replied .setLine req { status := status } } :=
  exec_request_plain now .setLine takes ((performRequest_setLine bare _).trans performed) endpoint rfl

theorem performSetLine_above {line : Nat} (h : 4 < line) (state : Nat) (op : Byte) (tag : List Byte)
    (d : Device) : performSetLine line state op tag d = (d, some { status := .badValue }) := if_pos h

theorem performSetLine_trunk (state : Nat) (op : Byte) (tag : List Byte) (d : Device) :
    performSetLine 0 state op tag d = ((setTrunk state d).1, some (setTrunk state d).2) := rfl

/-- What the arrival of a frame on T counts (R8). -/
theorem lineCount_arrived (d : Device) (now : Nat) (bytes : List Byte) (l : Line) {c : LineCounter}
    (h : c ≠ .framesReceived) : (d.arrived now bytes).lineCount l c = d.lineCount l c := by
  refine (lineCount_bumpLineBy ..).trans ((if_neg fun both => h both.2).trans ?_)
  unfold Device.lineCount collect
  rw [lineIf_setLineIf]
  split
  · subst_vars
    rfl
  · rfl

/-- Settles O50: the cases of `setTrunk`, and the flush of the trunk. -/
theorem setLineActsOnTheTrunk : Obligations.SetLineActsOnTheTrunk := by
  intro now req s takes bare arrived answer closed flushed
  refine ⟨fun above => ?above, fun trunk state => ?opens, fun trunk state was => ?stays,
    fun trunk state was => ?closes, fun trunk state => ?other⟩
  case above => exact exec_setLine takes bare (performSetLine_above above ..) rfl
  all_goals
    have performed := performSetLine_trunk req.argB.toNat 0x05 (be2 req.tag.toNat) arrived
    rw [← trunk] at performed
  case opens =>
    refine exec_setLine takes bare (performed.trans ?_) rfl
    rw [state]
    rfl
  case stays =>
    have done : setTrunk 0 arrived = (arrived, { status := .ok }) := by
      have shut : arrived.trunkAdm = .mgmtOnly := was
      unfold setTrunk
      simp only [shut]
    refine exec_setLine takes bare (performed.trans ?_) rfl
    rw [state, done]
  case closes =>
    have done : setTrunk 0 arrived = (closed, { status := .ok }) := by
      have opened : arrived.trunkAdm = .opened := was
      unfold setTrunk
      simp only [opened]
      rfl
    have w := flushLine_writes .t { arrived with trunkAdm := .mgmtOnly }
    have egr : closed.egr .t = { s.dev.egr .t with queues := PerClass.all [] } := egr_flushed .t _
    refine ⟨?_, w.trunkAdm, queue_flushed .t _, slotsAt_flushed .t _, w.trunkTx,
      by rw [egr], by rw [egr], fun l c => ?_,
      fun _ refs cid c => ?_⟩
    · refine exec_setLine takes bare (performed.trans ?_) w.endpoint
      rw [state, done]
    · refine (lineCount_flushed .t { arrived with trunkAdm := .mgmtOnly } l c).trans ?_
      split
      next here =>
        have before : arrived.lineCount l c = s.dev.lineCount l c :=
          lineCount_arrived s.dev now _ l (by rw [here.2]; decide)
        exact congrArg (fun n => flushed.foldl (fun n _ => raiseCount n 1) n) before
      next => rfl
    · exact circuitCount_flushed .t { arrived with trunkAdm := .mgmtOnly } refs cid c
  case other =>
    have done : setTrunk req.argB.toNat arrived = (arrived, { status := .lineState }) := by
      obtain ⟨n, above⟩ := Nat.exists_eq_add_of_lt state
      rw [above, show 1 + n + 1 = n + 2 by omega]
      rfl
    refine exec_setLine takes bare (performed.trans ?_) rfl
    rw [done]

end Sys2Proof.Machine

/-! SUPPORT. Contexts abandoned one after another, stations put in resync, and what a branch's flush
leaves. -/

namespace Sys2Proof.Machine

open Device (Writes)

/- ### Contexts abandoned (R69, R153) -/

section Abandon

variable (reason : LineCounter) (xs : List Context) (d : Device)

set_option Elab.async false in
/-- Each context abandoned is counted on its branch. -/
theorem lineCount_abandon (l : Line) (c : LineCounter) :
    (xs.foldl (abandonContext reason) d).lineCount l c =
      if c = reason then
        (xs.filter fun x => x.branch.line == l).foldl (fun n _ => raiseCount n 1) (d.lineCount l c)
      else d.lineCount l c := by
  induction xs generalizing d with
  | nil => simp
  | cons x xs ih =>
    have first : (abandonContext reason d x).lineCount l c =
        if l = x.branch.line ∧ c = reason then raiseCount (d.lineCount x.branch.line reason) 1
        else d.lineCount l c := lineCount_bumpLineBy ..
    rw [List.foldl_cons, ih, first, List.filter_cons]
    by_cases counter : c = reason
    · subst counter
      by_cases here : l = x.branch.line
      · subst here
        simp
      · simp [here, beq_iff_eq, eq_comm (b := l)]
    · simp [counter]

theorem abandon_contexts : (xs.foldl (abandonContext reason) d).contexts =
    d.contexts.filter fun x => decide (∀ c ∈ xs, (x.branch, x.station) ≠ (c.branch, c.station)) := by
  induction xs generalizing d with
  | nil => simp
  | cons c xs ih =>
    rw [List.foldl_cons, ih]
    refine (List.filter_filter ..).trans (List.filter_congr fun x _ => ?_)
    rw [same_station, Bool.eq_iff_iff]
    simp only [Bool.and_eq_true, decide_eq_true_eq, Bool.not_eq_true', decide_eq_false_iff_not,
      List.forall_mem_cons, ne_eq]
    exact and_comm

theorem abandon_frames : (xs.foldl (abandonContext reason) d).pool.frames = d.pool.frames :=
  List.foldlRecOn (motive := fun x : Device => x.pool.frames = d.pool.frames) xs _ rfl fun _ h _ _ => h

theorem abandon_circuitCounters :
    (xs.foldl (abandonContext reason) d).circuitCounters = d.circuitCounters :=
  List.foldlRecOn (motive := fun x : Device => x.circuitCounters = d.circuitCounters) xs _ rfl
    fun _ h _ _ => h

/-- The blocks of the contexts abandoned are free again. -/
theorem abandon_free : (xs.foldl (abandonContext reason) d).pool.free.Perm
    (xs.flatMap (fun c => c.blocks.map Block.number) ++ d.pool.free) := by
  induction xs generalizing d with
  | nil => exact .refl _
  | cons c xs ih =>
    have first : (abandonContext reason d c).pool.free = c.blocks.map Block.number ++ d.pool.free := rfl
    rw [List.foldl_cons, List.flatMap_cons]
    refine (ih _).trans ?_
    rw [first, ← List.append_assoc]
    exact List.perm_append_comm.append_right _

/-- They are charged to their branches no more. -/
theorem abandon_usage (k : Branch) : (xs.foldl (abandonContext reason) d).pool.usage.get k.line =
    d.pool.usage.get k.line -
      ((xs.filter fun c => c.branch == k).map fun c => c.blocks.length).sum := by
  induction xs generalizing d with
  | nil => rfl
  | cons c xs ih =>
    have first : (abandonContext reason d c).pool.usage =
      d.pool.usage.set c.branch.line (d.pool.usage.get c.branch.line - c.blocks.length) := rfl
    rw [List.foldl_cons, ih, first, List.filter_cons]
    by_cases here : c.branch = k
    · subst here
      rw [PerLine.get_set_self, beq_self_eq_true, if_pos rfl, List.map_cons, List.sum_cons,
        Nat.sub_sub]
    · rw [PerLine.get_set_of_ne _ _ fun same => here (line_inj same).symm,
        if_neg fun same => here (beq_iff_eq.1 same)]

/-- Where every station has one context at most, those of a kind leave the others. -/
theorem abandon_those (p : Context → Bool)
    (apart : (d.contexts.map fun c => (c.branch, c.station)).Nodup) :
    ((d.contexts.filter p).foldl (abandonContext reason) d).contexts =
      d.contexts.filter fun c => !p c := by
  rw [abandon_contexts]
  refine List.filter_congr fun x mem => ?_
  rw [Bool.eq_iff_iff, decide_eq_true_eq, Bool.not_eq_true']
  constructor
  · intro stays
    by_contra given
    rw [Bool.not_eq_false] at given
    exact stays x (List.mem_filter.2 ⟨mem, given⟩) rfl
  · intro stays c given same
    obtain ⟨listed, given⟩ := List.mem_filter.1 given
    rw [← List.inj_on_of_nodup_map apart mem listed same, stays] at given
    exact nomatch given

end Abandon

/- ### Resync (R131) -/

section Resync

variable (k : Branch)

theorem rewindDelivery_idle {d : Device} (idle : (d.seq k).delivering = none) (s : Nat) :
    rewindDelivery k s d = d := by
  unfold rewindDelivery
  simp only [idle]

/-- Where no delivery is under way, stations put in resync are all that changes. -/
theorem markResyncAll_idle {d : Device} (idle : (d.seq k).delivering = none) :
    Writes [.stations] d (markResyncAll k d) := by
  refine List.foldlRecOn (motive := Writes [.stations] d) stationAddresses _ (.refl d)
    fun x h s _ => ?_
  have still : (x.seq k).delivering = none := by
    unfold Device.seq at idle ⊢
    rw [h.seqs]
    exact idle
  split
  · unfold markResync
    rw [rewindDelivery_idle k (by exact still)]
    exact h.andThen (setStation_writes ..)
  · exact h

theorem station_markResync (d : Device) (j : Branch) (s t : Nat) :
    (markResync k s d).station j t =
      (d.setStation k s { d.station k s with resyncPending := true }).station j t := by
  unfold markResync Device.station
  rw [(rewindDelivery_writes ..).stations]

/-- A station in resync stays in it while others are put in it. -/
theorem markResync_keeps {d : Device} {j : Branch} {t : Nat}
    (h : (d.station j t).resyncPending = true) (s : Nat) :
    ((markResync k s d).station j t).resyncPending = true := by
  rw [station_markResync, station_setStation]
  split
  · rfl
  · exact h

/-- Every configured station of the branch is put in resync (R16, R19). -/
theorem markResyncAll_pending (d : Device) {st : Nat} (h1 : 1 ≤ st) (h2 : st ≤ 30)
    (configured : (d.stationConfig k st).configured = true) :
    ((markResyncAll k d).station k st).resyncPending = true := by
  have kept (xs : List Nat) (x : Device) : (xs.foldl (fun d s =>
      if (d.stationConfig k s).configured then markResync k s d else d) x).tables = x.tables := by
    refine List.foldlRecOn (motive := fun y : Device => y.tables = x.tables) xs _ rfl
      fun y h s _ => ?_
    split
    · exact (markResync_writes ..).tables.trans h
    · exact h
  have mem : st ∈ stationAddresses := List.mem_range'_1.2 (by omega)
  obtain ⟨before, after, split⟩ := List.append_of_mem mem
  unfold markResyncAll
  rw [split, List.foldl_append, List.foldl_cons]
  refine List.foldlRecOn (motive := fun x : Device => (x.station k st).resyncPending = true) after _
    ?_ fun x hx s _ => ?_
  · rw [if_pos]
    · rw [station_markResync, station_setStation_self]
    · have config : ∀ x : Device, x.tables = d.tables →
          x.stationConfig k st = d.stationConfig k st := fun x same =>
        congrArg (fun t : Tables => t.stations.get StationConfig.powerOn (stationIndex k st)) same
      rw [config _ (kept before d)]
      exact configured
  · split
    · exact markResync_keeps k hx s
    · exact hx

end Resync

/- ### The flush of a branch (R19) -/

section Shut

variable (k : Branch) (d : Device)

/-- The part once a branch's queues, slots and contexts have been given up. -/
def Device.vacated : Device :=
  flushContexts k (flushSlots k.line (flushQueues k.line (d.setAdmission k .shut)))

/-- The part once a branch is SHUT and flushed, but for the resync of its stations. -/
def Device.stilled : Device :=
  cancelReleases k.line (resetCredits k.line ((d.vacated k).setSeq k (d.seq k).flushed))

set_option Elab.async false in
theorem vacated_writes : Writes
    [.branchAdm, .lines, .circuitCounters, .pool, .egress, .queued, .slots, .contexts] d
    (d.vacated k) :=
  ((setAdmission_writes d k .shut).mono.andThen (flushLine_writes k.line _)).andThen
    (flushContexts_writes ..)

theorem shutBranch_eq : shutBranch k d = markResyncAll k (d.stilled k) := by
  have seq : (d.vacated k).seq k = d.seq k := congrArg (PerBranch.get · k) (vacated_writes k d).seqs
  unfold Device.stilled
  rw [← seq]
  rfl

theorem stilled_seq : (d.stilled k).seq k = (d.seq k).flushed := by
  unfold Device.stilled
  generalize d.vacated k = x
  exact seq_setSeq_self x k _

theorem shutBranch_last : Writes [.stations] (d.stilled k) (shutBranch k d) := by
  rw [shutBranch_eq]
  exact markResyncAll_idle k (by rw [stilled_seq]; rfl)

theorem vacated_egr : (d.vacated k).egr k.line = { d.egr k.line with queues := PerClass.all [] } := by
  have w := flushContexts_writes
    (flushSlots k.line (flushQueues k.line (d.setAdmission k .shut))) k
  have flushed := egr_flushed k.line (d.setAdmission k .shut)
  unfold Device.egr at flushed ⊢
  exact (congrArg (PerLine.get · k.line) w.egress).trans flushed

theorem stilled_egr : (d.stilled k).egr k.line =
    { queues := PerClass.all [], credits := Credits.ofWeights (d.settings k.line),
      release := PerClass.all none } := by
  have settings : ((d.vacated k).setSeq k (d.seq k).flushed).settings k.line = d.settings k.line :=
    congrArg (fun t : Tables => t.lines.get k.line) (vacated_writes k d).tables
  have egr : ((d.vacated k).setSeq k (d.seq k).flushed).egr k.line =
    { d.egr k.line with queues := PerClass.all [] } := vacated_egr k d
  unfold Device.stilled
  generalize (d.vacated k).setSeq k (d.seq k).flushed = x at settings egr ⊢
  have reset : (resetCredits k.line x).egr k.line =
      { x.egr k.line with credits := Credits.ofWeights (x.settings k.line) } :=
    PerLine.get_set_self ..
  have cancelled : (cancelReleases k.line (resetCredits k.line x)).egr k.line =
      { (resetCredits k.line x).egr k.line with release := PerClass.all none } :=
    PerLine.get_set_self ..
  rw [cancelled, reset, settings, egr]

theorem stilled_writes : Writes [.egress, .queued, .seqs, .cores] (d.vacated k) (d.stilled k) :=
  ((setSeq_writes ..).mono.andThen (resetCredits_writes ..)).andThen (cancelReleases_writes ..)

theorem shutBranch_egr : (shutBranch k d).egr k.line =
    { queues := PerClass.all [], credits := Credits.ofWeights (d.settings k.line),
      release := PerClass.all none } :=
  (congrArg (PerLine.get · k.line) (shutBranch_last k d).egress).trans (stilled_egr k d)

theorem shutBranch_queue (c : Class) : (shutBranch k d).queue k.line c = [] := by
  unfold Device.queue
  rw [shutBranch_egr]
  cases c <;> rfl

theorem shutBranch_release (c : Class) : (shutBranch k d).release k.line c = none := by
  unfold Device.release
  rw [shutBranch_egr]
  cases c <;> rfl

theorem shutBranch_seq : (shutBranch k d).seq k = (d.seq k).flushed :=
  (congrArg (PerBranch.get · k) (shutBranch_last k d).seqs).trans (stilled_seq k d)

theorem shutBranch_rest : Writes [.stations, .egress, .queued, .seqs, .cores] (d.vacated k)
    (shutBranch k d) := (stilled_writes k d).mono.andThen (shutBranch_last k d)

set_option Elab.async false in
theorem shutBranch_slotsAt : (shutBranch k d).slotsAt k.line = [] := by
  have w := (flushContexts_writes (flushSlots k.line (flushQueues k.line (d.setAdmission k .shut)))
    k).mono.andThen (fs := [.stations, .egress, .queued, .seqs, .cores, .contexts, .pool, .lines])
    (shutBranch_rest k d)
  have flushed := slotsAt_flushed k.line (d.setAdmission k .shut)
  unfold Device.slotsAt Device.slotLine? Device.circuit? at flushed ⊢
  rw [w.slots, w.tables]
  exact flushed

theorem shutBranch_contexts : ∀ c ∈ (shutBranch k d).contexts, c.branch ≠ k := by
  have contexts : (d.vacated k).contexts = _ := abandon_contexts ..
  rw [(shutBranch_rest k d).contexts, contexts]
  intro c mem here
  obtain ⟨mem, stays⟩ := List.mem_filter.1 mem
  refine of_decide_eq_true stays c (List.mem_filter.2 ⟨mem, beq_iff_eq.2 here⟩) rfl

theorem shutBranch_admission : (shutBranch k d).admission k = .shut := (shutBranch_turns d k).2

theorem shutBranch_pending {st : Nat} (h1 : 1 ≤ st) (h2 : st ≤ 30)
    (configured : (d.stationConfig k st).configured = true) :
    ((shutBranch k d).station k st).resyncPending = true := by
  rw [shutBranch_eq]
  refine markResyncAll_pending k _ h1 h2 ?_
  unfold Device.stationConfig at configured ⊢
  rw [(stilled_writes k d).tables, (vacated_writes k d).tables]
  exact configured

/-- What a branch's flush counts on the lines (R88, R153). -/
theorem lineCount_shutBranch (l : Line) (c : LineCounter) : (shutBranch k d).lineCount l c =
    if l = k.line ∧ c = .flushed then
      (d.heldAt k.line).foldl (fun n _ => raiseCount n 1) (d.lineCount l c)
    else if l = k.line ∧ c = .contextFlushed then
      (d.contexts.filter fun x => x.branch == k).foldl (fun n _ => raiseCount n 1) (d.lineCount l c)
    else d.lineCount l c := by
  have rest : (shutBranch k d).lineCount l c = (d.vacated k).lineCount l c :=
    congrArg (fun x : PerLine LineIf => (x.get l).counters.get 0 c.pos) (shutBranch_rest k d).lines
  have contexts : (flushSlots k.line (flushQueues k.line (d.setAdmission k .shut))).contexts =
      d.contexts := (flushLine_writes k.line _).contexts
  have aged : (d.vacated k).lineCount l c = _ := lineCount_abandon ..
  have mine : ((d.contexts.filter fun x => x.branch == k).filter fun x => x.branch.line == l) =
      if l = k.line then d.contexts.filter fun x => x.branch == k else [] := by
    rw [List.filter_filter]
    split
    next here =>
      refine List.filter_congr fun x _ => ?_
      rw [here, Bool.eq_iff_iff]
      simp only [Bool.and_eq_true, beq_iff_eq]
      exact ⟨fun h => h.2, fun h => ⟨congrArg Branch.line h, h⟩⟩
    next other =>
      refine List.filter_eq_nil_iff.2 fun x _ => ?_
      simp only [Bool.and_eq_true, beq_iff_eq]
      rintro ⟨line, rfl⟩
      exact other line.symm
  have flushed := lineCount_flushed k.line (d.setAdmission k .shut) l c
  have before : (d.setAdmission k .shut).lineCount l c = d.lineCount l c := rfl
  have held : (d.setAdmission k .shut).heldAt k.line = d.heldAt k.line := rfl
  rw [before, held] at flushed
  rw [rest, aged, contexts, mine, flushed]
  by_cases here : l = k.line <;> by_cases counter : c = .contextFlushed <;> simp [here, counter]

theorem circuitCount_shutBranch (refs : d.refsOk) (cid : Nat) (c : CircuitCounter) :
    (shutBranch k d).circuitCount cid c =
      if c = .flushed ∧ d.circuit? cid ≠ none then
        ((d.heldAt k.line).filter fun ref => (d.frame? ref).map Frame.cid == some cid).foldl
          (fun n _ => raiseCount n 1) (d.circuitCount cid c)
      else d.circuitCount cid c := by
  have w := (flushContexts_writes (flushSlots k.line (flushQueues k.line (d.setAdmission k .shut)))
    k).mono.andThen (fs := [.stations, .egress, .queued, .seqs, .cores, .contexts, .pool, .lines])
    (shutBranch_rest k d)
  have rest : (shutBranch k d).circuitCount cid c =
      (flushSlots k.line (flushQueues k.line (d.setAdmission k .shut))).circuitCount cid c :=
    congrArg (fun x : Table (Table Nat) => (x.get Table.empty cid).get 0 c.pos) w.circuitCounters
  exact rest.trans (circuitCount_flushed k.line (d.setAdmission k .shut) refs cid c)

end Shut

end Sys2Proof.Machine

/-! SET_LINE of a branch: the branch opens, is SHUT and flushed, or becomes SHUTTING. -/

namespace Sys2Proof.Machine

open Device (Writes)

section SetBranch

variable {k : Branch} {d : Device} (op : Byte) (tag : List Byte)

set_option Elab.async false in
theorem performSetLine_branch (k : Branch) (state : Nat) (d : Device) :
    performSetLine k.line.toNat state op tag d = setBranch k state op tag d := by
  cases k <;> rfl

/- ### SET_LINE of a branch (R16, R17) -/

theorem setBranch_opened (h : d.admission k = .opened) :
    setBranch k 1 op tag d = (d, some { status := .ok }) := by
  unfold setBranch
  simp only [h]

theorem setBranch_armed (h : d.admission k = .shut) (armed : d.change.armedFor k.line = true) :
    setBranch k 1 op tag d = (d, some { status := .lineState }) := by
  unfold setBranch
  simp only [h, armed, if_true]

theorem setBranch_opens (h : d.admission k = .shut) (armed : d.change.armedFor k.line = false) :
    setBranch k 1 op tag d = (openBranch k d, some { status := .ok }) := by
  unfold setBranch
  simp only [h, armed, Bool.false_eq_true, if_false]

theorem setBranch_shut (h : d.admission k = .shut) :
    setBranch k 0 op tag d = (d, some { status := .ok }) := by
  unfold setBranch
  simp only [h]

theorem setBranch_shuts (h : d.admission k = .opened) (idle : (d.seq k).inFlight = none) :
    setBranch k 0 op tag d = (shutBranch k d, some { status := .ok }) := by
  unfold setBranch
  simp only [h, idle, Option.isNone_none, if_true]

theorem setBranch_shutting (h : d.admission k = .opened) (busy : (d.seq k).inFlight ≠ none) :
    setBranch k 0 op tag d =
      ({ d.setAdmission k .shutting with
        endpoint := { d.endpoint with inProgress := some (.setLine k op tag) } }, none) := by
  unfold setBranch
  simp only [h, Option.isNone_iff_eq_none, if_neg busy]

theorem setBranch_other {state : Nat} (h : 1 < state) :
    setBranch k state op tag d = (d, some { status := .lineState }) := by
  obtain ⟨n, above⟩ := Nat.exists_eq_add_of_lt h
  rw [above, show 1 + n + 1 = n + 2 by omega]
  rfl

end SetBranch

theorem armedFor_iff (c : Change) (l : Line) : c.armedFor l = true ↔
    c.state = .armed ∧ ∃ e ∈ c.list, e.unit = 5 ∧ e.index = l.toNat := by
  unfold Change.armedFor
  simp only [Bool.and_eq_true, beq_iff_eq, List.any_eq_true]

/-- What an opening leaves (R16). -/
theorem openBranch_opens (k : Branch) (d : Device) :
    (openBranch k d).admission k = .opened ∧ (openBranch k d).openedAt.get k = d.now ∧
    ((openBranch k d).seq k).state = (d.seq k).state ∧
    ∀ st, 1 ≤ st → st ≤ 30 → (d.stationConfig k st).configured = true →
      ((openBranch k d).station k st).resyncPending = true := by
  have admission : ({ d.setAdmission k .opened with openedAt := d.openedAt.set k d.now } :
    Device).admission k = .opened := PerBranch.get_set_self ..
  have instant : ({ d.setAdmission k .opened with openedAt := d.openedAt.set k d.now } :
    Device).openedAt.get k = d.now := PerBranch.get_set_self ..
  have seq : ({ d.setAdmission k .opened with openedAt := d.openedAt.set k d.now } :
    Device).seq k = d.seq k := rfl
  have config (st : Nat) : ({ d.setAdmission k .opened with openedAt := d.openedAt.set k d.now } :
    Device).stationConfig k st = d.stationConfig k st := rfl
  unfold openBranch
  generalize ({ d.setAdmission k .opened with openedAt := d.openedAt.set k d.now } : Device) = x at *
  have w := markResyncAll_writes x k
  rw [← seq]
  refine ⟨(congrArg (PerBranch.get · k) w.branchAdm).trans admission,
    (congrArg (PerBranch.get · k) w.openedAt).trans instant, Sequencer.state_of_core (w.core k),
    fun st h1 h2 configured => markResyncAll_pending k x h1 h2 ?_⟩
  rw [config]
  exact configured

/-- Settles O51: the cases of `setBranch`, the opening, and the flush of a branch. -/
theorem setLineActsOnABranch : Obligations.SetLineActsOnABranch := by
  intro now req k s takes bare line arrived answer armed opened shut flushed shutting
  have performed := performSetLine_branch 0x05 (be2 req.tag.toNat) k req.argB.toNat arrived
  rw [← line] at performed
  have branch {n : Nat} (state : req.argB.toNat = n) {x : Device × Option Reply}
      (h : setBranch k n 0x05 (be2 req.tag.toNat) arrived = x) :
      performSetLine req.argA.toNat req.argB.toNat 0x05 (be2 req.tag.toNat) arrived = x := by
    rw [performed, state]
    exact h
  refine ⟨fun state was => ?stays, fun state was held => ?armed, fun state was free => ?opens,
    fun state was => ?staysShut, fun state was idle => ?shuts,
    fun state was busy still => ?shutting, fun state => ?other⟩
  case stays => exact exec_setLine takes bare (branch state (setBranch_opened _ _ was)) rfl
  case armed =>
    refine exec_setLine takes bare (branch state (setBranch_armed _ _ was ?_)) rfl
    exact (armedFor_iff ..).2 held
  case opens =>
    have unarmed : arrived.change.armedFor k.line = false :=
      Bool.eq_false_iff.2 fun held => free ((armedFor_iff ..).1 held)
    exact ⟨exec_setLine takes bare (branch state (setBranch_opens _ _ was unarmed))
      (openBranch_writes arrived k).endpoint, openBranch_opens k arrived⟩
  case staysShut => exact exec_setLine takes bare (branch state (setBranch_shut _ _ was)) rfl
  case shuts =>
    have seq : shut.seq k = (s.dev.seq k).flushed := shutBranch_seq k arrived
    have egr : shut.egr k.line = _ := shutBranch_egr k arrived
    refine ⟨exec_setLine takes bare (branch state (setBranch_shuts _ _ was idle))
      (shutBranch_writes arrived k).endpoint, shutBranch_admission k arrived,
      fun c => ⟨shutBranch_queue k arrived c, shutBranch_release k arrived c⟩,
      shutBranch_slotsAt k arrived, shutBranch_contexts k arrived, by rw [seq]; rfl,
      by rw [seq]; rfl, by rw [seq]; rfl, by rw [egr]; rfl, fun l c => ?_, fun _ refs cid c =>
      circuitCount_shutBranch k arrived refs cid c⟩
    have before (other : c ≠ .framesReceived) : arrived.lineCount l c = s.dev.lineCount l c :=
      lineCount_arrived s.dev now _ l other
    refine (lineCount_shutBranch k arrived l c).trans ?_
    split
    next here =>
      exact congrArg (fun n => flushed.foldl (fun n _ => raiseCount n 1) n)
        (before (by rw [here.2]; decide))
    next =>
      split
      next here =>
        exact congrArg (fun n => (s.dev.contexts.filter fun x => x.branch == k).foldl
          (fun n _ => raiseCount n 1) n) (before (by rw [here.2]; decide))
      next => rfl
  case shutting =>
    have done := branch state (setBranch_shutting 0x05 (be2 req.tag.toNat) was busy)
    have event := requestEvent_held now .setLine takes
      ((performRequest_setLine bare arrived).trans done)
    have slot : arrived.endpoint.slot = none := takes.2.1.1
    refine (exec_requestCommand now .setLine req s).trans (next_congr (event.trans ?_))
    exact trunkChoose_quiet slot still
  case other => exact exec_setLine takes bare (branch rfl (setBranch_other _ _ state)) rfl

end Sys2Proof.Machine

/-! A cycle start: the late T slots and the old contexts that are given up. -/

namespace Sys2Proof.Machine

open Device (Writes)

variable {d d' : Device}

/- ### The late slots (R101) -/

/-- The T slots whose frame is late. -/
def Device.lateSlots (d : Device) : List (Nat × Nat) :=
  (d.slotsAt .t).filter fun x => d.isLate x.2

set_option Elab.async false in
theorem discardLate_eq (d : Device) : discardLate d =
    { d.dropAll .t .late (d.lateSlots.map Prod.snd) with
      slots := (d.lateSlots.map Prod.fst).foldl Table.erase d.slots } := dropSlots_eq ..

theorem mem_lateSlots {cid ref : Nat} : (cid, ref) ∈ d.lateSlots ↔
    (cid, ref) ∈ d.slots.cells ∧ d.slotLine? cid = some .t ∧ d.isLate ref = true := by
  unfold Device.lateSlots Device.slotsAt
  rw [List.mem_filter, List.mem_filter, beq_iff_eq]
  exact and_assoc

theorem isLate_iff (ref : Nat) : d.isLate ref = true ↔
    ∃ f fill, d.frame? ref = some f ∧ f.fillCycle = some fill ∧
      (fill = d.timer.cycle - 2 ∨ Cycle.ahead (d.timer.cycle - 2) fill = true) := by
  unfold Device.isLate
  rcases d.frame? ref with _ | f
  · exact ⟨fun h => (nomatch h), fun ⟨_, _, h, _⟩ => nomatch h⟩
  · rcases hf : f.fillCycle with _ | fill
    · simp only [Option.bind_some, hf]
      refine ⟨fun h => (nomatch h), fun ⟨g, fill, same, filled, _⟩ => ?_⟩
      rw [← Option.some_inj.1 same, hf] at filled
      exact nomatch filled
    · simp only [Option.bind_some, hf, Cycle.atOrBehind, Bool.or_eq_true, beq_iff_eq]
      refine ⟨fun h => ⟨f, fill, rfl, hf, h⟩, fun ⟨g, fill', same, filled, late⟩ => ?_⟩
      rw [← Option.some_inj.1 same, hf] at filled
      rw [Option.some_inj.1 filled]
      exact late

/-- A slot is emptied by lateness when it is one of these. -/
theorem slot_discardLate (d : Device) (cid : Nat) : (discardLate d).slots.find? cid =
    if cid ∈ d.lateSlots.map Prod.fst then none else d.slots.find? cid := by
  rw [discardLate_eq]
  exact find?_eraseAll ..

theorem mem_lateKeys (sorted : d.slots.sorted) {cid ref : Nat} (held : d.slots.find? cid = some ref) :
    cid ∈ d.lateSlots.map Prod.fst ↔ d.slotLine? cid = some .t ∧ d.isLate ref = true := by
  constructor
  · intro mem
    obtain ⟨⟨cid, ref'⟩, listed, rfl⟩ := List.mem_map.1 mem
    obtain ⟨cell, line, late⟩ := mem_lateSlots.1 listed
    have here : d.slots.find? cid = some ref' := Table.find?_of_mem sorted cell
    rw [show d.slots.find? cid = some ref from held] at here
    rw [Option.some_inj.1 here]
    exact ⟨line, late⟩
  · rintro ⟨line, late⟩
    exact List.mem_map.2 ⟨(cid, ref), mem_lateSlots.2 ⟨Table.mem_of_lookup held, line, late⟩, rfl⟩

theorem lineCount_discardLate (d : Device) (l : Line) (c : LineCounter) :
    (discardLate d).lineCount l c = if l = .t ∧ c = .late then
      d.lateSlots.foldl (fun n _ => raiseCount n 1) (d.lineCount l c) else d.lineCount l c := by
  rw [discardLate_eq]
  refine (lineCount_dropAll d .t .late _ l c).trans ?_
  rw [List.foldl_map]
  rfl

/-- The circuits' counts, where every reference is to a held frame (R44, R88). -/
theorem circuitCount_discardLate (refs : d.refsOk) (cid : Nat) (c : CircuitCounter) :
    (discardLate d).circuitCount cid c = if c = .late ∧ d.circuit? cid ≠ none then
      (d.lateSlots.filter fun x => (d.frame? x.2).map Frame.cid == some cid).foldl
        (fun n _ => raiseCount n 1) (d.circuitCount cid c) else d.circuitCount cid c := by
  have held (ref : Nat) : (d.lateSlots.map Prod.snd).count ref ≤ d.pool.refsOf ref := by
    have slots : (d.lateSlots.map Prod.snd).count ref ≤ (d.slots.cells.map Prod.snd).count ref :=
      ((List.filter_sublist.trans List.filter_sublist).map Prod.snd).count_le ref
    rw [refsOf_of_refsOk refs]
    unfold Device.references
    rw [List.count_append, List.count_append, List.count_append]
    omega
  rw [discardLate_eq]
  refine (circuitCount_dropAll d .t .late _ held cid c).trans
    (if_congr ⟨fun h => ⟨(Option.some_inj.1 h.2).symm, h.1⟩, fun h => ⟨h.2, by rw [h.1]; rfl⟩⟩ ?_ rfl)
  rw [List.filter_map, List.foldl_map]
  rfl

/- ### The old contexts (R152) -/

/-- The contexts that have timed out. -/
def Device.oldContexts (d : Device) : List Context := d.contexts.filter d.aged

theorem ageContexts_eq (d : Device) :
    ageContexts d = d.oldContexts.foldl (abandonContext .timeout) d := rfl

/- ### What is given up depends on what is held, the cycle and the tables -/

theorem lateSlots_congr (slots : d'.slots = d.slots) (pool : d'.pool = d.pool)
    (tables : d'.tables = d.tables) (timer : d'.timer = d.timer) : d'.lateSlots = d.lateSlots := by
  unfold Device.lateSlots Device.slotsAt Device.slotLine? Device.circuit? Device.isLate Device.frame?
  rw [slots, pool, tables, timer]

theorem discardLate_congr (slots : d'.slots = d.slots) (pool : d'.pool = d.pool)
    (tables : d'.tables = d.tables) (timer : d'.timer = d.timer) :
    (discardLate d').slots = (discardLate d).slots ∧
      (discardLate d').pool = (discardLate d).pool := by
  rw [discardLate_eq, discardLate_eq]
  dsimp only
  rw [dropAll_pool, dropAll_pool, lateSlots_congr slots pool tables timer, slots, pool]
  exact ⟨rfl, rfl⟩

theorem oldContexts_congr (contexts : d'.contexts = d.contexts) (tables : d'.tables = d.tables)
    (timer : d'.timer = d.timer) : d'.oldContexts = d.oldContexts := by
  unfold Device.oldContexts
  rw [contexts]
  refine List.filter_congr fun c _ => ?_
  unfold Device.aged
  rw [tables, timer]

theorem abandon_pool (reason : LineCounter) (xs : List Context) (d : Device) :
    (xs.foldl (abandonContext reason) d).pool =
      xs.foldl (fun p c => p.giveBack c.blocks c.branch.line) d.pool := by
  induction xs generalizing d with
  | nil => rfl
  | cons c xs ih => exact ih (abandonContext reason d c)

set_option Elab.async false in
theorem ageContexts_contexts (contexts : d'.contexts = d.contexts) (tables : d'.tables = d.tables)
    (timer : d'.timer = d.timer) : (ageContexts d').contexts = (ageContexts d).contexts := by
  rw [ageContexts_eq, ageContexts_eq, abandon_contexts, abandon_contexts,
    oldContexts_congr contexts tables timer, contexts]

theorem ageContexts_pool (contexts : d'.contexts = d.contexts) (tables : d'.tables = d.tables)
    (timer : d'.timer = d.timer) (pool : d'.pool = d.pool) :
    (ageContexts d').pool = (ageContexts d).pool := by
  rw [ageContexts_eq, ageContexts_eq, abandon_pool, abandon_pool,
    oldContexts_congr contexts tables timer, pool]

theorem refill_meters (is : List Nat) (meters : d'.meters = d.meters) (tables : d'.tables = d.tables) :
    (is.foldl refillMeter d').meters = (is.foldl refillMeter d).meters := by
  induction is generalizing d d' with
  | nil => exact meters
  | cons m is ih =>
    refine ih (d := refillMeter d m) (d' := refillMeter d' m) ?_ tables
    unfold refillMeter Device.setMeterState Device.meterState Device.meterSettings
    rw [meters, tables]

end Sys2Proof.Machine

/-! A cycle start with no commit: late slots, old contexts, meters and probe countdowns in one event. -/

namespace Sys2Proof.Machine

open Device (Writes)

variable {d d' : Device}

/- ### Stations at a branch's cycle start -/

/-- Every station's state and probe countdown are the same in both parts. -/
def Device.SameHealth (d d' : Device) : Prop := ∀ (k : Branch) (st : Nat),
  (d'.station k st).state = (d.station k st).state ∧
    (d'.station k st).probeCountdown = (d.station k st).probeCountdown

open Device (SameHealth)

set_option Elab.async false in
theorem Device.SameHealth.refl (d : Device) : SameHealth d d := fun _ _ => ⟨rfl, rfl⟩

theorem Device.SameHealth.trans {d'' : Device} (h : SameHealth d d') (g : SameHealth d' d'') :
    SameHealth d d'' := fun k st =>
  ⟨(g k st).1.trans (h k st).1, (g k st).2.trans (h k st).2⟩

theorem Device.SameHealth.of_stations (h : d'.stations = d.stations) : SameHealth d d' := by
  intro k st
  unfold Device.station
  rw [h]
  exact ⟨rfl, rfl⟩

theorem Device.SameHealth.foldl {α : Type} {f : Device → α → Device}
    (h : ∀ d x, SameHealth d (f d x)) (xs : List α) (d : Device) : SameHealth d (xs.foldl f d) :=
  List.foldlRecOn (motive := SameHealth d) xs f (.refl d) fun x hx a _ => hx.trans (h x a)

theorem setStation_sameHealth (k : Branch) (s : Nat) {x : Station}
    (state : x.state = (d.station k s).state)
    (countdown : x.probeCountdown = (d.station k s).probeCountdown) :
    SameHealth d (d.setStation k s x) := by
  intro j st
  rw [station_setStation]
  split
  next same =>
    have here : d.station j st = d.station k s := by
      unfold Device.station
      rw [same]
    rw [here]
    exact ⟨state, countdown⟩
  next => exact ⟨rfl, rfl⟩

theorem missElement_sameHealth (k : Branch) (d : Device) (e : Element) :
    SameHealth d (missElement k d e) :=
  Device.SameHealth.trans (d' := (setElement k e.index .missed d).bumpLine k.line .missed)
    (.of_stations rfl) (setStation_sameHealth k e.station rfl rfl)

theorem clearServiced_sameHealth (k : Branch) (d : Device) : SameHealth d (clearServiced k d) :=
  .foldl (fun (y : Device) s => setStation_sameHealth (d := y) k s
    (x := { y.station k s with serviced := false }) rfl rfl) _ d

theorem stations_sendCycle (k : Branch) (d : Device) (q : Sequencer) (cycle : Cycle) :
    (sendBranch k .cycle (cycleFrame cycle)
      ((d.setSeq k q).bumpLine k.line .cyclesBegun)).stations = d.stations := by
  generalize cycleFrame cycle = f
  rfl

/-- A branch's cycle start leaves the health of every station. -/
theorem branchCycleStart_sameHealth (cycle : Cycle) (deadline : Nat) (d : Device) (k : Branch) :
    SameHealth d (branchCycleStart cycle deadline d k) := by
  unfold branchCycleStart
  split
  · split
    · have missed : SameHealth d ((d.pendingElements k).foldl (missElement k) d) :=
        .foldl (missElement_sameHealth k) _ d
      refine (missed.trans (clearServiced_sameHealth k _)).trans ?_
      unfold beginCycle
      dsimp only
      generalize clearServiced k ((d.pendingElements k).foldl (missElement k) d) = x
      exact .of_stations (stations_sendCycle ..)
    · exact .of_stations rfl
  · exact .refl d

/- ### The end of the event -/

theorem raiseEvent_slot (kind : EventKind) (line : Option Line) (station : Option Nat)
    (detail : Nat) (d : Device) :
    (raiseEvent kind line station detail d).endpoint.slot = d.endpoint.slot := joinEvent_slot ..

theorem raiseFrameEvents_slot (old : Timer) (slip : Bool) (d : Device) :
    (raiseFrameEvents old slip d).endpoint.slot = d.endpoint.slot := by
  have locks : (if old.state ≠ .locked then raiseEvent .cycleLocked (some .t) none old.miss d
      else d).endpoint.slot = d.endpoint.slot := by
    split
    · exact raiseEvent_slot ..
    · rfl
  unfold raiseFrameEvents
  dsimp only
  split
  · exact (raiseEvent_slot ..).trans locks
  · exact locks

theorem raiseLocalEvents_slot (fromLocked : Bool) (before : Nat) (d : Device) :
    (raiseLocalEvents fromLocked before d).endpoint.slot = d.endpoint.slot := by
  have coasts : (if fromLocked = true then raiseEvent .cycleCoasting (some .t) none 0 d
      else d).endpoint.slot = d.endpoint.slot := by
    split
    · exact raiseEvent_slot ..
    · rfl
  unfold raiseLocalEvents
  dsimp only
  generalize (if fromLocked = true then raiseEvent .cycleCoasting (some .t) none 0 d else d) = x
    at coasts ⊢
  split
  · exact (raiseEvent_slot ..).trans coasts
  · exact coasts

set_option Elab.async false in
theorem slots_attended (d : Device) : d.attended.slots = d.slots := by
  unfold Device.attended
  split
  · unfold Device.answered
    split <;> rfl
  · rfl

/-- What a hand-out leaves of the blocks that the lateness and the ages of frames decide (R76). -/
theorem handOut_gives (d : Device) :
    (handOut d).slots = (discardLate d).slots ∧ (handOut d).contexts = (ageContexts d).contexts ∧
    (handOut d).pool = (ageContexts (discardLate d)).pool ∧
    (handOut d).meters = (refillMeters d).meters := by
  have refilled := refillMeters_writes d
  have late := discardLate_writes (refillMeters d)
  have aged := ageContexts_writes (discardLate (refillMeters d))
  have counted := countDownProbes_writes (ageContexts (discardLate (refillMeters d)))
  have branches (f : Device → Branch → Device)
      (h : ∀ x k, Writes [.seqs, .cores, .lines, .stations] x (f x k)) (x : Device) :
      Writes [.seqs, .cores, .lines, .stations] x (Branch.all.foldl f x) := .foldl h _ x
  obtain ⟨slots, pool⟩ := discardLate_congr refilled.slots refilled.pool refilled.tables refilled.timer
  have late' := discardLate_writes d
  have contexts := ageContexts_contexts (late.contexts.trans refilled.contexts)
    (late.tables.trans refilled.tables) (late.timer.trans refilled.timer)
  have given := ageContexts_pool
    ((late.contexts.trans refilled.contexts).trans late'.contexts.symm)
    ((late.tables.trans refilled.tables).trans late'.tables.symm)
    ((late.timer.trans refilled.timer).trans late'.timer.symm) pool
  rw [handOut_eq]
  have started := branches _ (fun x k => branchCycleStart_writes x k d.timer.cycle (d.now +
    d.tables.device.d * 1000 - d.tables.device.g * 1000)) (readied d)
  have ready : Writes [.stations] (ageContexts (discardLate (refillMeters d))) (readied d) := counted
  exact ⟨(started.slots.trans (ready.slots.trans aged.slots)).trans slots,
    (started.contexts.trans ready.contexts).trans contexts,
    (started.pool.trans ready.pool).trans given,
    started.meters.trans (ready.meters.trans (aged.meters.trans late.meters))⟩

/-- The hand-out leaves every station's state, and its countdown as it runs at the start (R140). -/
theorem handOut_stations (d : Device) {k : Branch} {st : Nat} (h1 : 1 ≤ st) (h2 : st ≤ 30) :
    ((handOut d).station k st).state = (d.station k st).state ∧
    ((handOut d).station k st).probeCountdown = ((countDownProbes d).station k st).probeCountdown := by
  have before : Writes [.meters, .lines, .circuitCounters, .pool, .slots, .contexts] d
      (ageContexts (discardLate (refillMeters d))) :=
    ((refillMeters_writes d).mono.andThen (discardLate_writes _)).andThen (ageContexts_writes _)
  have started : SameHealth (readied d) (handOut d) := by
    rw [handOut_eq]
    exact .foldl (fun x k => branchCycleStart_sameHealth _ _ x k) _ _
  obtain ⟨state, countdown⟩ := started k st
  have here := (probeCountdownsRunOnOpenBranches d).2 k st h1 h2
  have there := (probeCountdownsRunOnOpenBranches
    (ageContexts (discardLate (refillMeters d)))).2 k st h1 h2
  have station : (ageContexts (discardLate (refillMeters d))).station k st = d.station k st := by
    unfold Device.station
    rw [before.stations]
  have admission : (ageContexts (discardLate (refillMeters d))).admission k = d.admission k :=
    congrArg (PerBranch.get · k) before.branchAdm
  rw [station, admission] at there
  have counted : (readied d).station k st = (countDownProbes d).station k st := there.trans here.symm
  rw [counted] at state countdown
  have healthy : ((countDownProbes d).station k st).state = (d.station k st).state := by
    dsimp only at here
    rw [here]
    split <;> rfl
  exact ⟨state.trans healthy, countdown⟩

theorem trunkQuiet_of_writes {fs : List Field} (w : Writes fs d d') (h : d.trunkQuiet)
    (free : .trunkTx ∉ fs ∧ .trunkAdm ∉ fs ∧ .slots ∉ fs ∧ .egress ∉ fs ∧ .tables ∉ fs := by decide) :
    d'.trunkQuiet := by
  obtain ⟨trunkTx, trunkAdm, slots, egress, tables⟩ := free
  unfold Device.trunkQuiet Device.slotsAt Device.slotLine? Device.circuit? Device.queue Device.egr at h ⊢
  rw [w.trunkTx trunkTx, w.trunkAdm trunkAdm, w.slots slots, w.egress egress, w.tables tables]
  exact h

/-- The hand-out leaves the transmitter with nothing to start where it had nothing (R98). -/
theorem handOut_trunkQuiet (h : d.trunkQuiet) : (handOut d).trunkQuiet := by
  have w := handOut_writes d
  have slots := (handOut_gives d).1
  unfold Device.trunkQuiet at h ⊢
  rw [w.trunkTx, w.trunkAdm]
  refine h.imp_right (.imp_right fun ⟨empty, queue⟩ => ⟨?_, fun c => ?_⟩)
  · refine List.filter_eq_nil_iff.2 fun c mem here => ?_
    rw [slots, discardLate_eq] at mem
    dsimp only at mem
    rw [eraseAll_cells] at mem
    have line : (handOut d).slotLine? c.1 = d.slotLine? c.1 := by
      unfold Device.slotLine? Device.circuit?
      rw [w.tables]
    rw [line] at here
    exact List.filter_eq_nil_iff.1 empty c (List.mem_filter.1 mem).1 here
  · unfold Device.queue Device.egr
    rw [w.egress]
    exact queue c

/- ### What a start without a commit hands out (R76) -/

/-- The part that a start without a commit hands out: the timer has gone on, and events have been
raised. -/
theorem frameStart_hands (number : Cycle) (d : Device) (calm : d.change.state ≠ .armed)
    (slot : d.endpoint.slot = none) : ∃ x, frameStart number d = handOut x ∧
      Writes [.timer, .endpoint] d x ∧ x.timer.cycle = number ∧ x.endpoint.slot = none := by
  have act : (startTimer number .locked 0 d).changeAct (d.timer.slips number) = .nothing :=
    changeAct_calm calm
  have started := startedCycle_calm act
  have timer : Writes [.timer] d (setExpiry (startTimer number .locked 0 d)) := (startTimer_writes ..).andThen (setExpiry_writes _)
  have raised := raiseFrameEvents_writes (setExpiry (startTimer number .locked 0 d)) d.timer
    (d.timer.slips number)
  refine ⟨_, ?_, timer.mono.andThen raised, congrArg Timer.cycle raised.timer,
    (raiseFrameEvents_slot ..).trans slot⟩
  rw [frameStart_eq, act, started]
  rfl

theorem localStart_hands (d : Device) (calm : d.change.state ≠ .armed)
    (slot : d.endpoint.slot = none) : ∃ x, localStart d = handOut x ∧
      Writes [.timer, .endpoint] d x ∧ x.timer.cycle = d.timer.cycle + 1 ∧
      x.endpoint.slot = none := by
  have act : localAct d = .nothing := changeAct_calm calm
  have started : localCycle d = setExpiry (startTimer (d.timer.cycle + 1)
      (if d.timer.state = .free then .free else .coasting) (min (d.timer.miss + 1) 65535) d) :=
    startedCycle_calm act
  have timer : Writes [.timer] d (localCycle d) := by
    rw [started]
    exact (startTimer_writes ..).andThen (setExpiry_writes _)
  have raised : Writes [.endpoint, .timer] (localCycle d) (startedLocal d) :=
    raiseLocalEvents_writes (localCycle d) (d.timer.state = .locked) d.tables.device.n
  have last : (startedLocal d).endpoint.slot = (localCycle d).endpoint.slot :=
    raiseLocalEvents_slot ..
  refine ⟨startedLocal d, ?_, timer.mono.andThen raised, ?_, ?_⟩
  · have start : localStart d = handOut (raiseCommit (localAct d) (startedLocal d)) :=
      localStart_eq d
    rw [start, act]
    exact congrArg handOut rfl
  · rw [startedLocal_exact]
  · rw [last, timer.endpoint]
    exact slot

/-- Settles O41: the slots and contexts given up, and the one event of a start without a commit. -/
theorem lateSlotsAndOldContextsAreGivenUp : Obligations.LateSlotsAndOldContextsAreGivenUp := by
  refine ⟨?slots, ?contexts, ?starts⟩
  case slots =>
    intro d sorted isLate lates lateOf
    have same : lates = d.lateSlots := by
      unfold Device.lateSlots Device.slotsAt
      rw [List.filter_filter]
      refine List.filter_congr fun x _ => ?_
      dsimp only [isLate]
      unfold Device.isLate Cycle.atOrBehind
      rcases d.slotLine? x.1 with _ | l
      · exact (Bool.and_false _).symm
      · cases l <;> rcases (d.frame? x.2).bind Frame.fillCycle with _ | fill <;> simp
    refine ⟨fun l c => ?_, fun _ refs cid c => ?_, ?_, fun cid ref held => ?_⟩
    · rw [same]
      exact lineCount_discardLate d l c
    · dsimp only [lateOf]
      rw [same]
      exact circuitCount_discardLate refs cid c
    · have w := discardLate_writes d
      generalize discardLate d = d' at w ⊢
      exact w.eq_of fun f => by cases f <;> exact rfl
    · intro bound late
      have listed := mem_lateKeys sorted held
      rw [isLate_iff] at listed
      exact ⟨fun h => (slot_discardLate d cid).trans (if_pos (listed.2 h)),
        fun h => (slot_discardLate d cid).trans ((if_neg (mt listed.1 h)).trans held)⟩
  case contexts =>
    intro d apart bound stays
    have aged (c : Context) : d.aged c = !stays c := (Bool.not_not _).symm
    have old : d.oldContexts = d.contexts.filter fun c => !stays c :=
      List.filter_congr fun c _ => aged c
    rw [ageContexts_eq]
    refine ⟨fun l c => ?_, abandon_circuitCounters .., ?_, ?_, abandon_frames .., fun k => ?_⟩
    · rw [lineCount_abandon, old, List.filter_filter]
      simp only [Bool.and_comm]
    · refine (abandon_those .timeout d d.aged apart).trans (List.filter_congr fun c _ => ?_)
      rw [aged, Bool.not_not]
    · rw [← old]
      exact abandon_free ..
    · rw [← old]
      exact abandon_usage ..
  case starts =>
    intro s quiet calm reached
    obtain ⟨runs, ready, still⟩ := quiet
    have asked : s.dev.unasked := ⟨ready.2.1, ready.2.2.1⟩
    have reaches (x : Device) (w : Writes [.timer, .endpoint, .lines, .now] s.dev x) (n : Cycle)
        (cycle : x.timer.cycle = n) (slot : x.endpoint.slot = none)
        (unasked : (handOut x).unasked) : reached { s with dev := settle (handOut x) } n := by
      have hands := handOut_writes x
      have ends := settle_unasked_writes unasked
      have attends : settle (handOut x) = (handOut x).attended := by
        refine settle_attention ?_ unasked.1 unasked.2 (handOut_trunkQuiet (trunkQuiet_of_writes w still))
        rw [hands.endpoint]
        exact slot
      have timer := ends.timer.trans hands.timer
      have slots : (settle (handOut x)).slots = (handOut x).slots := by
        rw [attends]
        exact slots_attended _
      have pool := ends.pool
      have contexts := ends.contexts
      have meters := ends.meters
      have stations := ends.stations
      obtain ⟨slots', contexts', pool', meters'⟩ := handOut_gives x
      have health (k : Branch) (st : Nat) (h1 : 1 ≤ st) (h2 : st ≤ 30) := handOut_stations x
        (k := k) h1 h2
      have station (k : Branch) (st : Nat) : (settle (handOut x)).station k st =
          (handOut x).station k st := by
        unfold Device.station
        rw [stations]
      have counts (k : Branch) (st : Nat) (h1 : 1 ≤ st) (h2 : st ≤ 30) :
          (countDownProbes x).station k st = (countDownProbes s.dev).station k st := by
        have here := (probeCountdownsRunOnOpenBranches x).2 k st h1 h2
        have there := (probeCountdownsRunOnOpenBranches s.dev).2 k st h1 h2
        have station : x.station k st = s.dev.station k st := by
          unfold Device.station
          rw [w.stations]
        have admission : x.admission k = s.dev.admission k :=
          congrArg (PerBranch.get · k) w.branchAdm
        rw [station, admission] at here
        exact here.trans there.symm
      generalize settle (handOut x) = t at *
      have late := discardLate_congr (d' := x) (d := { s.dev with timer := t.timer }) w.slots w.pool
        w.tables timer.symm
      have first := discardLate_writes x
      have second := discardLate_writes { s.dev with timer := t.timer }
      refine ⟨(congrArg Timer.cycle timer).trans cycle, (slots.trans slots').trans late.1,
        (contexts.trans contexts').trans (ageContexts_contexts (d' := x)
          (d := { s.dev with timer := t.timer }) w.contexts w.tables timer.symm),
        (pool.trans pool').trans (ageContexts_pool (d' := discardLate x)
          (d := discardLate { s.dev with timer := t.timer })
          ((first.contexts.trans w.contexts).trans second.contexts.symm)
          ((first.tables.trans w.tables).trans second.tables.symm)
          ((first.timer.trans timer.symm).trans second.timer.symm) late.2),
        (meters.trans meters').trans (refill_meters _ w.meters w.tables), fun k st h1 h2 => ?_⟩
      obtain ⟨state, countdown⟩ := health k st h1 h2
      have before : (x.station k st).state = (s.dev.station k st).state := by
        unfold Device.station
        rw [w.stations]
      dsimp only
      rw [station]
      exact ⟨state.trans before, countdown.trans (congrArg Station.probeCountdown (counts k st h1 h2))⟩
    have local_ (due : Nat) :
        reached { s with dev := settle (localStart { s.dev with now := due }) }
          (s.dev.timer.cycle + 1) := by
      have unasked := localStart_unasked (d := { s.dev with now := due }) asked
      obtain ⟨x, start, w, cycle, slot⟩ := localStart_hands { s.dev with now := due } calm ready.1
      rw [start] at unasked ⊢
      exact reaches x ((now_writes s.dev due).mono.andThen w) _ cycle slot unasked
    refine ⟨fun now n accepts => ?_, fun early due window => ?_, fun due pending => ?_⟩
    · have arrived := arrived_writes s.dev now (trunkCycle n)
      have unasked := frameStart_unasked n (arrived.unasked asked)
      obtain ⟨x, start, w, cycle, slot⟩ := frameStart_hands n (s.dev.arrived now (trunkCycle n))
        (by rw [arrived.change]; exact calm) ready.1
      have event := exec_frameStart runs accepts (n := n)
      rw [start] at unasked event
      exact ⟨{ s with dev := settle (handOut x) }, event,
        reaches x (arrived.mono.andThen w) _ cycle slot unasked⟩
    · exact ⟨{ s with dev := settle (localStart { s.dev with now := due }) },
        exec_lockWindow runs window, local_ due⟩
    · exact ⟨{ s with dev := settle (localStart { s.dev with now := due }) },
        exec_localCycle runs pending, local_ due⟩

end Sys2Proof.Machine

/-! SUPPORT. Frames that arrive while an attempt waits for its reply. -/

namespace Sys2Proof.Machine

open Device (Writes)

variable {k : Branch} {start now : Nat} {bytes : List Byte} {r : InFlight} {f : BranchFrame} {s : State}

/- ### The attempt that waits (R128) -/

set_option Elab.async false in
theorem waiting_awaited {d : Device} (flies : (d.seq k).inFlight = some r) (waits : r.replyWait ≠ none) :
    d.waiting k = some r := by
  unfold Device.waiting
  rw [flies]
  exact Option.filter_eq_some_iff.2 ⟨rfl, Option.isSome_iff_ne_none.2 waits⟩

/-- The arrival of a frame while an attempt waits is judged by the checks of the line interface (R8). -/
theorem exec_awaited (h : s.dev.awaitsReply k start r) {c : Checked BranchFrame}
    (check : checkBranch (received 137 bytes) = c) {d : Device}
    (goes : branchChecked k c (collect k.line 137 bytes { s.dev with now := now }) = d) :
    exec (.branchFrameArrival k start now bytes) s = .next { s with dev := settle d } := by
  obtain ⟨runs, admission, opened, silent, -, -⟩ := h
  have arrives := branchArrival_received (d := { s.dev with now := now })
    (ignores_eq_false admission opened) (Device.receiverOff_idle silent) bytes
  refine next_event runs (arrives.trans ?_) rfl
  exact (congrArg (branchChecked k · _) check).trans goes

/-- A reply that the transaction allows, from its station, is accepted (R129). -/
theorem validArrival_accepts {d : Device} (waits : d.waiting k = some r)
    (station : f.station = r.station) (allows : r.txn.allows f = true) :
    validArrival k f d = acceptReply k r f d := by
  unfold validArrival
  rw [waits]
  exact if_pos ⟨station, allows⟩

/-- Another frame fails the attempt (R113, R129). -/
theorem validArrival_fails {d : Device} (waits : d.waiting k = some r)
    (other : ¬ (f.station = r.station ∧ r.txn.allows f = true)) :
    validArrival k f d = failAttempt k r (d.bumpBoth k r.station .protocolError .protocolError) := by
  unfold validArrival
  rw [waits]
  exact if_neg other

theorem erroredArrival_awaited {d : Device} (waits : d.waiting k = some r) :
    erroredArrival k d = failAttempt k r d := by
  unfold erroredArrival
  rw [waits]

/-- The reply that a transaction's own rule is about (R131 to R137). -/
def handleReply (k : Branch) (r : InFlight) (f : BranchFrame) (d : Device) : Device :=
  match r.txn with
  | .exchange .. => exchangeReply k r f d
  | .deliver c segment => deliverReply k r c segment f d
  | .service => serviceReply k r f d
  | .probe => serviceReply k r f d

/-- What an accepted reply comes to: the part has received it, and the transaction's rule acts. -/
theorem exec_reply (h : s.dev.awaitsReply k start r)
    (passed : checkBranch (received 137 bytes) = .passed f) (station : f.station = r.station)
    (allows : r.txn.allows f = true) :
    exec (.branchFrameArrival k start now bytes) s = .next { s with
      dev := settle (handleReply k { r with replyWait := none } f
        (s.dev.afterReply k r now bytes)) } := by
  obtain ⟨-, -, -, -, flies, waits⟩ := id h
  refine exec_awaited h passed ((validArrival_accepts (waiting_awaited ?_ waits) station allows).trans ?_)
  · exact flies
  · rfl

/-- A fault code that a reply brings (R139). -/
theorem replyOutcome_fault (h : f.kind = .fault) :
    replyOutcome f = .faultReply (f.payload.getD 0 0x00).toNat := if_pos h

theorem replyOutcome_success (h : f.kind ≠ .fault) : replyOutcome f = .success := if_neg h

end Sys2Proof.Machine

/-! The replies to a DELIVER: what they do to the entry at the head of its class. -/

namespace Sys2Proof.Machine

open Device (Writes)

variable {k : Branch} {st segment : Nat} {c : Class} {e : Entry} {es : List Entry} {f : Frame}
  {d : Device}

/- ### The head that leaves (R119, R121, R135) -/

set_option Elab.async false in
theorem setSeq_seq (d : Device) (k : Branch) : d.setSeq k (d.seq k) = d := by
  have same : d.seqs.set k (d.seqs.get k) = d.seqs := by cases k <;> rfl
  exact congrArg (fun x => { d with seqs := x }) same

/-- The part once the head of a class has left its queue, and a partial delivery of it has ended. -/
theorem removeHead_leaves (k : Branch) (c : Class) (es : List Entry) (d : Device) :
    removeHead k c es d = (d.setQueue k.line c es).setSeq k { d.seq k with
      delivering := if (d.seq k).delivering = some c then none else (d.seq k).delivering } := by
  unfold removeHead
  dsimp only
  split
  · rfl
  · exact (setSeq_seq (d.setQueue k.line c es) k).symm

/- ### ACK and BUSY (R121, R135) -/

section Ack

variable (queue : d.queue k.line c = e :: es) (held : d.frame? e.frame = some f)
include queue

/-- What an ACK comes to, once the down toggle has flipped (R135). -/
theorem deliverAck_eq {x : Device} (flips : flipDown k st d = x) : deliverAck k st c segment d =
    if e.nextSegment ≠ segment then x
    else if (x.segmentOf e segment).2 ≤ segment then (removeHead k c es x).releaseFrame e.frame
    else (x.setQueue k.line c ({ e with nextSegment := e.nextSegment + 1 } :: es)).setSeq k
      { x.seq k with delivering := some c } := by
  have w := flipDown_writes d k st
  rw [flips] at w
  have head : x.queue k.line c = e :: es := by
    unfold Device.queue Device.egr at queue ⊢
    rw [w.egress]
    exact queue
  unfold deliverAck
  dsimp only
  rw [flips]
  simp only [head]
  rfl

theorem deliverAck_stays (other : e.nextSegment ≠ segment) :
    deliverAck k st c segment d = flipDown k st d :=
  (deliverAck_eq queue rfl).trans (if_pos other)

include held

theorem deliverAck_goesOn (here : e.nextSegment = segment) (more : segment < f.chain.length) :
    deliverAck k st c segment d =
      ((flipDown k st d).setQueue k.line c ({ e with nextSegment := segment + 1 } :: es)).setSeq k
        { d.seq k with delivering := some c } := by
  have acked := deliverAck_eq (segment := segment) queue (rfl : flipDown k st d = _)
  have w := flipDown_writes d k st
  generalize flipDown k st d = x at acked w ⊢
  have frame : x.frame? e.frame = some f := by
    unfold Device.frame? at held ⊢
    rw [w.pool]
    exact held
  have seq : x.seq k = d.seq k := congrArg (PerBranch.get · k) w.seqs
  rw [acked, if_neg (not_not_intro here), segmentOf_eq frame, if_neg (Nat.not_le.2 more), here, seq]

theorem deliverAck_leaves (here : e.nextSegment = segment) (last : f.chain.length ≤ segment) :
    deliverAck k st c segment d =
      { ((flipDown k st d).setQueue k.line c es).setSeq k { (flipDown k st d).seq k with
          delivering := if (d.seq k).delivering = some c then none else (d.seq k).delivering } with
        pool := d.pool.release e.frame } := by
  have acked := deliverAck_eq (segment := segment) queue (rfl : flipDown k st d = _)
  have w := flipDown_writes d k st
  generalize flipDown k st d = x at acked w ⊢
  have frame : x.frame? e.frame = some f := by
    unfold Device.frame? at held ⊢
    rw [w.pool]
    exact held
  have seq : x.seq k = d.seq k := congrArg (PerBranch.get · k) w.seqs
  rw [acked, if_neg (not_not_intro here), segmentOf_eq frame, if_pos last, removeHead_leaves, ← seq,
    ← w.pool]
  rfl

end Ack

section Busy

variable (queue : d.queue k.line c = e :: es)

/-- The part once a BUSY has been counted and its class is held (R121). -/
def Device.busied (d : Device) (k : Branch) (st : Nat) (c : Class) : Device :=
  (d.bumpBoth k st .busyReceived .busyReceived).setSeq k
    { d.seq k with holds := (d.seq k).holds.set c true }

include queue

theorem deliverBusy_eq : deliverBusy k st c d =
    if e.busy + 1 = (d.settings k.line).busyLimit then
      (removeHead k c es (d.busied k st c)).dropFrame k.line e.frame .busyLimit
    else (d.busied k st c).setQueue k.line c ({ e with busy := e.busy + 1 } :: es) := by
  have head : (d.busied k st c).queue k.line c = e :: es := queue
  unfold deliverBusy
  rw [show holdClass k c (d.bumpBoth k st .busyReceived .busyReceived) = d.busied k st c from rfl]
  dsimp only
  simp only [head]
  rfl

theorem deliverBusy_leaves (held : d.frame? e.frame = some f)
    (limit : e.busy + 1 = (d.settings k.line).busyLimit) :
    deliverBusy k st c d =
      { (((d.busied k st c).setQueue k.line c es).setSeq k { (d.busied k st c).seq k with
          delivering := if (d.seq k).delivering = some c then none else (d.seq k).delivering
          }).countReason k.line f.cid .busyLimit with
        pool := d.pool.release e.frame } := by
  have seq : ((d.busied k st c).seq k).delivering = (d.seq k).delivering := by
    unfold Device.busied
    rw [seq_setSeq_self]
  rw [deliverBusy_eq queue, if_pos limit, removeHead_leaves, seq]
  have frame : (((d.busied k st c).setQueue k.line c es).setSeq k { (d.busied k st c).seq k with
      delivering := if (d.seq k).delivering = some c then none else (d.seq k).delivering
      }).frame? e.frame = some f := held
  have pool : (((d.busied k st c).setQueue k.line c es).setSeq k { (d.busied k st c).seq k with
      delivering := if (d.seq k).delivering = some c then none else (d.seq k).delivering
      }).pool = d.pool := rfl
  generalize ((d.busied k st c).setQueue k.line c es).setSeq k { (d.busied k st c).seq k with
      delivering := if (d.seq k).delivering = some c then none else (d.seq k).delivering } = x
    at frame pool ⊢
  unfold Device.dropFrame
  rw [frame]
  dsimp only
  unfold Device.releaseFrame
  rw [(countReason_writes ..).pool, pool]

end Busy

section Reply

variable {r : InFlight} {reply : BranchFrame}

theorem handleReply_deliver (txn : r.txn = .deliver c segment) :
    handleReply k r reply d = deliverReply k r c segment reply d := by
  unfold handleReply
  simp only [txn]

theorem deliverReply_ack (kind : reply.kind = .ack) (d : Device) :
    deliverReply k r c segment reply d =
      endTransaction k r .success (deliverAck k r.station c segment d) := by
  unfold deliverReply
  rw [replyOutcome_success (by rw [kind]; decide), if_pos kind]

theorem deliverReply_busy (kind : reply.kind = .busy) (d : Device) :
    deliverReply k r c segment reply d =
      endTransaction k r .success (deliverBusy k r.station c d) := by
  unfold deliverReply
  rw [replyOutcome_success (by rw [kind]; decide), if_neg (by rw [kind]; decide), if_pos kind]

theorem deliverReply_fault (kind : reply.kind = .fault) (d : Device) :
    deliverReply k r c segment reply d =
      endTransaction k r (.faultReply (reply.payload.getD 0 0x00).toNat) d := by
  unfold deliverReply
  rw [replyOutcome_fault kind, if_neg (by rw [kind]; decide), if_neg (by rw [kind]; decide)]

end Reply

set_option Elab.async false in
/-- Settles O37: the cases of `deliverReply`. -/
theorem deliverReplyActsOnTheEntry : Obligations.DeliverReplyActsOnTheEntry := by
  refine ⟨?replies, ?entry, ?ends⟩
  case replies =>
    intro k start now segment bytes f c r s awaits txn passed station heard ended
    have handled (allows : r.txn.allows f = true) {d : Device}
        (acts : deliverReply k { r with replyWait := none } c segment f heard = d) :
        exec (.branchFrameArrival k start now bytes) s = .next { s with dev := settle d } := by
      refine (exec_reply (now := now) awaits passed station allows).trans ?_
      rw [← acts, handleReply_deliver (by exact txn)]
    have allows (kind : f.kind = .ack ∨ f.kind = .busy ∨ f.kind = .fault) :
        r.txn.allows f = true := by
      rw [txn]
      unfold Txn.allows
      rcases kind with kind | kind | kind <;> rw [kind] <;> rfl
    exact ⟨fun kind => handled (allows (.inl kind)) (deliverReply_ack kind heard),
      fun kind => handled (allows (.inr (.inl kind))) (deliverReply_busy kind heard),
      fun kind => handled (allows (.inr (.inr kind))) (deliverReply_fault kind heard)⟩
  case entry =>
    intro k st segment c e es f d queue held x flipped counted left
    exact ⟨deliverAck_goesOn queue held, deliverAck_leaves queue held, deliverAck_stays queue,
      fun below => (deliverBusy_eq queue).trans (if_neg below), deliverBusy_leaves queue held⟩
  case ends =>
    intro k segment c r o d txn
    unfold settleTransaction
    rw [txn]
    rfl

end Sys2Proof.Machine

/-! The Reassembly Unit: what each segment does to its station's context. -/

namespace Sys2Proof.Machine

open Device (Writes)

variable {k : Branch} {st : Nat} {f : BranchFrame} {c : Context} {d : Device}

/- ### Claims of one block (R61, R62, R70) -/

set_option Elab.async false in
theorem receiptRefusal_eq_none_iff : d.receiptRefusal k = none ↔
    ¬ ((d.settings k.line).dropLevel < d.pool.usage.get k.line + 1 ∨ d.pool.free = []) := by
  unfold Device.receiptRefusal
  split
  next full => exact iff_of_false (fun h => nomatch h) (not_not_intro (.inl full))
  next room =>
    split
    next empty =>
      exact iff_of_false (fun h => nomatch h) (not_not_intro (.inr (List.isEmpty_iff.1 empty)))
    next some =>
      exact iff_of_true rfl fun h => h.elim room fun empty => some (List.isEmpty_iff.2 empty)

theorem blockFor_eq {block : Nat} {rest : List Nat} (free : d.pool.free = block :: rest)
    (bytes : List Byte) : d.blockFor bytes = { number := block, data := bytes } := by
  unfold Device.blockFor Pool.blocksGiven
  rw [free]
  rfl

theorem charge_one {block : Nat} {rest : List Nat} {p : Pool} (free : p.free = block :: rest)
    (l : Line) : p.charge 1 l = { p with free := rest, usage := p.usage.set l (p.usage.get l + 1) } := by
  unfold Pool.charge
  rw [free]
  rfl

section AfterClaim

variable (d : Device) (l : Line) (station : Option Nat) (n : Nat) (p : Pool)

/-- A claim depends on no context and on no line interface. -/
theorem afterClaim_around (cs : List Context) (ls : PerLine LineIf) :
    ({ d with contexts := cs, lines := ls } : Device).afterClaim l station n p =
      { d.afterClaim l station n p with contexts := cs, lines := ls } := by
  unfold Device.afterClaim
  split
  · unfold raiseEvent joinEvent
    dsimp only
    split <;> rfl
  · rfl

theorem afterClaim_contexts (cs : List Context) :
    ({ d with contexts := cs } : Device).afterClaim l station n p =
      { d.afterClaim l station n p with contexts := cs } := by
  unfold Device.afterClaim
  split
  · unfold raiseEvent joinEvent
    dsimp only
    split <;> rfl
  · rfl

theorem considerPoolEmpty_around (cs : List Context) (ls : PerLine LineIf) :
    considerPoolEmpty l station n { d with pool := p, contexts := cs, lines := ls } =
      { d.afterClaim l station n p with contexts := cs, lines := ls } :=
  (considerPoolEmpty_claim l station n { d with contexts := cs, lines := ls } p).trans
    (afterClaim_around ..)

theorem considerPoolEmpty_contexts (cs : List Context) :
    considerPoolEmpty l station n { d with pool := p, contexts := cs } =
      { d.afterClaim l station n p with contexts := cs } :=
  (considerPoolEmpty_claim l station n { d with contexts := cs } p).trans (afterClaim_contexts ..)

/-- Nor does it depend on what frames are held. -/
theorem afterClaim_frames (frames : Table Frame) :
    d.afterClaim l station n { p with frames := frames } =
      { d.afterClaim l station n p with
        pool := { (d.afterClaim l station n p).pool with frames := frames } } := by
  unfold Device.afterClaim
  dsimp only
  split
  · unfold raiseEvent joinEvent
    dsimp only
    split <;> rfl
  · rfl

end AfterClaim

/- ### Contexts (R147, R153) -/

/-- A station's context that is given up: the words of the statement. -/
theorem abandonContext_own (mine : c.branch = k ∧ c.station = st) (reason : LineCounter) (d : Device) :
    abandonContext reason d c =
      { d.bumpLine k.line reason with
        contexts := d.contexts.filter fun x => decide (¬ (x.branch = k ∧ x.station = st)),
        pool := { d.pool with
          free := c.blocks.map Block.number ++ d.pool.free,
          usage := d.pool.usage.set k.line (d.pool.usage.get k.line - c.blocks.length),
          emptyArmed := d.pool.emptyArmed ||
            decide (32 ≤ (c.blocks.map Block.number ++ d.pool.free).length) } } := by
  obtain ⟨rfl, rfl⟩ := mine
  have others : (fun x : Context => !(x.branch == c.branch && x.station == c.station)) =
      fun x => decide (¬ (x.branch = c.branch ∧ x.station = c.station)) := by
    funext x
    rw [Bool.eq_iff_iff]
    simp
  unfold abandonContext
  rw [others]
  rfl

theorem restartedByFirst_none (alone : d.context? k st = none) : restartedByFirst k st d = d := by
  unfold restartedByFirst
  simp only [alone]

theorem restartedByFirst_some (own : d.context? k st = some c) :
    restartedByFirst k st d = abandonContext .restartedByFirst d c := by
  unfold restartedByFirst
  simp only [own]

theorem takeSegment_first (first : f.position = .first) :
    takeSegment k st f d = takeFirstAlone k st f (restartedByFirst k st d) :=
  (if_pos first).trans (takeFirst_eq ..)

set_option Elab.async false in
theorem takeSegment_next (next : f.position ≠ .first) : takeSegment k st f d = takeNext k st f d :=
  if_neg next

theorem malformedBy_iff : c.malformedBy f = true ↔
    f.cid ≠ c.cid ∨ 8 ≤ c.blocks.length ∨ (f.position = .middle ∧ f.payload.length < 128) ∨
      (f.position = .last ∧ f.payload.length = 0) := by
  unfold Context.malformedBy
  simp only [Bool.or_eq_true, Bool.and_eq_true, bne_iff_ne, beq_iff_eq, decide_eq_true_eq, or_assoc]
  rfl

theorem takeNext_none (alone : d.context? k st = none) :
    takeNext k st f d = .ack (d.bumpLine k.line .orphan) := by
  unfold takeNext
  simp only [alone]

theorem takeNext_malformed (own : d.context? k st = some c) (bad : c.malformedBy f = true) :
    takeNext k st f d = .ack (abandonContext .malformed d c) := by
  unfold takeNext
  simp only [own]
  exact if_pos bad

theorem takeNext_refused (own : d.context? k st = some c) (good : ¬ c.malformedBy f = true)
    (refused : d.receiptRefusal k ≠ none) : takeNext k st f d = .busy d := by
  obtain ⟨reason, refuses⟩ := Option.ne_none_iff_exists'.1 refused
  unfold takeNext
  simp only [own, if_neg good, refuses]

theorem takeNext_met (own : d.context? k st = some c) (good : ¬ c.malformedBy f = true)
    (met : d.receiptRefusal k = none) : takeNext k st f d =
      if f.position = .last then
        { acknowledged := true, completed := some (c.frameRef (d.blockFor f.payload)),
          dev := completeContext c f d }
      else .ack (appendMiddle c f d) := by
  unfold takeNext
  simp only [own, if_neg good, met]

/-- A context's lookup after every context has been rewritten without its station. -/
theorem find?_appendBlock (own : d.context? k st = some c) (b : Block) :
    (d.appendBlock c b).find? (fun x => x.branch == k && x.station == st) =
      some { c with blocks := c.blocks ++ [b] } := by
  obtain ⟨-, branch, station⟩ := mem_of_context? own
  unfold Device.appendBlock
  rw [List.find?_map]
  have same : ((fun x : Context => x.branch == k && x.station == st) ∘ fun x =>
      if x.branch = c.branch ∧ x.station = c.station then { x with blocks := x.blocks ++ [b] }
      else x) = fun x => x.branch == k && x.station == st := by
    funext x
    rw [Function.comp_apply]
    split <;> rfl
  rw [same]
  unfold Device.context? at own
  rw [own]
  exact congrArg some (if_pos ⟨rfl, rfl⟩)

theorem find?_others (own : c.branch = k ∧ c.station = st) (cs : List Context) :
    (cs.filter fun x => !(x.branch == c.branch && x.station == c.station)).find?
      (fun x => x.branch == k && x.station == st) = none := by
  obtain ⟨rfl, rfl⟩ := own
  refine List.find?_eq_none.2 fun x mem => ?_
  have other := (List.mem_filter.1 mem).2
  rw [Bool.not_eq_true'] at other
  rw [other]
  exact Bool.false_ne_true

end Sys2Proof.Machine

/-! The Reassembly Unit: the cases of a segment, and the claims that are met. -/

namespace Sys2Proof.Machine

open Device (Writes)

variable {k : Branch} {st : Nat} {f : BranchFrame} {c : Context} {d : Device}

/- ### A FIRST that finds no context (R149) -/

set_option Elab.async false in
theorem takeFirstAlone_absent (absent : (d.station k st).state = .absent) :
    takeFirstAlone k st f d = .ack (d.bumpLine k.line .unconfigured) := if_pos absent

theorem takeFirstAlone_short (present : (d.station k st).state ≠ .absent)
    (short : f.payload.length < 128) :
    takeFirstAlone k st f d = .ack (d.bumpLine k.line .malformed) :=
  (if_neg present).trans (if_pos short)

theorem takeFirstAlone_refused (present : (d.station k st).state ≠ .absent)
    (full : f.payload.length = 128) (refused : 16 ≤ d.contexts.length ∨ d.receiptRefusal k ≠ none) :
    takeFirstAlone k st f d = .busy d := by
  have long : ¬ f.payload.length < Config.blockBytes := Nat.not_lt.2 full.ge
  unfold takeFirstAlone
  rw [if_neg present, if_neg long]
  by_cases most : Config.maxContexts ≤ d.contexts.length
  · rw [if_pos most]
  · obtain ⟨reason, refuses⟩ := Option.ne_none_iff_exists'.1 (refused.resolve_left most)
    rw [if_neg most]
    simp only [refuses]

theorem takeFirstAlone_met (present : (d.station k st).state ≠ .absent)
    (full : f.payload.length = 128) (few : d.contexts.length < 16)
    (met : d.receiptRefusal k = none) :
    takeFirstAlone k st f d = .ack (openContext k st f d) := by
  have long : ¬ f.payload.length < Config.blockBytes := Nat.not_lt.2 full.ge
  have room : ¬ Config.maxContexts ≤ d.contexts.length := Nat.not_le.2 few
  unfold takeFirstAlone
  rw [if_neg present, if_neg long, if_neg room]
  simp only [met]

/- ### What a met claim leaves (R62, R149 to R151) -/

section Met

variable {block : Nat} {rest : List Nat} (free : d.pool.free = block :: rest)
include free

/-- The pool once the block of a segment has been charged to its branch. -/
def chargedOne (p : Pool) (k : Branch) (rest : List Nat) : Pool :=
  { p with free := rest, usage := p.usage.set k.line (p.usage.get k.line + 1) }

theorem openContext_eq : openContext k st f d =
    { d.afterClaim k.line (some st) 1 (chargedOne d.pool k rest) with
      contexts := d.contexts ++
        [{ branch := k, station := st, cid := f.cid, priority := f.priority,
           blocks := [{ number := block, data := f.payload }], startCycle := d.timer.cycle }] } := by
  unfold openContext
  rw [blockFor_eq free, charge_one free]
  exact considerPoolEmpty_contexts ..

theorem appendMiddle_eq (own : c.branch = k ∧ c.station = st) : appendMiddle c f d =
    { d.afterClaim k.line (some st) 1 (chargedOne d.pool k rest) with
      contexts := d.appendBlock c { number := block, data := f.payload } } := by
  obtain ⟨rfl, rfl⟩ := own
  unfold appendMiddle
  rw [blockFor_eq free, charge_one free]
  exact considerPoolEmpty_contexts ..

/-- A completion, on the part as the claim leaves it. -/
theorem completeContext_eq (own : c.branch = k ∧ c.station = st) : completeContext c f d =
    { d.afterClaim k.line (some st) 1 (chargedOne d.pool k rest) with
      pool := { (d.afterClaim k.line (some st) 1 (chargedOne d.pool k rest)).pool with
        frames := d.pool.frames.insert (c.frameRef { number := block, data := f.payload })
          (c.completedFrame { number := block, data := f.payload }) },
      contexts := d.contexts.filter fun x => !(x.branch == c.branch && x.station == c.station),
      lines := (d.bumpLine k.line .reassembled).lines } := by
  obtain ⟨rfl, rfl⟩ := own
  have name : ((c.completedFrame { number := block, data := f.payload }).chain.headD ⟨0, []⟩).number =
      c.frameRef { number := block, data := f.payload } := by
    unfold Context.completedFrame Context.frameRef
    rcases c.blocks with _ | ⟨b, bs⟩ <;> rfl
  have claimed := considerPoolEmpty_around d c.branch.line (some c.station) 1
    { chargedOne d.pool c.branch rest with
      frames := d.pool.frames.insert (c.frameRef { number := block, data := f.payload })
        (c.completedFrame { number := block, data := f.payload }) }
    (d.contexts.filter fun x => !(x.branch == c.branch && x.station == c.station))
    (d.bumpLine c.branch.line .reassembled).lines
  rw [afterClaim_frames] at claimed
  refine Eq.trans ?_ claimed
  unfold completeContext Pool.hold
  dsimp only
  rw [blockFor_eq free, charge_one free, name]
  rfl

end Met

/-- Settles O40: the cases of `takeFirst` and `takeNext`, and the three claims that are met. -/
theorem segmentsAreReassembled : Obligations.SegmentsAreReassembled := by
  refine ⟨?cases, ?met⟩
  case cases =>
    intro k st f d taken dropped refused refusal without
    have refuses (h : refusal) : d.receiptRefusal k ≠ none := fun met =>
      receiptRefusal_eq_none_iff.1 met h
    have acks {x : Device} (h : taken = .ack x) : dropped x := by
      dsimp only [dropped]
      rw [h]
      exact ⟨rfl, rfl, rfl⟩
    have busies (h : taken = .busy d) : refused := by
      dsimp only [refused]
      rw [h]
      exact ⟨rfl, rfl, rfl⟩
    have given (c : Context) (own : d.context? k st = some c) (counter : LineCounter) :
        abandonContext counter d c = without c counter :=
      abandonContext_own (mem_of_context? own).2 counter d
    refine ⟨fun first => ?first, fun next => ?next⟩
    case first =>
      have alone (h : d.context? k st = none) : taken = takeFirstAlone k st f d := by
        refine (takeSegment_first first).trans ?_
        rw [restartedByFirst_none h]
      refine ⟨fun c own => ?_, fun h absent => ?_, fun h present short => ?_,
        fun h present full refusing => ?_⟩
      · have restarted : restartedByFirst k st d = without c .restartedByFirst :=
          (restartedByFirst_some own).trans (given c own _)
        have none' := restartedByFirst_alone d k st
        refine (takeSegment_first first).trans ?_
        rw [takeSegment_first first, ← restarted, restartedByFirst_none none']
      · exact acks ((alone h).trans (takeFirstAlone_absent absent))
      · exact acks ((alone h).trans (takeFirstAlone_short present short))
      · exact busies ((alone h).trans (takeFirstAlone_refused present full
          (refusing.imp_right refuses)))
    case next =>
      have goes : taken = takeNext k st f d :=
        takeSegment_next (by rcases next with h | h <;> rw [h] <;> decide)
      refine ⟨fun alone => acks (goes.trans (takeNext_none alone)), fun c own => ?_⟩
      intro malformed
      refine ⟨fun bad => ?_, fun good refusing => ?_⟩
      · have ended := goes.trans (takeNext_malformed own (malformedBy_iff.2 bad))
        rw [given c own] at ended
        exact acks ended
      · exact busies (goes.trans (takeNext_refused own (mt malformedBy_iff.1 good) (refuses refusing)))
  case met =>
    intro k st block rest f d free room charged claimed
    have met : d.receiptRefusal k = none := receiptRefusal_eq_none_iff.2 fun h =>
      h.elim (Nat.not_lt.2 room) fun empty => nomatch empty.symm.trans free
    refine ⟨fun first alone present full few => ?first, fun c middle own cid few full => ?middle,
      fun c first more last own cid blocks few some => ?last⟩
    case first =>
      rw [takeSegment_first first, restartedByFirst_none alone,
        takeFirstAlone_met present full few met]
      exact ⟨rfl, rfl, openContext_eq free⟩
    all_goals obtain ⟨-, mine⟩ := mem_of_context? own
    case middle =>
      have good : ¬ c.malformedBy f = true := by
        rw [malformedBy_iff]
        simp [cid, middle, full, Nat.not_le.2 few]
      rw [takeSegment_next (by rw [middle]; decide), takeNext_met own good met,
        if_neg (by rw [middle]; decide)]
      refine ⟨rfl, rfl, ?_⟩
      rw [show (SegmentResult.ack (appendMiddle c f d)).dev = appendMiddle c f d from rfl,
        appendMiddle_eq free mine]
      exact ⟨rfl, find?_appendBlock own _⟩
    case last =>
      have good : ¬ c.malformedBy f = true := by
        rw [malformedBy_iff]
        simp [cid, last, some, Nat.not_le.2 few]
      have name : c.frameRef { number := block, data := f.payload } = first.number := by
        unfold Context.frameRef
        rw [blocks]
        rfl
      rw [takeSegment_next (by rw [last]; decide), takeNext_met own good met, if_pos last]
      dsimp only
      rw [completeContext_eq free mine, blockFor_eq free, name]
      obtain ⟨rfl, rfl⟩ := mine
      refine ⟨rfl, rfl, rfl, rfl, find?_others ⟨rfl, rfl⟩ _, ?_, ?_⟩
      · exact Table.find?_insert_self ..
      · exact (lineCount_bumpLineBy d ..).trans (if_pos ⟨rfl, rfl⟩)

end Sys2Proof.Machine

/-! The replies that carry data: a receipt of one block, the part's own answers, and what each reply to
a SERVICE, a probe or an EXCHANGE comes to. -/

namespace Sys2Proof.Machine

open Device (Writes)

variable {k : Branch} {f : BranchFrame} {r : InFlight} {d x : Device}

/- ### A receipt of one block (R61, R70) -/

/-- The frame that a receipt leaves in a block. -/
def frameIn (k : Branch) (f : BranchFrame) (block : Nat) : Frame :=
  { chain := [{ number := block, data := f.payload }], length := f.payload.length, cid := f.cid,
    priority := f.priority, ingress := k.line, refs := 1, shared := false, fillCycle := none }

/-- The pool after a receipt. -/
def Pool.receiving (p : Pool) (k : Branch) (f : BranchFrame) (block : Nat) (rest : List Nat) : Pool :=
  { free := rest, frames := p.frames.insert block (frameIn k f block),
    usage := p.usage.set k.line (p.usage.get k.line + 1), sharedCount := p.sharedCount,
    emptyArmed := p.emptyArmed }

set_option Elab.async false in
/-- A claim may disarm POOL_EMPTY; nothing else of the pool differs (R70). -/
theorem afterClaim_pool (d : Device) (l : Line) (station : Option Nat) (n : Nat) (p : Pool) :
    ∃ armed, (d.afterClaim l station n p).pool = { p with emptyArmed := armed } := by
  unfold Device.afterClaim
  split
  · exact ⟨false, (raiseEvent_writes ..).pool⟩
  · exact ⟨p.emptyArmed, rfl⟩

section Receipt

variable {block : Nat} {rest : List Nat} (free : d.pool.free = block :: rest)
include free

theorem storeReceipt_eq (k : Branch) (f : BranchFrame) : storeReceipt k f d =
    d.afterClaim k.line (some f.station) 1 (d.pool.receiving k f block rest) := by
  unfold storeReceipt
  rw [blockFor_eq free, charge_one free]
  exact considerPoolEmpty_claim ..

theorem storeReceipt_leaves (k : Branch) (f : BranchFrame) :
    (storeReceipt k f d).pool.free = rest ∧
    (storeReceipt k f d).pool.usage.get k.line = d.pool.usage.get k.line + 1 ∧
    (storeReceipt k f d).frame? block = some (frameIn k f block) := by
  obtain ⟨armed, pool⟩ := afterClaim_pool d k.line (some f.station) 1
    (d.pool.receiving k f block rest)
  unfold Device.frame?
  rw [storeReceipt_eq free, pool]
  exact ⟨rfl, PerLine.get_set_self .., Table.find?_insert_self ..⟩

/-- Where a block is left no event is raised. -/
theorem storeReceipt_calm (more : rest ≠ []) (k : Branch) (f : BranchFrame) :
    storeReceipt k f d = { d with pool := d.pool.receiving k f block rest } := by
  rw [storeReceipt_eq free]
  exact if_neg fun h => more h.1

end Receipt

/- ### The part's own answers (R137) -/

theorem bare_wire (kind : BranchKind) (station : Nat) :
    (BranchFrame.bare kind station false 0).wire =
      sealHeader [byteOf kind.code, byteOf station, 0x00, 0x00, 0x00, 0x00] := by
  have empty : withCheck [] = [] := rfl
  have flags : (BranchFrame.bare kind station false 0).flags = 0 := rfl
  have header : [byteOf kind.code, byteOf station, byteOf 0] ++ be2 0 ++ [byteOf 0] =
      [byteOf kind.code, byteOf station, 0x00, 0x00, 0x00, 0x00] := rfl
  rw [wire_split, BranchFrame.header, flags]
  refine Eq.trans (b := sealHeader ([byteOf kind.code, byteOf station, byteOf 0] ++ be2 0 ++
    [byteOf 0]) ++ withCheck []) rfl ?_
  rw [empty, List.append_nil, header]

/-- The answer of a kind that a transaction's part sends, holding a frame or none (R137). -/
def Device.answering (d : Device) (k : Branch) (r : InFlight) (kind : BranchKind)
    (held : Option Nat) : Device :=
  d.setSeq k { d.seq k with
    inFlight := some { r with replyWait := none, received := held },
    sending := some
      { role := .answer, starts := d.now, ends := d.now + 7 * (d.settings k.line).byteTime,
        wire := sealHeader [byteOf kind.code, byteOf r.station, 0x00, 0x00, 0x00, 0x00] } }

theorem sendAnswer_answers (k : Branch) (r : InFlight) (kind : BranchKind) (d : Device) :
    sendAnswer k r kind d = d.answering k r kind r.received := by
  unfold sendAnswer setInFlight Device.answering
  rw [sendBranch_eq, seq_setSeq_self, setSeq_setSeq, ← bare_wire]
  rfl

theorem answerAck_eq (k : Branch) (r : InFlight) (held : Option Nat) (d : Device) :
    answerAck k r held d = (flipUp k r.station d).answering k r .ack held := sendAnswer_answers ..

theorem answerBusy_eq (k : Branch) (r : InFlight) (d : Device) :
    answerBusy k r d =
      (d.bumpBoth k r.station .busySent .busySent).answering k r .busy r.received := sendAnswer_answers ..

/- ### Replies to a SERVICE or probe (R136, R137) -/

theorem serviceReply_data (data : f.kind = .data) : serviceReply k r f d = serviceData k r f d :=
  if_pos data

theorem serviceReply_empty (empty : f.kind = .empty) :
    serviceReply k r f d = endTransaction k r .success d := by
  unfold serviceReply
  rw [if_neg (by rw [empty]; decide), replyOutcome_success (by rw [empty]; decide)]

theorem serviceReply_fault (fault : f.kind = .fault) : serviceReply k r f d =
    endTransaction k r (.faultReply (f.payload.getD 0 0x00).toNat) d := by
  unfold serviceReply
  rw [if_neg (by rw [fault]; decide), replyOutcome_fault fault]

theorem serviceData_shutting (shutting : d.admission k = .shutting) :
    serviceData k r f d = answerBusy k r d := if_pos shutting

section Open

variable (runs : d.admission k ≠ .shutting)
include runs

set_option Elab.async false in
theorem serviceData_duplicate (toggle : f.toggle ≠ (d.station k r.station).upExpected) :
    serviceData k r f d = sendAnswer k r .ack (d.bumpBoth k r.station .duplicate .duplicate) :=
  (if_neg runs).trans (if_pos toggle)

variable (toggle : f.toggle = (d.station k r.station).upExpected)
include toggle

theorem serviceData_refused (only : f.position = .only) (refused : d.receiptRefusal k ≠ none) :
    serviceData k r f d = answerBusy k r d := by
  obtain ⟨reason, refuses⟩ := Option.ne_none_iff_exists'.1 refused
  unfold serviceData
  rw [if_neg runs, if_neg (not_not_intro toggle), if_pos only]
  simp only [refuses]

theorem serviceData_stored (only : f.position = .only) (met : d.receiptRefusal k = none) :
    serviceData k r f d = answerAck k r d.pool.free.head? (storeReceipt k f d) := by
  unfold serviceData
  rw [if_neg runs, if_neg (not_not_intro toggle), if_pos only]
  simp only [met]

theorem serviceData_segment (segment : f.position ≠ .only) : serviceData k r f d =
    if (takeSegment k r.station f d).acknowledged then
      answerAck k r (takeSegment k r.station f d).completed (takeSegment k r.station f d).dev
    else answerBusy k r (takeSegment k r.station f d).dev := by
  unfold serviceData
  rw [if_neg runs, if_neg (not_not_intro toggle), if_neg segment]

end Open

/- ### Replies to an EXCHANGE (R18, R133) -/

theorem exchangeReply_data (data : f.kind = .data) {held : Option Nat}
    (stored : exchangeData k f d = (held, x)) : exchangeReply k r f d =
      endTransaction k { r with received := held } .success x := by
  unfold exchangeReply
  rw [if_pos data, stored]

theorem exchangeReply_empty (empty : f.kind = .empty) :
    exchangeReply k r f d = endTransaction k r .success d := by
  unfold exchangeReply
  rw [if_neg (by rw [empty]; decide), replyOutcome_success (by rw [empty]; decide)]

theorem exchangeReply_fault (fault : f.kind = .fault) : exchangeReply k r f d =
    endTransaction k r (.faultReply (f.payload.getD 0 0x00).toNat) d := by
  unfold exchangeReply
  rw [if_neg (by rw [fault]; decide), replyOutcome_fault fault]

theorem exchangeData_shutting (shutting : d.admission k = .shutting) :
    exchangeData k f d = (none, d.countReason k.line f.cid .flushed) := if_pos shutting

theorem exchangeData_refused (runs : d.admission k ≠ .shutting) {reason : Reason}
    (refused : d.receiptRefusal k = some reason) :
    exchangeData k f d = (none, d.countReason k.line f.cid reason) := by
  unfold exchangeData
  rw [if_neg runs]
  simp only [refused]

theorem exchangeData_stored (runs : d.admission k ≠ .shutting) (met : d.receiptRefusal k = none) :
    exchangeData k f d = (d.pool.free.head?, storeReceipt k f d) := by
  unfold exchangeData
  rw [if_neg runs]
  simp only [met]

theorem receiptRefusal_full (full : (d.settings k.line).dropLevel < d.pool.usage.get k.line + 1) :
    d.receiptRefusal k = some .lineLimit := if_pos full

theorem receiptRefusal_empty (room : ¬ (d.settings k.line).dropLevel < d.pool.usage.get k.line + 1)
    (empty : d.pool.free = []) : d.receiptRefusal k = some .poolEmpty :=
  (if_neg room).trans (if_pos (by rw [empty]; rfl))

/- ### The end of an EXCHANGE (R114, R133) -/

section Exchange

variable {element : Nat} {output input frame : Option Nat} {cid priority : Nat} {o : Outcome}
  (txn : r.txn = .exchange element output input frame cid priority)
include txn

set_option Elab.async false in
theorem settleTransaction_exchange : settleTransaction k r o d =
    finishExchange output frame (o = .success)
      (setElement k element (if o = .failed then .failed else .completed) d) := by
  unfold settleTransaction
  simp only [txn]

end Exchange

theorem emptyDeliveredSlot_other {output : Option Nat} {ref : Nat}
    (other : output.bind d.slots.find? ≠ some ref) : emptyDeliveredSlot output ref d = d := by
  unfold emptyDeliveredSlot
  rcases output with _ | out
  · rfl
  · exact if_neg other

end Sys2Proof.Machine

/-! The replies that carry data are stored and answered. -/

namespace Sys2Proof.Machine

open Device (Writes)

variable {k : Branch} {f : BranchFrame} {r : InFlight} {d x : Device}

/- ### What an answer goes by -/

set_option Elab.async false in
theorem handleReply_exchange {element : Nat} {output input frame : Option Nat} {cid priority : Nat}
    (txn : r.txn = .exchange element output input frame cid priority) :
    handleReply k r f d = exchangeReply k r f d := by
  unfold handleReply
  simp only [txn]

theorem handleReply_service (txn : r.txn = .service ∨ r.txn = .probe) :
    handleReply k r f d = serviceReply k r f d := by
  unfold handleReply
  rcases txn with txn | txn <;> simp only [txn]

/-- An answer goes by the instant, the byte time and the station's record, which what comes before
it leaves. -/
theorem answering_of_writes {fs : List Field} (w : Writes fs d x) (kind : BranchKind)
    (held : Option Nat) (free : .now ∉ fs ∧ .tables ∉ fs := by decide) :
    x.answering k r kind held = x.setSeq k { x.seq k with
      inFlight := some { r with replyWait := none, received := held },
      sending := some
        { role := .answer, starts := d.now, ends := d.now + 7 * (d.settings k.line).byteTime,
          wire := sealHeader [byteOf kind.code, byteOf r.station, 0x00, 0x00, 0x00, 0x00] } } := by
  have settings : x.settings k.line = d.settings k.line :=
    congrArg (fun t : Tables => t.lines.get k.line) (w.tables free.2)
  unfold Device.answering
  rw [w.now free.1, settings]

theorem answerAck_of_writes {fs : List Field} (w : Writes fs d x) (held : Option Nat)
    (free : .now ∉ fs ∧ .tables ∉ fs ∧ .stations ∉ fs := by decide) :
    answerAck k r held x =
      let y := if (d.station k r.station).state = .absent then x
        else x.setStation k r.station
          { d.station k r.station with upExpected := !(d.station k r.station).upExpected }
      y.setSeq k { y.seq k with
        inFlight := some { r with replyWait := none, received := held },
        sending := some
          { role := .answer, starts := d.now, ends := d.now + 7 * (d.settings k.line).byteTime,
            wire := sealHeader [0x22, byteOf r.station, 0x00, 0x00, 0x00, 0x00] } } := by
  obtain ⟨now, tables, stations⟩ := free
  have station : x.station k r.station = d.station k r.station := by
    unfold Device.station
    rw [w.stations stations]
  have settings : x.settings k.line = d.settings k.line :=
    congrArg (fun t : Tables => t.lines.get k.line) (w.tables tables)
  have flips : flipUp k r.station x = if (d.station k r.station).state = .absent then x
      else x.setStation k r.station
        { d.station k r.station with upExpected := !(d.station k r.station).upExpected } := by
    unfold flipUp
    rw [station]
  rw [answerAck_eq, answering_of_writes (flipUp_writes x k r.station), w.now now, settings, flips]
  rfl

theorem answerBusy_of_writes {fs : List Field} (w : Writes fs d x)
    (free : .now ∉ fs ∧ .tables ∉ fs := by decide) :
    answerBusy k r x =
      (x.bumpBoth k r.station .busySent .busySent).setSeq k {
        (x.bumpBoth k r.station .busySent .busySent).seq k with
        inFlight := some { r with replyWait := none, received := r.received },
        sending := some
          { role := .answer, starts := d.now, ends := d.now + 7 * (d.settings k.line).byteTime,
            wire := sealHeader [0x23, byteOf r.station, 0x00, 0x00, 0x00, 0x00] } } := by
  obtain ⟨now, tables⟩ := free
  have settings : x.settings k.line = d.settings k.line :=
    congrArg (fun t : Tables => t.lines.get k.line) (w.tables tables)
  rw [answerBusy_eq, answering_of_writes (bumpBoth_writes x k r.station .busySent .busySent),
    w.now now, settings]
  rfl

theorem head_of_free {block : Nat} {rest : List Nat} (free : d.pool.free = block :: rest) :
    d.pool.free.head? = some block := by rw [free]; rfl

theorem receipt_met {block : Nat} {rest : List Nat}
    (room : ¬ (d.settings k.line).dropLevel < d.pool.usage.get k.line + 1)
    (free : d.pool.free = block :: rest) : d.receiptRefusal k = none :=
  receiptRefusal_eq_none_iff.2 fun h => h.elim room fun empty => nomatch empty.symm.trans free

/-- The part at the end of a data reply's event, where the receipt is met and a block is left. -/
theorem afterReply_station (d : Device) (k : Branch) (r : InFlight) (now : Nat) (bytes : List Byte)
    (present : (d.station k r.station).state ≠ .absent) :
    (d.afterReply k r now bytes).station k r.station =
      { d.station k r.station with
        resyncPending := false,
        downToggle := if (d.station k r.station).resyncPending then false
          else (d.station k r.station).downToggle,
        upExpected := if (d.station k r.station).resyncPending then false
          else (d.station k r.station).upExpected } := by
  unfold Device.afterReply
  dsimp only
  split
  next pending =>
    rw [station_setStation_self, pending.2]
    rfl
  next other =>
    have calm : (d.station k r.station).resyncPending = false :=
      Bool.eq_false_iff.2 fun pending => other ⟨present, pending⟩
    rw [calm]
    have same : ((collect k.line Config.branchBuffer bytes { d with now := now }).bumpLine k.line
        .framesReceived).station k r.station = d.station k r.station := rfl
    refine same.trans ?_
    generalize d.station k r.station = y at calm
    cases y
    simp only at calm
    rw [calm]
    rfl

theorem afterReply_writes (d : Device) (k : Branch) (r : InFlight) (now : Nat) (bytes : List Byte) :
    Writes [.now, .lines, .seqs, .cores, .stations] d (d.afterReply k r now bytes) := by
  have got : Writes [.now, .lines, .seqs, .cores] d (((collect k.line Config.branchBuffer bytes
      { d with now := now }).bumpLine k.line .framesReceived).setSeq k { d.seq k with
        inFlight := some { r with replyWait := none } }) :=
    (((now_writes d now).mono.andThen (collect_writes _ ..)).andThen (bumpLine_writes ..)).andThen
      (setSeq_writes ..)
  unfold Device.afterReply
  dsimp only
  split
  · exact got.mono.andThen (setStation_writes ..)
  · exact got.mono

theorem afterReply_seq (d : Device) (k : Branch) (r : InFlight) (now : Nat) (bytes : List Byte) :
    (d.afterReply k r now bytes).seq k = { d.seq k with inFlight := some { r with replyWait := none } } ∧
      (d.afterReply k r now bytes).now = now := by
  unfold Device.afterReply
  dsimp only
  split
  · exact ⟨seq_setSeq_self .., rfl⟩
  · exact ⟨seq_setSeq_self .., rfl⟩

end Sys2Proof.Machine

/-! The receipt of a DATA reply in one event, and the cases of the replies that carry data. -/

namespace Sys2Proof.Machine

open Device (Writes)

set_option Elab.async false in
theorem allows_service {r : InFlight} {f : BranchFrame} (txn : r.txn = .service ∨ r.txn = .probe)
    (kind : f.kind = .data ∨ f.kind = .empty ∨ f.kind = .fault) : r.txn.allows f = true := by
  unfold Txn.allows
  rcases txn with txn | txn <;> rcases kind with kind | kind | kind <;> rw [txn, kind] <;> rfl

theorem receiving_writes {d : Device} {block : Nat} {rest : List Nat} (k : Branch) (f : BranchFrame)
    (free : d.pool.free = block :: rest) (more : rest ≠ []) :
    Writes [.pool] d { d with pool := d.pool.receiving k f block rest } := by
  have stored := (storeReceipt_writes d k f (by rw [free]; exact Nat.succ_pos _)).kept
  rw [storeReceipt_calm free more] at stored
  exact ⟨fun f hf => by cases f <;> first | rfl | simp at hf, stored⟩

/-- A DATA reply that is stored and answered ACK: what the event leaves of the part (R137). -/
theorem serviceData_receives {k : Branch} {f : BranchFrame} {r : InFlight} {d : Device} {block : Nat}
    {rest : List Nat} (runs : d.admission k ≠ .shutting)
    (toggle : f.toggle = (d.station k r.station).upExpected) (only : f.position = .only)
    (room : ¬ (d.settings k.line).dropLevel < d.pool.usage.get k.line + 1)
    (free : d.pool.free = block :: rest) (more : rest ≠ [])
    (present : (d.station k r.station).state ≠ .absent) :
    Writes [.pool, .stations, .seqs, .cores] d (serviceData k r f d) ∧
    (serviceData k r f d).pool = d.pool.receiving k f block rest ∧
    (serviceData k r f d).station k r.station =
      { d.station k r.station with upExpected := !f.toggle } ∧
    (serviceData k r f d).seq k = { d.seq k with
      inFlight := some { r with replyWait := none, received := some block },
      sending := some
        { role := .answer, starts := d.now, ends := d.now + 7 * (d.settings k.line).byteTime,
          wire := sealHeader [0x22, byteOf r.station, 0x00, 0x00, 0x00, 0x00] } } := by
  have stored : serviceData k r f d =
      (({ d with pool := d.pool.receiving k f block rest } : Device).setStation k r.station
        { d.station k r.station with upExpected := !f.toggle }).setSeq k { d.seq k with
          inFlight := some { r with replyWait := none, received := some block },
          sending := some
            { role := .answer, starts := d.now, ends := d.now + 7 * (d.settings k.line).byteTime,
              wire := sealHeader [0x22, byteOf r.station, 0x00, 0x00, 0x00, 0x00] } } := by
    have w : Writes [.pool, .endpoint] d (storeReceipt k f d) :=
      storeReceipt_writes d k f (by rw [free]; exact Nat.succ_pos _)
    rw [serviceData_stored runs toggle only (receipt_met room free), head_of_free free,
      answerAck_of_writes w, if_neg present, storeReceipt_calm free more, toggle]
    rfl
  rw [stored]
  exact ⟨((receiving_writes k f free more).mono.andThen (setStation_writes ..)).andThen
    (setSeq_writes ..), rfl, station_setStation_self .., seq_setSeq_self ..⟩

/-- Settles O38: the cases of `serviceReply`, of `exchangeReply` and of `settleTransaction`. -/
theorem dataRepliesAreStoredAndAnswered : Obligations.DataRepliesAreStoredAndAnswered := by
  refine ⟨?receipt, ?handled, ?service, ?stores, ?exchange, ?ends⟩
  case receipt =>
    intro k start now block rest bytes f r s quiet awaits opened txn passed station data only present x
      toggle room free more
    have event := exec_reply (now := now) awaits passed station (allows_service txn (.inl data))
    have w := afterReply_writes s.dev k r now bytes
    have here := afterReply_station s.dev k r now bytes present
    obtain ⟨seq, instant⟩ := afterReply_seq s.dev k r now bytes
    rw [handleReply_service (by exact txn), serviceReply_data data] at event
    have admission : (s.dev.afterReply k r now bytes).admission k = .opened :=
      (congrArg (PerBranch.get · k) w.branchAdm).trans opened
    have settings : (s.dev.afterReply k r now bytes).settings k.line = s.dev.settings k.line :=
      congrArg (fun t : Tables => t.lines.get k.line) w.tables
    generalize s.dev.afterReply k r now bytes = d at *
    obtain ⟨written, pool, stationAfter, seqAfter⟩ := serviceData_receives
      (r := { r with replyWait := none }) (block := block) (rest := rest) (f := f) (k := k) (d := d)
      (by rw [admission]; decide) (by rw [here]; exact toggle) only
      (by rw [settings, w.pool]; exact Nat.not_lt.2 room) (by rw [w.pool]; exact free) more
      (by rw [here]; exact present)
    have whole : Writes [.now, .lines, .seqs, .cores, .stations, .pool] s.dev
        (serviceData k { r with replyWait := none } f d) := w.mono.andThen written
    rw [whole.settle_quiet quiet.2.1 quiet.2.2] at event
    rw [w.pool] at pool
    generalize serviceData k { r with replyWait := none } f d = t at *
    refine ⟨{ s with dev := t }, event, by rw [pool]; rfl, ?_, by rw [pool]; rfl, ?_,
      stationAfter.trans ?_, seqAfter.trans ?_, whole.egress, whole.slots, whole.contexts, whole.timer,
      whole.tables, whole.change, whole.endpoint, whole.trunkTx⟩
    · dsimp only
      rw [pool]
      exact PerLine.get_set_self ..
    · unfold Device.frame?
      dsimp only
      rw [pool]
      exact Table.find?_insert_self ..
    · dsimp only
      rw [here]
    · rw [seq, instant, settings]
  case handled =>
    intro k start now bytes f r s awaits passed station heard handled
    refine ⟨fun ⟨element, output, input, frame, cid, priority, txn⟩ kind => ?_, fun txn kind => ?_⟩
    · have allows : r.txn.allows f = true := by
        unfold Txn.allows
        rw [txn]
        rcases kind with ⟨kind, position⟩ | kind | kind
        · rw [kind, position]
          rfl
        · rw [kind]
          cases f.position <;> rfl
        · rw [kind]
          cases f.position <;> rfl
      have event := exec_reply (now := now) awaits passed station allows
      rw [handleReply_exchange (by exact txn)] at event
      exact event
    · have event := exec_reply (now := now) awaits passed station (allows_service txn kind)
      rw [handleReply_service (by exact txn)] at event
      exact event
  case service =>
    intro k f r d full x answered acked busied
    have busy : answerBusy k r d = busied d := answerBusy_of_writes (.refl (fs := []) d)
    refine ⟨serviceReply_empty, serviceReply_fault, fun data => ?_⟩
    rw [serviceReply_data data]
    refine ⟨fun shutting => (serviceData_shutting shutting).trans busy, fun runs other => ?_,
      fun runs toggle only => ⟨fun refusing => ?_, fun room block rest free => ?_⟩,
      fun runs toggle segment => ?_⟩
    · rw [serviceData_duplicate runs other, sendAnswer_answers,
        answering_of_writes (bumpBoth_writes d k r.station .duplicate .duplicate)]
      rfl
    · exact (serviceData_refused runs toggle only fun met =>
        receiptRefusal_eq_none_iff.1 met refusing).trans busy
    · have w : Writes [.pool, .endpoint] d (storeReceipt k f d) :=
        storeReceipt_writes d k f (by rw [free]; exact Nat.succ_pos _)
      rw [serviceData_stored runs toggle only (receipt_met room free), head_of_free free]
      exact answerAck_of_writes w _
    · intro result
      have w : Writes [.pool, .contexts, .endpoint, .lines] d result.dev := takeSegment_writes ..
      rw [serviceData_segment runs toggle segment]
      refine ⟨fun taken => (if_pos taken).trans (answerAck_of_writes w _), fun refused => ?_⟩
      exact (if_neg (Bool.eq_false_iff.1 refused)).trans (answerBusy_of_writes w)
  case stores => exact fun k f block rest d free => storeReceipt_eq free k f
  case exchange =>
    intro k f r d full ends
    refine ⟨fun data => ⟨fun shutting => ?_, fun runs above => ?_, fun runs room empty => ?_,
      fun runs room block rest free => ?_⟩, exchangeReply_empty, exchangeReply_fault⟩
    · exact exchangeReply_data data (exchangeData_shutting shutting)
    · exact exchangeReply_data data (exchangeData_refused runs (receiptRefusal_full above))
    · exact exchangeReply_data data (exchangeData_refused runs (receiptRefusal_empty room empty))
    · have stored := exchangeData_stored (f := f) runs (receipt_met room free)
      rw [head_of_free free] at stored
      exact ⟨exchangeReply_data data stored, storeReceipt_leaves free k f⟩
  case ends =>
    intro k element output input frame cid priority r o d txn status marked
    have settled := settleTransaction_exchange (k := k) (o := o) (d := d) txn
    rw [show setElement k element (if o = .failed then .failed else .completed) d = marked from rfl]
      at settled
    refine ⟨fun none' => ?_, fun ref some' => ⟨fun success out delivered slot => ?_, fun other => ?_⟩⟩
    · rw [settled, none']
      rfl
    · have slot' : marked.slots.find? out = some ref := slot
      rw [settled, some', delivered]
      unfold finishExchange emptyDeliveredSlot
      dsimp only
      rw [if_pos (by rw [success]; rfl), if_pos slot']
      rfl
    · rw [settled, some']
      unfold finishExchange
      dsimp only
      split
      next success =>
        rw [emptyDeliveredSlot_other (d := marked) (other.resolve_left (not_not_intro (of_decide_eq_true success)))]
        rfl
      next => rfl

end Sys2Proof.Machine

/-! What the outcome of a transaction does to its station. -/

namespace Sys2Proof.Machine

open Device (Writes)

variable {k : Branch} {st : Nat} {d x : Device}

/- ### The partial delivery that goes back to its first segment (R131) -/

/-- The class whose partial delivery is addressed to a station. -/
def Device.returned (d : Device) (k : Branch) (st : Nat) : Option Class :=
  (d.seq k).delivering.filter fun c => decide ((d.queue k.line c).head?.bind Entry.station = some st)

/-- The second part is the first with the partial delivery to a station returned. -/
def Device.Rewound (k : Branch) (st : Nat) (d d' : Device) : Prop :=
  (∀ (l : Line) (c : Class), d'.queue l c =
    if l = k.line ∧ d.returned k st = some c then
      (d.queue l c).modifyHead fun e => { e with nextSegment := 1 }
    else d.queue l c) ∧
  ∀ b : Branch, d'.seq b =
    if b = k ∧ d.returned k st ≠ none then { d.seq b with delivering := none } else d.seq b

set_option Elab.async false in
theorem returned_none_of_idle (idle : (d.seq k).delivering = none) : d.returned k st = none := by
  unfold Device.returned
  rw [idle]
  rfl

theorem returned_eq {c : Class} (delivers : (d.seq k).delivering = some c) : d.returned k st =
    if (d.queue k.line c).head?.bind Entry.station = some st then some c else none := by
  unfold Device.returned
  rw [delivers]
  exact (Option.filter_some ..).trans (if_congr decide_eq_true_iff rfl rfl)

theorem rewound_of_none (nothing : d.returned k st = none) : d.Rewound k st d := by
  refine ⟨fun l c => ?_, fun b => ?_⟩
  · rw [nothing, if_neg fun h => nomatch h.2]
  · rw [nothing, if_neg fun h => h.2 rfl]

theorem rewindDelivery_rewound (k : Branch) (st : Nat) (d : Device) :
    d.Rewound k st (rewindDelivery k st d) := by
  unfold rewindDelivery
  rcases delivers : (d.seq k).delivering with _ | c
  · exact rewound_of_none (returned_none_of_idle delivers)
  have back := returned_eq (st := st) delivers
  dsimp only
  rcases queue : d.queue k.line c with _ | ⟨e, es⟩
  · rw [queue, if_neg (fun h => nomatch h)] at back
    exact rewound_of_none back
  rw [queue] at back
  change d.returned k st = if e.station = some st then some c else none at back
  dsimp only
  split
  next mine =>
    rw [if_pos mine] at back
    refine ⟨fun l c' => ?_, fun b => ?_⟩
    · refine (queue_setQueue d k.line l c c' ({ e with nextSegment := 1 } :: es)).trans ?_
      rw [back]
      by_cases here : l = k.line ∧ c' = c
      · obtain ⟨rfl, rfl⟩ := here
        rw [if_pos ⟨rfl, rfl⟩, if_pos ⟨rfl, rfl⟩, queue]
        rfl
      · rw [if_neg here, if_neg fun h => here ⟨h.1, (Option.some_inj.1 h.2).symm⟩]
    · rw [back]
      refine (seq_setSeq (d.setQueue k.line c ({ e with nextSegment := 1 } :: es)) k b _).trans ?_
      by_cases here : b = k
      · subst here
        rw [if_pos rfl, if_pos ⟨rfl, Option.some_ne_none c⟩]
      · rw [if_neg here, if_neg fun h => here h.1]
        rfl
  next other =>
    rw [if_neg other] at back
    exact rewound_of_none back

/-- What is returned goes by the sequencers and the queues alone. -/
theorem Device.Rewound.congr {y : Device} (h : d.Rewound k st y) (seqs : d.seqs = x.seqs)
    (egress : d.egress = x.egress) {z : Device} (seqs' : z.seqs = y.seqs)
    (egress' : z.egress = y.egress) : x.Rewound k st z := by
  unfold Device.Rewound Device.returned Device.queue Device.egr Device.seq at h ⊢
  rw [seqs', egress', ← seqs, ← egress]
  exact h

theorem markResync_rewound (k : Branch) (st : Nat) (d : Device) :
    d.Rewound k st (markResync k st d) := by
  have rewound := rewindDelivery_rewound k st
    (d.setStation k st { d.station k st with resyncPending := true })
  exact rewound.congr rfl rfl rfl rfl

/- ### The station in FAULTED (R138, R139) -/

/-- A station's record once it is in FAULTED. -/
def Station.faulted (x : Station) (interval : Nat) : Station :=
  { x with state := .faulted, probeCountdown := interval, resyncPending := true }

theorem putFaulted_station (k : Branch) (st : Nat) (d : Device) :
    (putFaulted k st d).station k st = (d.station k st).faulted (d.settings k.line).probeInterval := by
  unfold putFaulted
  dsimp only
  rw [station_markResync, station_setStation_self, station_setStation_self]
  rfl

theorem putFaulted_rewound (k : Branch) (st : Nat) (d : Device) :
    d.Rewound k st (putFaulted k st d) := by
  have marked := markResync_rewound k st (d.setStation k st
    { d.station k st with
      state := .faulted, probeCountdown := (d.settings k.line).probeInterval })
  exact marked.congr rfl rfl rfl rfl

/- ### Outcomes (R138 to R142) -/

/-- An event about a station joins the list while there is room. -/
theorem raiseEvent_events (kind : EventKind) (line : Option Line) (station : Option Nat)
    (detail : Nat) (room : d.endpoint.events.length < 32) :
    (raiseEvent kind line station detail d).endpoint.events = d.endpoint.events ++
      [{ kind := kind, cycle := d.timer.cycle, line := line, station := station, detail := detail }] :=
  (raiseEvent_raised kind line station detail room).events

/-- The queues and the sequencers stay. -/
theorem kept_of_writes {fs : List Field} (w : Writes fs d x)
    (free : .egress ∉ fs ∧ .seqs ∉ fs := by decide) :
    (∀ l c, x.queue l c = d.queue l c) ∧ x.seqs = d.seqs := by
  refine ⟨fun l c => ?_, w.seqs free.2⟩
  unfold Device.queue Device.egr
  rw [w.egress free.1]

theorem raiseEvent_station (kind : EventKind) (line : Option Line) (station : Option Nat)
    (detail : Nat) (d : Device) (j : Branch) (t : Nat) :
    (raiseEvent kind line station detail d).station j t = d.station j t := by
  unfold Device.station
  rw [(raiseEvent_writes ..).stations]

section Outcome

variable (room : d.endpoint.events.length < 32)

theorem stationSuccess_up (up : (d.station k st).state = .active ∨ (d.station k st).state = .suspect) :
    stationSuccess k st d =
      d.setStation k st { d.station k st with failureCount := 0, state := .active } := by
  unfold stationSuccess
  rcases up with state | state <;> simp only [state]

set_option Elab.async false in
theorem stationSuccess_faulted (faulted : (d.station k st).state = .faulted) :
    stationSuccess k st d = raiseEvent .stationRecovered (some k.line) (some st) 0 (d.setStation k st
      { d.station k st with state := .active, failureCount := 0, probeCountdown := 0 }) := by
  unfold stationSuccess
  simp only [faulted]

theorem stationSuccess_absent (absent : (d.station k st).state = .absent) :
    stationSuccess k st d = d := by
  unfold stationSuccess
  simp only [absent]

/-- The part once a failed transaction has been counted (R138). -/
def Device.failing (d : Device) (k : Branch) (st : Nat) : Device :=
  (d.setStation k st
    { d.station k st with failureCount := (d.station k st).failureCount + 1 }).bumpStation k st
      .failedTransactions

theorem failing_station (k : Branch) (st : Nat) (d : Device) : (d.failing k st).station k st =
    { d.station k st with
      failureCount := (d.station k st).failureCount + 1,
      counters := bump (d.station k st).counters 0 1 } := by
  unfold Device.failing Device.bumpStation
  rw [station_setStation_self, station_setStation_self]
  rfl

theorem stationFailure_up (isProbe : Bool)
    (up : (d.station k st).state = .active ∨ (d.station k st).state = .suspect) :
    stationFailure k st isProbe d = stationFails k st d := by
  unfold stationFailure
  rcases up with state | state <;> simp only [state]

theorem stationFails_faults
    (above : (d.settings k.line).faultThreshold ≤ (d.station k st).failureCount + 1) :
    stationFails k st d = raiseEvent .stationFaulted (some k.line) (some st) 256
      (putFaulted k st (d.failing k st)) := if_pos above

/-- Below the threshold the station is SUSPECT (R138). -/
theorem stationFails_suspects
    (below : (d.station k st).failureCount + 1 < (d.settings k.line).faultThreshold) :
    stationFails k st d =
      let suspect := (d.failing k st).setStation k st
        { (d.failing k st).station k st with state := .suspect }
      if (d.station k st).state = .active then
        raiseEvent .stationSuspect (some k.line) (some st) ((d.station k st).failureCount + 1) suspect
      else suspect := if_neg (Nat.not_le.2 below)

theorem stationFailure_faulted (isProbe : Bool) (faulted : (d.station k st).state = .faulted) :
    stationFailure k st isProbe d = d.setStation k st
      { d.station k st with probeCountdown := (d.settings k.line).probeInterval } := by
  unfold stationFailure
  simp only [faulted]

/-- The part once a FAULT reply has been counted and its code kept (R139). -/
def Device.reporting (d : Device) (k : Branch) (st code : Nat) : Device :=
  (d.setStation k st { d.station k st with lastFaultCode := code }).bumpStation k st .faultReplies

theorem reporting_station (k : Branch) (st code : Nat) (d : Device) :
    (d.reporting k st code).station k st =
      { d.station k st with
        lastFaultCode := code, counters := bump (d.station k st).counters 1 1 } := by
  unfold Device.reporting Device.bumpStation
  rw [station_setStation_self, station_setStation_self]
  rfl

theorem stationFaultReply_absent (code : Nat) (absent : (d.station k st).state = .absent) :
    stationFaultReply k st code d = d.bumpStation k st .faultReplies := by
  unfold stationFaultReply
  simp only [absent]

theorem stationFaultReply_present (code : Nat) (present : (d.station k st).state ≠ .absent) :
    stationFaultReply k st code d =
      if (d.station k st).state = .faulted then putFaulted k st (d.reporting k st code)
      else raiseEvent .stationFaulted (some k.line) (some st) code
        (putFaulted k st (d.reporting k st code)) := by
  unfold stationFaultReply
  dsimp only
  rw [show (d.setStation k st { d.station k st with lastFaultCode := code }).bumpStation k st
    .faultReplies = d.reporting k st code from rfl]
  generalize d.reporting k st code = y
  generalize (d.station k st).state = state at present ⊢
  cases state with
  | absent => exact absurd rfl present
  | active => rfl
  | suspect => rfl
  | faulted => rfl

end Outcome

/-- Settles O35: the cases of `reportOutcome`. -/
theorem outcomeActsOnTheStation : Obligations.OutcomeActsOnTheStation := by
  intro k st isProbe d room x ls after raised count failed faulted kept returned resynced
  have rewinds {y z : Device} (h : y.Rewound k st z) (seqs : y.seqs = d.seqs)
      (egress : y.egress = d.egress) : resynced z := h.congr seqs egress rfl rfl
  have raises (kind : EventKind) (detail : Nat) {y : Device} (events : y.endpoint = d.endpoint)
      (timer : y.timer = d.timer) :
      (raiseEvent kind (some k.line) (some st) detail y).endpoint.events = raised kind detail := by
    have joins := raiseEvent_events (d := y) kind (some k.line) (some st) detail
      (by rw [events]; exact room)
    rw [events, timer] at joins
    exact joins
  refine ⟨fun up => ?recovers, fun state => ?returns, fun opened up => ⟨fun above => ?faults,
    fun below => ?suspects⟩, fun opened state => ?stays, fun closed => ?closed,
    fun code present => ?reports, fun absent => ⟨?silent, fun code => ?counted⟩⟩
  case recovers =>
    have result : after .success = _ := stationSuccess_up up
    rw [result]
    exact ⟨⟨fun _ _ => rfl, rfl⟩, station_setStation_self .., rfl⟩
  case returns =>
    have result : after .success = _ := stationSuccess_faulted state
    rw [result]
    refine ⟨kept_of_writes (fs := [.stations, .endpoint]) ((setStation_writes d k st _).mono.andThen (raiseEvent_writes ..)), ?_,
      raises _ _ rfl rfl⟩
    rw [raiseEvent_station]
    exact station_setStation_self ..
  case faults =>
    have result : after .failed = _ := (if_pos opened).trans
      ((stationFailure_up isProbe up).trans (stationFails_faults above))
    have faulting := putFaulted_writes (d.failing k st) k st
    have station := putFaulted_station k st (d.failing k st)
    have back := putFaulted_rewound k st (d.failing k st)
    rw [failing_station] at station
    generalize putFaulted k st (d.failing k st) = y at *
    have told := raiseEvent_writes y .stationFaulted (some k.line) (some st) 256
    rw [result]
    refine ⟨rewinds (back.congr rfl rfl told.seqs told.egress) rfl rfl, ?_,
      raises _ _ faulting.endpoint faulting.timer⟩
    rw [raiseEvent_station, station]
    rfl
  case suspects =>
    have result : after .failed = _ := (if_pos opened).trans
      ((stationFailure_up isProbe up).trans (stationFails_suspects below))
    have station : ((d.failing k st).setStation k st
        { (d.failing k st).station k st with state := .suspect }).station k st =
        { x with state := .suspect, failureCount := count, counters := failed } := by
      rw [station_setStation_self, failing_station]
    have written : Writes [.stations] d ((d.failing k st).setStation k st
        { (d.failing k st).station k st with state := .suspect }) :=
      ((setStation_writes ..).andThen (bumpStation_writes ..)).andThen (setStation_writes ..)
    dsimp only at result
    generalize (d.failing k st).setStation k st
      { (d.failing k st).station k st with state := .suspect } = y at *
    rw [result]
    by_cases active : (d.station k st).state = .active
    · rw [if_pos active, raiseEvent_station]
      exact ⟨kept_of_writes (fs := [.stations, .endpoint]) (written.mono.andThen (raiseEvent_writes ..)), station,
        (raises _ _ written.endpoint written.timer).trans (if_pos active).symm⟩
    · rw [if_neg active]
      exact ⟨kept_of_writes written, station,
        (congrArg Endpoint.events written.endpoint).trans (if_neg active).symm⟩
  case stays =>
    have result : after .failed = _ := (if_pos opened).trans (stationFailure_faulted isProbe state)
    rw [result]
    exact ⟨⟨fun _ _ => rfl, rfl⟩, station_setStation_self .., rfl⟩
  case closed => exact if_neg closed
  case reports =>
    have result : after (.faultReply code) = _ := stationFaultReply_present code present
    have faulting := putFaulted_writes (d.reporting k st code) k st
    have station := putFaulted_station k st (d.reporting k st code)
    have back := putFaulted_rewound k st (d.reporting k st code)
    rw [reporting_station] at station
    generalize putFaulted k st (d.reporting k st code) = y at *
    rw [result]
    by_cases state : (d.station k st).state = .faulted
    · rw [if_pos state, station]
      exact ⟨rewinds back rfl rfl, rfl,
        (congrArg Endpoint.events faulting.endpoint).trans (if_pos state).symm⟩
    · have told := raiseEvent_writes y .stationFaulted (some k.line) (some st) code
      rw [if_neg state, raiseEvent_station, station]
      exact ⟨rewinds (back.congr rfl rfl told.seqs told.egress) rfl rfl, rfl,
        (raises _ _ faulting.endpoint faulting.timer).trans (if_neg state).symm⟩
  case silent => exact stationSuccess_absent absent
  case counted =>
    have result : after (.faultReply code) = _ := stationFaultReply_absent code absent
    rw [result]
    exact ⟨⟨fun _ _ => rfl, rfl⟩, station_setStation_self ..⟩

end Sys2Proof.Machine

/-! Failed attempts: the retry that follows, or the end of the transaction. -/

namespace Sys2Proof.Machine

open Device (Writes)

variable {k : Branch} {r : InFlight} {d : Device}

/- ### The retry (R111, R113) -/

/-- What a retry asks for (R113). -/
def Device.triesAgain (d : Device) (k : Branch) (r : InFlight) : Prop :=
  r.attempt < 1 + (d.settings k.line).retryLimit ∧ d.admission k = .opened ∧
    (d.seq k).pendingStart = none ∧
    ((d.seq k).deadline.map fun deadline => decide (d.now + r.worst ≤ deadline)) = some true

set_option Elab.async false in
theorem fits_iff_map (k : Branch) (worst : Nat) (d : Device) : d.fits k worst = true ↔
    ((d.seq k).deadline.map fun deadline => decide (d.now + worst ≤ deadline)) = some true := by
  unfold Device.fits
  rcases (d.seq k).deadline with _ | deadline <;> simp

theorem retries_iff : d.retries k r = true ↔ d.triesAgain k r := by
  unfold Device.retries Device.triesAgain
  rw [Bool.and_eq_true, Bool.and_eq_true, Bool.and_eq_true, decide_eq_true_eq, beq_iff_eq,
    Option.isNone_iff_eq_none, fits_iff_map, and_assoc, and_assoc]

/-- The part once a retry has started. -/
def Device.retried (d : Device) (k : Branch) (r : InFlight) : Device :=
  (d.bumpLine k.line .retries).setSeq k { d.seq k with
    inFlight := some { r with attempt := r.attempt + 1, replyWait := none },
    sending := some (d.sendingOf k .request (d.requestOf k r)) }

theorem failAttempt_again (again : d.triesAgain k r) : failAttempt k r d = d.retried k r := by
  have request : (d.bumpLine k.line .retries).requestOf k { r with attempt := r.attempt + 1 } =
      d.requestOf k r := rfl
  unfold failAttempt
  rw [if_pos (retries_iff.2 again), startAttempt_sends, request]
  rfl

theorem failAttempt_ends (ended : ¬ d.triesAgain k r) : failAttempt k r d =
    endTransaction k { r with replyWait := none } .failed d := if_neg (mt retries_iff.1 ended)

/- ### The expiry (R113, R128) -/

theorem replyTimeoutDue_due {due : Nat} (flies : (d.seq k).inFlight = some r)
    (waits : r.replyWait = some due) :
    replyTimeoutDue k d = failAttempt k r { d with now := due } := by
  unfold replyTimeoutDue
  simp only [flies, waits]

theorem replyTimeoutDue_idle (idle : ∀ r, (d.seq k).inFlight = some r → r.replyWait = none) :
    replyTimeoutDue k d = d := by
  unfold replyTimeoutDue
  rcases flies : (d.seq k).inFlight with _ | r
  · rfl
  · simp only [idle r flies]

theorem exec_replyTimeout {due : Nat} {s : State} (runs : s.dev.inReset = false)
    (flies : (s.dev.seq k).inFlight = some r) (waits : r.replyWait = some due) :
    exec (.replyTimeout k) s =
      .next { s with dev := settle (failAttempt k r { s.dev with now := due }) } :=
  expiry_ends runs (replyTimeoutDue_due flies waits) rfl

/-- What a frame that an attempt does not wait for leaves (R130). -/
theorem unexpected_leaves (d : Device) (k : Branch) (now : Nat) (bytes : List Byte) (st : Nat) :
    let x := d.lineIf k.line
    let counted : Device := { d with
      now := now,
      lines := d.lines.set k.line { x with
        rx := received 137 bytes, counters := bump (bump x.counters 0 1) 33 1 } }
    let y := d.station k st
    let t := if st = 0 then counted
      else counted.setStation k st { y with counters := bump y.counters 8 1 }
    t.seqs = d.seqs ∧ t.pool = d.pool ∧
      t.lineCount k.line .unexpected = raiseCount (d.lineCount k.line .unexpected) 1 := by
  intro x counted y t
  have lines : t.lines = counted.lines := by
    dsimp only [t]
    split <;> rfl
  have count : counted.lineCount k.line .unexpected =
      raiseCount (d.lineCount k.line .unexpected) 1 := by
    have here : counted.lineIf k.line = { x with
        rx := received 137 bytes, counters := bump (bump x.counters 0 1) 33 1 } :=
      PerLine.get_set_self ..
    unfold Device.lineCount
    rw [here]
    dsimp only
    rw [show LineCounter.unexpected.pos = 33 from rfl, get_bump, if_pos rfl, get_bump,
      if_neg (by decide)]
  refine ⟨?_, ?_, ?_⟩
  · dsimp only [t]
    split <;> rfl
  · dsimp only [t]
    split <;> rfl
  · refine Eq.trans ?_ count
    unfold Device.lineCount Device.lineIf
    rw [lines]

/-- Settles O33: the two cases of `failAttempt`, and the arrivals and the expiry that lead to it. -/
theorem failedAttemptIsRetriedOrEnds : Obligations.FailedAttemptIsRetriedOrEnds := by
  refine ⟨fun k s quiet => ⟨?retry, fun idle => ?idle⟩,
    fun k due r s runs flies waits => exec_replyTimeout runs flies waits, ?arrivals,
    fun k r d => ⟨failAttempt_again, failAttempt_ends⟩⟩
  case idle => exact expiry_ends quiet.1 (replyTimeoutDue_idle idle) (settle_quiet quiet.2.1 quiet.2.2)
  case retry =>
    intro r due deadline flies waits attempts opened start bound room request size q x after
    have again : ({ s.dev with now := due } : Device).triesAgain k r :=
      ⟨attempts, opened, start, (congrArg (Option.map fun deadline =>
        decide (due + r.worst ≤ deadline)) bound).trans (congrArg some (decide_eq_true room))⟩
    have retried : failAttempt k r { s.dev with now := due } = after.dev := failAttempt_again again
    have written : Writes [.now, .lines, .seqs, .cores] s.dev after.dev := by
      rw [← retried, failAttempt_again again]
      exact ((now_writes s.dev due).mono.andThen (bumpLine_writes ..)).andThen (setSeq_writes ..)
    have quiet' : after.dev.quiet :=
      ⟨written.inReset.trans quiet.1, written.mgmtReady quiet.2.1, written.trunkQuiet quiet.2.2⟩
    have seq : after.dev.seq k = q := PerBranch.get_set_self ..
    refine ⟨?_, fun start bytes f starts passed => ?_⟩
    · refine (exec_replyTimeout quiet.1 flies waits).trans (next_congr ?_)
      rw [retried]
      exact written.settle_quiet quiet.2.1 quiet.2.2
    · have unwanted := unwantedBranchFrameIsOnlyCounted.2 k start due bytes f after quiet'
        (fun tx sends => by rw [seq] at sends; rw [← Option.some_inj.1 sends])
        (by rw [show after.dev.admission k = .opened from opened]; decide) starts
        (fun r' flies' => by rw [seq] at flies'; rw [← Option.some_inj.1 flies']) passed
      obtain ⟨seqs, pool, count⟩ := unexpected_leaves after.dev k due bytes f.station
      refine ⟨_, unwanted, seqs, pool, count.trans ?_⟩
      have before : after.dev.lineCount k.line .unexpected = s.dev.lineCount k.line .unexpected :=
        (lineCount_bumpLineBy s.dev k.line k.line .retries .unexpected 1).trans
          (if_neg fun h => by cases h.2)
      rw [before]
  case arrivals =>
    intro k start now bytes r s awaits got fails replies
    obtain ⟨-, -, -, -, flies, waits⟩ := id awaits
    have waiting {d : Device} (w : Writes [.lines, .endpoint, .stations] got d) :
        d.waiting k = some r := by
      have seq : d.seq k = s.dev.seq k := congrArg (PerBranch.get · k) w.seqs
      exact waiting_awaited (by rw [seq]; exact flies) waits
    have allows (f : BranchFrame) : r.txn.allows f = replies f := by
      dsimp only [replies]
      unfold Txn.allows
      cases r.txn <;> rw [Bool.eq_iff_iff] <;> simp [or_assoc]
    refine ⟨fun header => ?_, fun payload => ?_, fun f passed other => ?_⟩
    · exact exec_awaited awaits header
        (erroredArrival_awaited (waiting ((headerErrorOn_writes got k.line).mono)))
    · exact exec_awaited awaits payload
        (erroredArrival_awaited (waiting ((payloadErrorOn_writes got k.line).mono)))
    · refine exec_awaited awaits passed (validArrival_fails
        (waiting ((bumpLine_writes got k.line .framesReceived).mono)) ?_)
      rw [allows]
      rintro ⟨station, replied⟩
      exact other.elim (fun h => h station) fun h => nomatch h.symm.trans replied

end Sys2Proof.Machine

/-! SUPPORT. The elements of a branch's cycle, and the probe that follows them: each start in the words
of the rules. -/

namespace Sys2Proof.Machine

open Device (Writes)

variable {k : Branch} {d : Device}

/- ### An element's EXCHANGE (R110, R132) -/

/-- The frame in the slot of an element's output circuit, where it is held. -/
def Device.heldOutput (d : Device) (e : Element) : Option Frame :=
  (d.outputFrame e.output).bind d.frame?

set_option Elab.async false in
theorem lengthOf_bind (frame : Option Nat) (d : Device) :
    (frame.map d.lengthOf).getD 0 = ((frame.bind d.frame?).map Frame.length).getD 0 := by
  rcases frame with _ | ref <;> rfl

theorem priorityOf_bind (frame : Option Nat) (d : Device) :
    (frame.map d.priorityOf).getD 0 = ((frame.bind d.frame?).map Frame.priority).getD 0 := by
  rcases frame with _ | ref <;> rfl

theorem payloadOf_bind (frame : Option Nat) (d : Device) :
    (frame.map d.payloadOf).getD [] = ((frame.bind d.frame?).map Frame.payload).getD [] := by
  rcases frame with _ | ref <;> rfl

theorem exchangeCid_eq (d : Device) (output : Option Nat) : d.exchangeCid output =
    match output with
    | none => 0
    | some out => ((d.circuit? out).bind Circuit.egressCid).getD out := by
  unfold Device.exchangeCid
  rcases output with _ | out
  · rfl
  · dsimp only
    rcases d.circuit? out with _ | c <;> rfl

/-- The worst case of an element's EXCHANGE in the words of the rules (R110). -/
theorem elementWorst_eq (d : Device) (k : Branch) (e : Element) : d.elementWorst k e =
    (frameSize (max (maxLengthIn d.tables.circuits e.output)
        (((d.heldOutput e).map Frame.length).getD 0)) +
      frameSize (maxLengthIn d.tables.circuits e.input)) * (d.settings k.line).byteTime +
      (d.settings k.line).replyTimeout * 1000 := by
  unfold Device.elementWorst Device.outputTerm
  rw [lengthOf_bind]
  rfl

/-- The request of an EXCHANGE, as the rules say it (R132). -/
def Device.exchangeFrame (d : Device) (k : Branch) (e : Element) : BranchFrame :=
  { kind := .exchange, station := e.station, toggle := false,
    resync := (d.station k e.station).resyncPending, fresh := (d.outputFrame e.output).isSome,
    position := .only,
    field := ((d.heldOutput e).map Frame.priority).getD 0 * 8192 + d.exchangeCid e.output,
    payload := ((d.heldOutput e).map Frame.payload).getD [] }

/-- The pool once the EXCHANGE has taken its own reference on the slot's frame (R132). -/
def Device.takenPool (d : Device) (e : Element) : Pool :=
  match d.outputFrame e.output, d.heldOutput e with
  | some ref, some f => { d.pool with frames := d.pool.frames.insert ref { f with refs := f.refs + 1 } }
  | _, _ => d.pool

theorem takenPool_none {e : Element} (empty : d.outputFrame e.output = none) :
    d.takenPool e = d.pool := by
  unfold Device.takenPool
  simp only [empty]

theorem takenPool_some {e : Element} {ref : Nat} (slot : d.outputFrame e.output = some ref) :
    d.takenPool e = d.pool.take ref := by
  unfold Device.takenPool Device.heldOutput Pool.take
  simp only [slot, Option.bind_some]
  unfold Device.frame?
  rcases d.pool.frames.find? ref with _ | f <;> rfl

/-- An EXCHANGE starts on the part that has taken the slot's frame. -/
theorem startExchange_attempt (k : Branch) (e : Element) (d : Device) : startExchange k e d =
    startAttempt k (firstAttempt (.exchange e.index e.output e.input (d.outputFrame e.output)
      (d.exchangeCid e.output) (((d.outputFrame e.output).map d.priorityOf).getD 0)) e.station
        (d.elementWorst k e)) { d with pool := d.takenPool e } := by
  unfold startExchange
  dsimp only
  rcases slot : d.outputFrame e.output with _ | ref
  · rw [takenPool_none slot]
  · rw [takenPool_some slot]
    rfl

/-- One more reference to a frame leaves its payload. -/
theorem payload_taken (d : Device) (e : Element) (ref : Nat) :
    ((({ d with pool := d.takenPool e } : Device).frame? ref).map Frame.payload) =
      (d.frame? ref).map Frame.payload := by
  unfold Device.takenPool Device.heldOutput
  rcases frame : d.outputFrame e.output with _ | out
  · rfl
  · rw [Option.bind_some]
    rcases held : d.frame? out with _ | f
    · rfl
    · unfold Device.frame? at held ⊢
      dsimp only
      rw [find?_insert]
      split
      · subst_vars
        rw [held]
        rfl
      · rfl

theorem startExchange_eq (k : Branch) (e : Element) (d : Device) : startExchange k e d =
    ({ d with pool := d.takenPool e } : Device).setSeq k { d.seq k with
      inFlight := some
        { txn := .exchange e.index e.output e.input (d.outputFrame e.output)
            (d.exchangeCid e.output) (((d.heldOutput e).map Frame.priority).getD 0),
          station := e.station, worst := d.elementWorst k e, attempt := 1, replyWait := none,
          received := none },
      sending := some (d.sendingOf k .request (d.exchangeFrame k e)) } := by
  have payload : (((d.outputFrame e.output).map
      ({ d with pool := d.takenPool e } : Device).payloadOf).getD []) =
      ((d.heldOutput e).map Frame.payload).getD [] := by
    have same (ref : Nat) : ({ d with pool := d.takenPool e } : Device).payloadOf ref =
        d.payloadOf ref := by
      unfold Device.payloadOf
      rw [payload_taken]
    unfold Device.heldOutput
    rw [← payloadOf_bind (d.outputFrame e.output) d]
    rcases d.outputFrame e.output with _ | ref
    · rfl
    · exact same ref
  have priority : ((d.outputFrame e.output).map d.priorityOf).getD 0 =
      ((d.heldOutput e).map Frame.priority).getD 0 := priorityOf_bind ..
  have request : ({ d with pool := d.takenPool e } : Device).requestOf k
      (firstAttempt (.exchange e.index e.output e.input (d.outputFrame e.output)
        (d.exchangeCid e.output) (((d.outputFrame e.output).map d.priorityOf).getD 0))
        e.station (d.elementWorst k e)) = d.exchangeFrame k e := by
    unfold Device.exchangeFrame
    rw [← payload, ← priority]
    rfl
  rw [startExchange_attempt, startAttempt_sends, request, priority]
  rfl

end Sys2Proof.Machine

/-! The completion of a branch frame, the end of a transaction, and the sequencer's next step. -/

namespace Sys2Proof.Machine

open Device (Writes)

variable {k : Branch} {d : Device}

/- ### The periodic part (R115) -/

set_option Elab.async false in
theorem stationUp_iff (d : Device) (k : Branch) (st : Nat) : d.stationUp k st = true ↔
    (d.station k st).state = .active ∨ (d.station k st).state = .suspect := by
  rw [stationUp_eq, decide_eq_true_eq]

theorem periodicStep_skips {e : Element} (es : List Element) (gone : ¬ d.stationUp k e.station = true) :
    periodicStep k (e :: es) d = periodicStep k es (skipElement k d e) := by
  rw [periodicStep, if_pos (by simpa using gone)]

theorem periodicStep_misses {e : Element} (es : List Element) (up : d.stationUp k e.station = true)
    (late : ¬ d.fits k (d.elementWorst k e) = true) :
    periodicStep k (e :: es) d = periodicStep k es (missElement k d e) := by
  rw [periodicStep, if_neg (by simp [up]), if_pos (by simpa using late)]

theorem periodicStep_starts {e : Element} (es : List Element) (up : d.stationUp k e.station = true)
    (fits : d.fits k (d.elementWorst k e) = true) :
    periodicStep k (e :: es) d = startExchange k e d := by
  rw [periodicStep, if_neg (by simp [up]), if_neg (by simp [fits])]

/- ### Probes (R116) -/

/-- A station is due for a probe (R116). -/
def Device.dueForProbe (d : Device) (k : Branch) (st : Nat) : Prop :=
  (d.station k st).state = .faulted ∧ (d.station k st).probeCountdown = 0 ∧
    (d.station k st).serviced = false

theorem probe_test (d : Device) (k : Branch) (st : Nat) :
    ((d.station k st).state == .faulted && (d.station k st).probeCountdown == 0 &&
      !(d.station k st).serviced) = true ↔ d.dueForProbe k st := by
  unfold Device.dueForProbe
  rw [Bool.and_eq_true, Bool.and_eq_true, beq_iff_eq, beq_iff_eq, Bool.not_eq_true', and_assoc]

theorem probeDue_none (idle : ∀ st, 1 ≤ st → st ≤ 30 → ¬ d.dueForProbe k st) :
    d.probeDue k = none := by
  refine List.find?_eq_none.2 fun st mem => ?_
  have range := List.mem_range'_1.1 mem
  exact mt (probe_test d k st).1 (idle st range.1 (by omega))

theorem probeDue_some {st : Nat} (h1 : 1 ≤ st) (h2 : st ≤ 30) (due : d.dueForProbe k st)
    (lowest : ∀ lower, 1 ≤ lower → lower < st → ¬ d.dueForProbe k lower) :
    d.probeDue k = some st := by
  refine find?_least (key := id) (l := stationAddresses) (by decide)
    (List.mem_range'_1.2 (by omega)) ((probe_test d k st).2 due) fun lower mem below => ?_
  have range := List.mem_range'_1.1 mem
  exact Bool.eq_false_iff.2 (mt (probe_test d k lower).1 (lowest lower range.1 below))

theorem startProbe_eq (k : Branch) (st : Nat) (d : Device) : startProbe k st d =
    (d.setStation k st { d.station k st with serviced := true }).setSeq k { d.seq k with
      inFlight := some
        { txn := .probe, station := st, worst := serviceWorst (d.settings k.line), attempt := 1,
          replyWait := none, received := none },
      sending := some
        { role := .request, starts := d.now, ends := d.now + 7 * (d.settings k.line).byteTime,
          wire := sealHeader [0x12, byteOf st, 0x40, 0x00, 0x00, 0x00] } } := by
  have wire := service_wire st true
  rw [if_pos rfl] at wire
  unfold startProbe markServiced
  rw [startAttempt_sends, ← wire]
  rfl

/-- In APERIODIC no probe and no deadline depends on the state. -/
theorem aperiodicStep_selects
    (h : (∀ st, 1 ≤ st → st ≤ 30 → ¬ d.dueForProbe k st) ∨
      ¬ d.fits k (serviceWorst (d.settings k.line)) = true) :
    aperiodicStep k d = selectBranch k (setSeqState k .aperiodic d) := by
  have fits (worst : Nat) : (setSeqState k .aperiodic d).fits k worst = d.fits k worst := by
    unfold Device.fits setSeqState
    rw [seq_setSeq_self]
    rfl
  unfold aperiodicStep
  dsimp only
  rcases due : (setSeqState k .aperiodic d).probeDue k with _ | st
  · rfl
  · dsimp only
    refine if_neg ?_
    rw [fits]
    refine h.resolve_left fun idle => ?_
    have missing : (setSeqState k .aperiodic d).probeDue k = none := probeDue_none idle
    rw [missing] at due
    exact nomatch due

theorem aperiodicStep_probes {st : Nat} (h1 : 1 ≤ st) (h2 : st ≤ 30) (due : d.dueForProbe k st)
    (lowest : ∀ lower, 1 ≤ lower → lower < st → ¬ d.dueForProbe k lower)
    (fits : d.fits k (serviceWorst (d.settings k.line)) = true) :
    aperiodicStep k d = startProbe k st (setSeqState k .aperiodic d) := by
  have found : (setSeqState k .aperiodic d).probeDue k = some st := probeDue_some h1 h2 due lowest
  have fits' : (setSeqState k .aperiodic d).fits k
      (serviceWorst ((setSeqState k .aperiodic d).settings k.line)) = true := by
    unfold Device.fits setSeqState
    rw [seq_setSeq_self]
    exact fits
  unfold aperiodicStep
  dsimp only
  simp only [found]
  exact if_pos fits'

/- ### The end of a transaction (R114) -/

section NextStep

theorem nextStep_shutting (h : d.admission k = .shutting) : nextStep k d = becomeShut k d := by
  unfold nextStep
  simp only [h]

theorem nextStep_begins (h : d.admission k = .opened) {start : Cycle × Nat}
    (pending : (d.seq k).pendingStart = some start) :
    nextStep k d = beginCycle k start.1 start.2 d := by
  unfold nextStep
  simp only [h, pending]

set_option Elab.async false in
theorem nextStep_periodic (h : d.admission k = .opened) (pending : (d.seq k).pendingStart = none)
    (state : (d.seq k).state = .periodic) :
    nextStep k d = periodicStep k (d.pendingElements k) d := by
  unfold nextStep
  simp only [h, pending, state]

theorem nextStep_aperiodic (h : d.admission k = .opened) (pending : (d.seq k).pendingStart = none)
    (state : (d.seq k).state = .aperiodic) : nextStep k d = aperiodicStep k d := by
  unfold nextStep
  simp only [h, pending, state]

end NextStep

section HandOver

variable {r : InFlight}

theorem handOverReceived_none (received : r.received = none) : handOverReceived k r d = d := by
  unfold handOverReceived
  simp only [received]

/-- The frame of a transaction as it reaches the Classifier (R31). -/
def InFlight.origin (r : InFlight) (k : Branch) (ref : Nat) : Origin :=
  match r.txn with
  | .exchange _ _ input _ _ _ => .exchange k r.station input ref
  | _ => .service k r.station ref

theorem handOverReceived_some {ref : Nat} {f : Frame} (received : r.received = some ref)
    (held : d.frame? ref = some f) :
    let a : Arriving :=
      { origin := r.origin k ref, cid := f.cid, priority := f.priority, length := f.length }
    handOverReceived k r d =
      if f.cid = 4095 then discardArriving a .unknown d else classify a d := by
  intro a
  have hands (o : Origin) : handOver ref o d =
      if f.cid = 4095 then discardArriving
        { origin := o, cid := f.cid, priority := f.priority, length := f.length } .unknown d
      else classify
        { origin := o, cid := f.cid, priority := f.priority, length := f.length } d := by
    unfold handOver
    simp only [held]
    rfl
  unfold handOverReceived
  dsimp only [a]
  unfold InFlight.origin
  rw [received]
  cases r.txn <;> exact hands _

end HandOver

/- ### The cycle that begins (R107) -/

/-- Every element that is missed is counted (R107, R124). -/
theorem missElements_missed (k : Branch) (es : List Element) (d : Device) :
    (es.foldl (missElement k) d).lineCount k.line .missed =
      es.foldl (fun m _ => raiseCount m 1) (d.lineCount k.line .missed) := by
  induction es generalizing d with
  | nil => rfl
  | cons e es ih =>
    have one : (missElement k d e).lineCount k.line .missed =
        raiseCount (d.lineCount k.line .missed) 1 :=
      (lineCount_bumpLineBy (setElement k e.index .missed d) ..).trans (if_pos ⟨rfl, rfl⟩)
    rw [List.foldl_cons, ih, one, List.foldl_cons]

theorem beginCycle_missed (k : Branch) (cycle : Cycle) (deadline : Nat) (d : Device) :
    (beginCycle k cycle deadline d).lineCount k.line .missed =
      (d.pendingElements k).foldl (fun m _ => raiseCount m 1) (d.lineCount k.line .missed) := by
  have cleared : (clearServiced k ((d.pendingElements k).foldl (missElement k) d)).lineCount k.line
      .missed = (d.pendingElements k).foldl (fun m _ => raiseCount m 1)
        (d.lineCount k.line .missed) := by
    refine Eq.trans ?_ (missElements_missed k _ d)
    unfold Device.lineCount Device.lineIf
    rw [(clearServiced_writes ..).lines]
  unfold beginCycle
  dsimp only
  generalize clearServiced k ((d.pendingElements k).foldl (missElement k) d) = x at *
  rw [lineCount_sendBranch]
  unfold Device.bumpLine
  rw [lineCount_bumpLineBy, if_neg (fun h => by cases h.2), lineCount_setSeq, cleared]

end Sys2Proof.Machine

/-! The completion of a branch frame and what it leads to. -/

namespace Sys2Proof.Machine

open Device (Writes)

variable {k : Branch} {d : Device}

/- ### The completion (R13) -/

/-- The part once a branch frame has been sent (R13). -/
def Device.sentOn (d : Device) (k : Branch) (ends : Nat) : Device :=
  ({ d with now := ends } : Device).setSeq k { d.seq k with sending := none } |>.bumpLine k.line
    .framesSent

set_option Elab.async false in
theorem branchComplete_sent {tx : BranchSending} (sends : (d.seq k).sending = some tx) :
    branchComplete k d = afterBranchFrame k tx.role (d.sentOn k tx.ends) := by
  unfold branchComplete
  simp only [sends]
  rfl

theorem branchComplete_silent (silent : (d.seq k).sending = none) : branchComplete k d = d := by
  unfold branchComplete
  simp only [silent]

theorem sentOn_seq (d : Device) (k : Branch) (ends : Nat) :
    (d.sentOn k ends).seq k = { d.seq k with sending := none } :=
  seq_setSeq_self ({ d with now := ends } : Device) k _

theorem sentOn_writes (d : Device) (k : Branch) (ends : Nat) :
    Writes [.now, .seqs, .cores, .lines] d (d.sentOn k ends) :=
  ((now_writes d ends).mono.andThen (setSeq_writes ..)).andThen (bumpLine_writes ..)

section After

variable {role : TxRole}

theorem afterBranchFrame_request {r : InFlight} (flies : (d.seq k).inFlight = some r) :
    afterBranchFrame k .request d = startWait k r d := by
  unfold afterBranchFrame
  simp only [flies]

theorem afterBranchFrame_answer {r : InFlight} (flies : (d.seq k).inFlight = some r) :
    afterBranchFrame k .answer d = endTransaction k r .success d := by
  unfold afterBranchFrame
  simp only [flies]

variable (idle : (d.seq k).inFlight = none)
include idle

theorem afterBranchFrame_begins (opened : d.admission k = .opened) {start : Cycle × Nat}
    (pending : (d.seq k).pendingStart = some start) :
    afterBranchFrame k role d = beginCycle k start.1 start.2 d := by
  unfold afterBranchFrame
  simp only [idle, if_pos opened, pending]

theorem afterBranchFrame_periodic (opened : d.admission k = .opened)
    (pending : (d.seq k).pendingStart = none) (state : (d.seq k).state = .periodic) :
    afterBranchFrame k role d = periodicStep k (d.pendingElements k) d := by
  unfold afterBranchFrame
  simp only [idle, if_pos opened, pending, state]

theorem afterBranchFrame_rests
    (rests : d.admission k ≠ .opened ∨
      ((d.seq k).pendingStart = none ∧ (d.seq k).state ≠ .periodic)) :
    afterBranchFrame k role d = d := by
  unfold afterBranchFrame
  simp only [idle]
  by_cases opened : d.admission k = .opened
  · obtain ⟨pending, state⟩ := rests.resolve_left (not_not_intro opened)
    rw [if_pos opened]
    generalize (d.seq k).pendingStart = start at pending ⊢
    generalize (d.seq k).state = state' at state ⊢
    subst pending
    cases state' with
    | periodic => exact absurd rfl state
    | waiting => rfl
    | aperiodic => rfl
    | done => rfl
  · exact if_neg opened

end After

/-- What an element's turn does reaches no line but its branch's own. -/
theorem periodicStep_egr {l : Line} (h : l ≠ k.line) (es : List Element) (d : Device) :
    (periodicStep k es d).egr l = d.egr l := by
  have kept {x y : Device} {fs : List Field} (w : Writes fs x y)
      (free : .egress ∉ fs := by decide) : y.egr l = x.egr l :=
    congrArg (PerLine.get · l) (w.egress free)
  have last (d : Device) : (aperiodicStep k d).egr l = d.egr l := by
    unfold aperiodicStep
    dsimp only
    split
    · exact (selectBranch_egr h).trans (kept (setSeqState_writes ..))
    · split
      · exact (kept (startProbe_writes ..)).trans (kept (setSeqState_writes ..))
      · exact (selectBranch_egr h).trans (kept (setSeqState_writes ..))
  induction es generalizing d with
  | nil => exact last d
  | cons e es ih =>
    rw [periodicStep]
    split
    · exact (ih _).trans (kept (skipElement_writes ..))
    · split
      · exact (ih _).trans (kept (missElement_writes ..))
      · exact kept (startExchange_writes ..)

/-- Settles O32: the cases of `branchComplete`, `endTransaction`, `nextStep`, `beginCycle`,
`periodicStep` and `aperiodicStep`. -/
theorem branchCompletionTakesTheNextStep : Obligations.BranchCompletionTakesTheNextStep := by
  refine ⟨?completion, ?ends, ?next, ?begins, ?element, ?probe⟩
  case completion =>
    intro k s quiet q sent pending
    obtain ⟨runs, ready, still⟩ := quiet
    have event {tx : BranchSending} (sends : q.sending = some tx) {d d' : Device}
        (acts : afterBranchFrame k tx.role (sent tx.ends) = d) (ends : settle d = d') :
        exec (.branchTransmissionComplete k) s = .next { s with dev := d' } :=
      expiry_ends runs ((branchComplete_sent sends).trans acts) ends
    have seq (ends : Nat) : (sent ends).seq k = { q with sending := none } :=
      sentOn_seq s.dev k ends
    have written (ends : Nat) : Writes [.now, .seqs, .cores, .lines] s.dev (sent ends) :=
      sentOn_writes s.dev k ends
    refine ⟨fun starts ends wire r sends flies => ?_, fun tx sends idle => ?_,
      fun tx sends role r flies => ?_, fun silent =>
        expiry_ends runs (branchComplete_silent silent) (settle_quiet ready still)⟩
    · intro waits after
      have waiting : startWait k r (sent ends) = after := by
        unfold startWait setInFlight
        rw [seq]
        rfl
      have all : Writes [.now, .seqs, .cores, .lines] s.dev after :=
        (written ends).andThen (setSeq_writes ..)
      refine event sends ((afterBranchFrame_request (by rw [seq]; exact flies)).trans waiting)
        (all.settle_quiet ready still)
    · have none' : ((sent tx.ends).seq k).inFlight = none := by rw [seq]; exact idle
      refine ⟨fun opened start deferred => ?_, fun opened calm state => ?_, fun rests => ?_⟩
      · refine event sends (afterBranchFrame_begins none' opened (by rw [seq]; exact deferred)) ?_
        exact ((written tx.ends).mono (fs := [.now, .seqs, .cores, .lines, .stations])
          |>.andThen (beginCycle_writes ..)).settle_quiet ready still
      · have step := afterBranchFrame_periodic (role := tx.role) none' opened
          (by rw [seq]; exact calm) (by rw [seq]; exact state)
        have list : (sent tx.ends).pendingElements k = pending := by
          unfold Device.pendingElements
          rw [seq]
          rfl
        rw [list] at step
        have w := (written tx.ends).mono (fs := .now :: selectionFields) |>.andThen
          (periodicStep_writes (sent tx.ends) k pending)
        have queue (c : Class) :
            (periodicStep k pending (sent tx.ends)).queue .t c = s.dev.queue .t c :=
          congrArg (fun x : Egress => x.queues.get c)
            ((periodicStep_egr (line_ne_trunk k) pending (sent tx.ends)).trans
              (congrArg (PerLine.get · Line.t) (written tx.ends).egress))
        exact event sends step (w.settle_quiet_queues ready still queue)
      · refine event sends (afterBranchFrame_rests none' ?_)
          ((written tx.ends).settle_quiet ready still)
        rw [seq]
        exact rests
    · have answered : afterBranchFrame k tx.role (sent tx.ends) =
          endTransaction k r .success (sent tx.ends) := by
        rw [role]
        exact afterBranchFrame_answer (by rw [seq]; exact flies)
      exact event sends answered rfl
  case ends =>
    intro k r o d reported handed settled
    exact ⟨rfl, handOverReceived_none, fun ref received f held =>
      handOverReceived_some received held⟩
  case next =>
    intro k d pending
    exact ⟨nextStep_shutting, fun opened start deferred => nextStep_begins opened deferred,
      fun opened calm => ⟨nextStep_periodic opened calm, nextStep_aperiodic opened calm⟩⟩
  case begins =>
    intro k n deadline d begun due
    obtain ⟨seq, count, serviced⟩ := beginCycle_at k n deadline d
    refine ⟨?_, count, beginCycle_missed k n deadline d, serviced⟩
    rw [buildList_eq] at seq
    exact seq
  case element =>
    intro k e es d ls x frame held o i worst fits up marked cid priority request taken
    have judged : d.fits k (d.elementWorst k e) = true ↔ fits := by
      rw [fits_iff_map, elementWorst_eq]
      rfl
    refine ⟨rfl, fun gone => ?_, fun here late => ?_, fun here inTime => ?_⟩
    · exact periodicStep_skips es (mt (stationUp_iff d k e.station).1 gone)
    · exact periodicStep_misses es ((stationUp_iff d k e.station).2 here) (mt judged.1 late)
    · refine (periodicStep_starts es ((stationUp_iff d k e.station).2 here) (judged.2 inTime)).trans ?_
      have worst' : d.elementWorst k e = worst := elementWorst_eq d k e
      have cid' : d.exchangeCid e.output = cid := exchangeCid_eq d e.output
      have frame' : d.exchangeFrame k e = request := by
        unfold Device.exchangeFrame
        rw [cid']
        rfl
      rw [startExchange_eq, worst', cid', frame']
      rfl
  case probe =>
    intro k d ls free due worst fits
    have judged : d.fits k (serviceWorst (d.settings k.line)) = true ↔ fits := fits_iff_map ..
    refine ⟨fun h => aperiodicStep_selects (h.imp_right (mt judged.1)),
      fun st h1 h2 isDue lowest inTime => ?_⟩
    refine (aperiodicStep_probes h1 h2 isDue lowest (judged.2 inTime)).trans ?_
    have seq : (setSeqState k .aperiodic d).seq k = { d.seq k with state := .aperiodic } :=
      seq_setSeq_self ..
    rw [startProbe_eq, seq]
    exact setSeq_setSeq (d.setStation k st { d.station k st with serviced := true }) k _ _

end Sys2Proof.Machine

/-! The end of a transaction on a SHUTTING branch: the branch is SHUT, and its held SET_LINE is
answered. -/

namespace Sys2Proof.Machine

open Device (Writes)

variable {k : Branch} {d : Device}

/- ### The held response (R171, R172) -/

set_option Elab.async false in
theorem readyResponse_own {op : Byte} {tag : List Byte}
    (held : d.endpoint.inProgress = some (.setLine k op tag)) :
    readyResponse k d = { d with endpoint := { d.endpoint with
      inProgress := some (.ready (responseRecord d op tag { status := .ok })) } } := by
  unfold readyResponse
  simp only [held, if_true]

/-- A response that is ready fills the empty slot while the transmitter sends (R98, R171). -/
theorem settle_ready_sending {response : List Byte} {tx : TrunkSending}
    (slot : d.endpoint.slot = none) (ready : d.endpoint.inProgress = some (.ready response))
    (sends : d.trunkTx = some tx) :
    settle d = { d with endpoint := { d.endpoint with
      slot := some { bytes := response, isRestart := false }, inProgress := none } } := by
  have filled := fillSlot_response slot ready
  have chosen : trunkChoose (fillSlot d) = fillSlot d := by
    rw [filled]
    exact trunkChoose_sending (tx := tx) sends
  have full : fillSlot (fillSlot d) = fillSlot d :=
    fillSlot_full (r := { bytes := response, isRestart := false }) (by rw [filled])
  unfold settle
  rw [chosen, full, chosen, filled]

/-- What a response says goes by the tables, the change and the timer. -/
theorem responseRecord_of_writes {fs : List Field} {d' : Device} (w : Writes fs d d') (op : Byte)
    (tag : List Byte) (reply : Reply)
    (free : .tables ∉ fs ∧ .change ∉ fs ∧ .timer ∉ fs := by decide) :
    responseRecord d' op tag reply = responseRecord d op tag reply := by
  unfold responseRecord
  rw [w.tables free.1, w.change free.2.1, w.timer free.2.2]

/- ### The transaction that ends on a SHUTTING branch (R18, R113) -/

/-- The part in which the ended transaction is gone. -/
def Device.ended (d : Device) (k : Branch) (r : InFlight) : Device :=
  setInFlight k none (settleTransaction k r .failed d)

theorem failAttempt_shutting {r : InFlight} (shutting : d.admission k = .shutting)
    (received : r.received = none) :
    failAttempt k r d = becomeShut k (d.ended k { r with replyWait := none }) := by
  have ended : ¬ d.triesAgain k r := fun h => by
    rw [h.2.1] at shutting
    cases shutting
  have unreported (isProbe : Bool) : reportOutcome k r.station isProbe .failed d = d :=
    if_neg fun opened => by
      rw [opened] at shutting
      cases shutting
  rw [failAttempt_ends ended]
  unfold endTransaction
  dsimp only
  rw [unreported, handOverReceived_none (by exact received)]
  have w : Writes [.slots, .pool, .seqs, .cores] d (d.ended k { r with replyWait := none }) :=
    ((settleTransaction_writes d k { r with replyWait := none } .failed).mono).andThen
      (setInFlight_writes ..)
  refine nextStep_shutting (d := d.ended k { r with replyWait := none }) ?_
  exact (congrArg (PerBranch.get · k) w.branchAdm).trans shutting

theorem ended_writes (d : Device) (k : Branch) (r : InFlight) :
    Writes [.slots, .pool, .seqs, .cores] d (d.ended k r) :=
  ((settleTransaction_writes d k r .failed).mono).andThen (setInFlight_writes ..)

/-- What a branch's shutting leaves is kept by what only the Endpoint goes through. -/
theorem shut_kept {x y : Device} (w : Writes [.endpoint] x y)
    (shut : x.admission k = .shut) (seq : x.seq k = (d.seq k).flushed)
    (egr : x.egr k.line =
      { queues := PerClass.all []
        credits := Credits.ofWeights (d.settings k.line)
        release := PerClass.all none })
    (slots : x.slotsAt k.line = []) (contexts : ∀ c ∈ x.contexts, c.branch ≠ k) :
    y.admission k = .shut ∧ (y.seq k).inFlight = none ∧ (y.seq k).state = .waiting ∧
      (y.seq k).list = [] ∧ (∀ c, y.queue k.line c = [] ∧ y.release k.line c = none) ∧
      y.slotsAt k.line = [] ∧ ∀ c ∈ y.contexts, c.branch ≠ k := by
  have seq' : y.seq k = (d.seq k).flushed := (congrArg (PerBranch.get · k) w.seqs).trans seq
  have egr' := (congrArg (PerLine.get · k.line) w.egress).trans egr
  refine ⟨(congrArg (PerBranch.get · k) w.branchAdm).trans shut, by rw [seq']; rfl, by rw [seq']; rfl,
    by rw [seq']; rfl, fun c => ⟨?_, ?_⟩, ?_, ?_⟩
  · refine (congrArg (fun e : Egress => e.queues.get c) egr').trans ?_
    cases c <;> rfl
  · refine (congrArg (fun e : Egress => e.release.get c) egr').trans ?_
    cases c <;> rfl
  · unfold Device.slotsAt Device.slotLine? Device.circuit? at slots ⊢
    rw [w.slots, w.tables]
    exact slots
  · rw [w.contexts]
    exact contexts

/-- Settles O34: a failed attempt that is not retried, and the shutting that follows it. -/
theorem shuttingBranchShutsAtTheTransactionsEnd :
    Obligations.ShuttingBranchShutsAtTheTransactionsEnd := by
  intro k r due op tag tx s runs shutting flies waits received held slot sends room
  have event := exec_replyTimeout runs flies waits
  rw [failAttempt_shutting (d := { s.dev with now := due }) shutting received] at event
  have before := (now_writes s.dev due).mono (fs := [.now, .slots, .pool, .seqs, .cores])
    |>.andThen (ended_writes { s.dev with now := due } k { r with replyWait := none })
  generalize ({ s.dev with now := due } : Device).ended k { r with replyWait := none } = x
    at before event
  have whole := before.mono (fs := .now :: shutFields) |>.andThen (shutBranch_writes x k)
  have shut := shutBranch_admission k x
  have seq := shutBranch_seq k x
  have egr := shutBranch_egr k x
  have slots := shutBranch_slotsAt k x
  have contexts := shutBranch_contexts k x
  have pending (st : Nat) (h1 : 1 ≤ st) (h2 : st ≤ 30)
      (configured : (s.dev.stationConfig k st).configured = true) :
      ((shutBranch k x).station k st).resyncPending = true := by
    refine shutBranch_pending k x h1 h2 ?_
    unfold Device.stationConfig at configured ⊢
    rw [before.tables]
    exact configured
  unfold becomeShut at event
  generalize shutBranch k x = y at *
  have told := raiseEvent_writes y .lineShut (some k.line) none 0
  have events := raiseEvent_events (d := y) .lineShut (some k.line) none 0
    (by rw [whole.endpoint]; exact room)
  have inProgress : (raiseEvent .lineShut (some k.line) none 0 y).endpoint.inProgress =
      some (.setLine k op tag) := by
    refine (joinEvent_inProgress ..).trans ?_
    rw [whole.endpoint]
    exact held
  have empty : (raiseEvent .lineShut (some k.line) none 0 y).endpoint.slot = none := by
    rw [raiseEvent_slot, whole.endpoint]
    exact slot
  have response := responseRecord_of_writes
    (whole.mono (fs := .endpoint :: .now :: shutFields) |>.andThen told) op tag { status := .ok }
  generalize raiseEvent .lineShut (some k.line) none 0 y = z at *
  rw [whole.endpoint, whole.timer] at events
  have sends' : z.trunkTx = some tx := told.trunkTx.trans (whole.trunkTx.trans sends)
  have ends : settle (readyResponse k z) = { z with endpoint := { z.endpoint with
      slot := some { bytes := responseRecord s.dev op tag { status := .ok }, isRestart := false },
      inProgress := none } } := by
    rw [readyResponse_own inProgress, ← response]
    exact settle_ready_sending (d := { z with endpoint := { z.endpoint with
      inProgress := some (.ready (responseRecord z op tag { status := .ok })) } }) empty rfl sends'
  rw [ends] at event
  have last := told.mono (fs := [.endpoint]) |>.andThen (endpoint_writes z { z.endpoint with
      slot := some { bytes := responseRecord s.dev op tag { status := .ok }, isRestart := false },
      inProgress := none } id id)
  obtain ⟨adm, flying, state, list, egress, slotsAt, gone⟩ := shut_kept last shut seq egr slots contexts
  refine ⟨_, event, adm, flying, state, list, egress, slotsAt, gone, fun st h1 h2 configured => ?_,
    events, ?_, rfl, rfl⟩
  · unfold Device.station at pending ⊢
    rw [last.stations]
    exact pending st h1 h2 configured
  · exact told.trunkTx.trans whole.trunkTx

end Sys2Proof.Machine

/-! What a READ finds after an application: every listed entry as its content, or removed, and every
other entry as it was. -/

namespace Sys2Proof.Machine

open Device (Writes)

/- ### One entry in force leaves what it is not for (R166) -/

section WithEntry

variable (t : Tables) (e : Staged) (i : Nat)

set_option Elab.async false in
theorem circuit_withEntry (other : ¬ (e.unit = 1 ∧ e.index = i)) :
    (t.withEntry e).circuits.find? i = t.circuits.find? i := by
  unfold Tables.withEntry
  split
  case h_1 _ unit => exact Table.find?_erase_of_ne _ fun h => other ⟨unit, h.symm⟩
  case h_4 _ _ unit => exact Table.find?_insert_of_ne _ _ fun h => other ⟨unit, h.symm⟩
  all_goals rfl

theorem meter_withEntry (other : ¬ (e.unit = 2 ∧ e.index = i)) :
    (t.withEntry e).meters.get MeterSettings.powerOn i = t.meters.get MeterSettings.powerOn i := by
  unfold Tables.withEntry
  split
  case h_5 _ _ unit => exact Table.get_put_of_ne _ _ _ fun h => other ⟨unit, h.symm⟩
  all_goals rfl

theorem sched_withEntry (other : ¬ (e.unit = 3 ∧ e.index = i)) :
    (t.withEntry e).schedule.find? i = t.schedule.find? i := by
  unfold Tables.withEntry
  split
  case h_2 _ unit => exact Table.find?_erase_of_ne _ fun h => other ⟨unit, h.symm⟩
  case h_6 _ _ unit => exact Table.find?_insert_of_ne _ _ fun h => other ⟨unit, h.symm⟩
  all_goals rfl

theorem stationConfig_withEntry (other : ¬ (e.unit = 4 ∧ e.index = i)) :
    (t.withEntry e).stations.get StationConfig.powerOn i =
      t.stations.get StationConfig.powerOn i := by
  unfold Tables.withEntry
  split
  case h_7 _ _ unit => exact Table.get_put_of_ne _ _ _ fun h => other ⟨unit, h.symm⟩
  all_goals rfl

theorem lines_withEntry (l : Line) (other : ¬ (e.unit = 5 ∧ Line.ofIndex e.index = l)) :
    (t.withEntry e).lines.get l = t.lines.get l := by
  unfold Tables.withEntry
  split
  case h_8 _ _ unit => exact PerLine.get_set_of_ne _ _ fun h => other ⟨unit, h.symm⟩
  all_goals rfl

theorem priority_withEntry (other : ¬ (e.unit = 6 ∧ e.index = i)) :
    (t.withEntry e).priorities.getD i .c0 = t.priorities.getD i .c0 := by
  unfold Tables.withEntry
  split
  case h_9 _ _ unit =>
    rw [List.getD_eq_getElem?_getD, List.getD_eq_getElem?_getD]
    exact congrArg (Option.getD · _) (List.getElem?_set_ne fun h => other ⟨unit, h⟩)
  all_goals rfl

theorem weight_withEntry (other : ¬ (e.unit = 7 ∧ e.index = i)) :
    (t.withEntry e).thinning.getD i 0 = t.thinning.getD i 0 := by
  unfold Tables.withEntry
  split
  case h_10 _ _ unit =>
    rw [List.getD_eq_getElem?_getD, List.getD_eq_getElem?_getD]
    exact congrArg (Option.getD · _) (List.getElem?_set_ne fun h => other ⟨unit, h⟩)
  all_goals rfl

theorem device_withEntry (other : e.unit ≠ 8) : (t.withEntry e).device = t.device := by
  unfold Tables.withEntry
  split
  case h_11 _ _ unit => exact absurd unit other
  all_goals rfl

end WithEntry

/- ### What a READ of the tables finds (R21, R173) -/

/-- A part with some tables in force. -/
def Device.under (d : Device) (t : Tables) : Device := { d with tables := t }

/-- A READ of a loadable unit goes by the tables alone (R173). -/
theorem readEntry_of_tables {d d' : Device} {unit : Nat} (same : d'.tables = d.tables)
    (loads : isLoadable unit = true) (i : Nat) : d'.readEntry unit i = d.readEntry unit i := by
  have range : 1 ≤ unit ∧ unit ≤ 8 := by
    unfold isLoadable at loads
    simpa using loads
  obtain ⟨low, high⟩ := range
  unfold Device.readEntry Device.circuit? Device.meterSettings Device.settings
  rw [same]
  interval_cases unit <;> rfl

/-- An entry in force leaves what a READ of another entry finds. -/
theorem readEntry_withEntry_other {d : Device} {t : Tables} {e : Staged} {unit i indices size : Nat}
    (valid : e.inRange) (loads : isLoadable unit = true)
    (shape : unitShape unit = some (indices, size)) (below : i < indices)
    (other : ¬ (e.unit = unit ∧ e.index = i)) :
    (d.under (t.withEntry e)).readEntry unit i = (d.under t).readEntry unit i := by
  have range : 1 ≤ unit ∧ unit ≤ 8 := by
    unfold isLoadable at loads
    simpa using loads
  obtain ⟨low, high⟩ := range
  obtain ⟨indices', size', -, shape', below', -⟩ := valid
  interval_cases unit
  · exact congrArg encodeCircuit (circuit_withEntry t e i other)
  · exact congrArg encodeMeter (meter_withEntry t e i other)
  · exact congrArg encodeSched (sched_withEntry t e i other)
  · exact congrArg encodeStationConfig (stationConfig_withEntry t e i other)
  · cases shape
    refine congrArg encodeLineSettings (lines_withEntry t e _ fun h => other ⟨h.1, ?_⟩)
    rw [h.1] at shape'
    cases shape'
    have there := (ofIndex_eq_iff below' _).1 h.2.symm
    have here := (ofIndex_eq_iff below _).1 rfl
    exact there.symm.trans here
  · exact congrArg (fun c : Class => [byteOf c.toNat]) (priority_withEntry t e i other)
  · exact congrArg be2 (weight_withEntry t e i other)
  · cases shape
    refine congrArg encodeDeviceSettings (device_withEntry t e fun h => other ⟨h, ?_⟩)
    rw [h] at shape'
    cases shape'
    omega

/-- A list in force leaves what a READ of an entry that it does not hold finds. -/
theorem readEntry_withList_other {d : Device} {unit i indices size : Nat}
    (loads : isLoadable unit = true) (shape : unitShape unit = some (indices, size))
    (below : i < indices) {list : List Staged} (valid : ∀ e ∈ list, e.inRange)
    (other : ∀ e ∈ list, ¬ (e.unit = unit ∧ e.index = i)) (t : Tables) :
    (d.under (t.withList list)).readEntry unit i = (d.under t).readEntry unit i :=
  List.foldlRecOn (motive := fun x => (d.under x).readEntry unit i = (d.under t).readEntry unit i)
    list _ rfl fun _ kept e mem =>
      (readEntry_withEntry_other (valid e mem) loads shape below (other e mem)).trans kept

/-- What a staged entry reads back as. -/
def Staged.readsBack (e : Staged) (size : Nat) : List Byte :=
  match e.action with
  | .content bytes => bytes
  | .remove => 0x00 :: List.replicate (size - 1) 0xFF

/-- An entry in force reads back as it was staged (R21, R166, R173). -/
theorem readEntry_withEntry_self {d : Device} {t : Tables} {e : Staged} {indices size : Nat}
    (sized : t.sized) (valid : e.inRange) (shape : unitShape e.unit = some (indices, size)) :
    (d.under (t.withEntry e)).readEntry e.unit e.index = e.readsBack size := by
  obtain ⟨indices', size', loads, shape', below, action⟩ := valid
  obtain ⟨rfl, rfl⟩ : indices' = indices ∧ size' = size := by
    rw [shape] at shape'
    cases shape'
    exact ⟨rfl, rfl⟩
  obtain ⟨unit, index, act⟩ := e
  cases act with
  | content bytes =>
    obtain ⟨length, ok, content⟩ := action
    have read := entryInForceReadsBackAsStaged (d.under t) unit indices' size' index bytes sized
      loads shape below length ok
    have kept : ¬ ((unit = 1 ∨ unit = 3) ∧ rd1 bytes 0 = 0) := fun removed => by
      have := (if_pos removed : actionOf unit bytes = .remove).symm.trans content
      cases this
    dsimp only at read content
    rw [if_neg kept, content] at read
    exact read
  | remove =>
    rcases action with rfl | rfl
    · cases shape
      exact congrArg encodeCircuit (Table.find?_erase_self t.circuits index)
    · cases shape
      exact congrArg encodeSched (Table.find?_erase_self t.schedule index)

set_option Elab.async false in
/-- A list in force reads back entry by entry, when it holds none twice. -/
theorem readEntry_withList_self {d : Device} {t : Tables} {list : List Staged} {e : Staged}
    {indices size : Nat} (sized : t.sized) (valid : ∀ e ∈ list, e.inRange)
    (apart : (list.map Staged.place).Nodup) (mem : e ∈ list)
    (shape : unitShape e.unit = some (indices, size)) :
    (d.under (t.withList list)).readEntry e.unit e.index = e.readsBack size := by
  obtain ⟨before, after, rfl⟩ := List.append_of_mem mem
  have inForce : t.withList (before ++ e :: after) =
      ((t.withList before).withEntry e).withList after := List.foldl_append ..
  obtain ⟨indices', size', loads, shape', below, -⟩ := valid e mem
  have later : ∀ x ∈ after, ¬ (x.unit = e.unit ∧ x.index = e.index) := by
    rw [List.map_append, List.map_cons] at apart
    have once := (List.nodup_cons.1 (List.Nodup.of_append_right apart)).1
    intro x there same
    exact once (List.mem_map.2 ⟨x, there, Prod.ext same.1 same.2⟩)
  have sizedBefore : (t.withList before).sized :=
    List.foldlRecOn (motive := Tables.sized) before _ sized fun _ h e _ => withEntry_sized e h
  rw [inForce, readEntry_withList_other loads shape' below
    (fun x there => valid x (List.mem_append_right _ (List.mem_cons_of_mem _ there))) later]
  exact readEntry_withEntry_self sizedBefore (valid e mem) shape

end Sys2Proof.Machine

/-! The slots that an application empties, and what it counts RECONFIGURED. -/

namespace Sys2Proof.Machine

open Device (Writes)

/- ### The cells that stay when a key is erased -/

set_option Elab.async false in
theorem countP_erase {α : Type} {t : Table α} {i : Nat} {v : α} (sorted : t.sorted)
    (found : t.find? i = some v) (p : Nat × α → Bool) :
    t.cells.countP p = (t.erase i).cells.countP p + if p (i, v) then 1 else 0 := by
  obtain ⟨before, after, cells⟩ := List.append_of_mem (Table.mem_of_lookup found)
  have keys : (t.cells.map Prod.fst).Nodup := List.Pairwise.imp Nat.ne_of_lt sorted
  rw [cells, List.map_append, List.map_cons] at keys
  have kept : (t.erase i).cells = before ++ after := by
    unfold Table.erase
    rw [cells, List.filter_append, List.filter_cons_of_neg (by simp)]
    have first : ∀ c ∈ before, (c.1 != i) = true := fun c mem => bne_iff_ne.2 fun same =>
      List.disjoint_of_nodup_append keys (List.mem_map_of_mem mem) (same ▸ List.mem_cons_self)
    have later : ∀ c ∈ after, (c.1 != i) = true := fun c mem => bne_iff_ne.2 fun same =>
      (List.nodup_cons.1 (List.Nodup.of_append_right keys)).1 (List.mem_map.2 ⟨c, mem, same⟩)
    rw [List.filter_eq_self.2 first, List.filter_eq_self.2 later]
  rw [kept, cells, List.countP_append, List.countP_append, List.countP_cons]
  omega

/- ### One entry (R102) -/

section Slot

variable {old : Table Circuit} {d : Device} {e : Staged}

theorem applyToSlot_drops {c : Circuit} {ref : Nat} (unit : e.unit = 1)
    (changed : reconfigures (old.find? e.index) (d.circuit? e.index) = true)
    (was : old.find? e.index = some c) (held : d.slots.find? e.index = some ref) :
    applyToSlot old d e = { d.dropFrame c.slotLine ref .reconfigured with
      slots := d.slots.erase e.index } := by
  unfold applyToSlot
  rw [if_pos ⟨unit, changed⟩]
  simp only [was, held]
  exact dropSlot_eq ..

theorem applyToSlot_calm (calm : ¬ (e.unit = 1 ∧
    reconfigures (old.find? e.index) (d.circuit? e.index) = true ∧ d.slots.find? e.index ≠ none)) :
    applyToSlot old d e = d := by
  unfold applyToSlot
  split
  next changed =>
    split
    next held => exact absurd ⟨changed.1, changed.2, by rw [held]; exact Option.some_ne_none _⟩ calm
    · rfl
  · rfl

/-- The slots whose circuits are reconfigured. -/
def Device.reconfiguredSlot (d : Device) (old : Table Circuit) (l : Line) (c : Nat × Nat) : Bool :=
  reconfigures (old.find? c.1) (d.circuit? c.1) && (old.find? c.1).map Circuit.slotLine == some l

/-- A slot emptied is one slot less to empty, and counted once: the count that a line comes to when
the slots left are counted stays. -/
theorem applyToSlot_counts (sorted : d.slots.sorted) (l : Line) :
    (raiseCount · 1)^[(applyToSlot old d e).slots.cells.countP (d.reconfiguredSlot old l)]
        ((applyToSlot old d e).lineCount l .reconfigured) =
      (raiseCount · 1)^[d.slots.cells.countP (d.reconfiguredSlot old l)]
        (d.lineCount l .reconfigured) := by
  by_cases calm : e.unit = 1 ∧ reconfigures (old.find? e.index) (d.circuit? e.index) = true ∧
      d.slots.find? e.index ≠ none
  · obtain ⟨unit, changed, full⟩ := calm
    obtain ⟨ref, held⟩ := Option.ne_none_iff_exists'.1 full
    rcases was : old.find? e.index with _ | c
    · rw [was] at changed
      cases changed
    have one := countP_erase sorted held (d.reconfiguredSlot old l)
    have mine : d.reconfiguredSlot old l (e.index, ref) = decide (c.slotLine = l) := by
      unfold Device.reconfiguredSlot
      rw [changed, was]
      rw [Bool.true_and, Option.map_some, Bool.eq_iff_iff, beq_iff_eq, Option.some_inj,
        decide_eq_true_iff]
    have count := lineCount_dropFrame d c.slotLine l ref .reconfigured .reconfigured
    rw [applyToSlot_drops unit changed was held, one, mine]
    generalize d.slots.cells.countP (d.reconfiguredSlot old l) = n at *
    have count' : ({ d.dropFrame c.slotLine ref .reconfigured with slots := d.slots.erase e.index } :
        Device).lineCount l .reconfigured = _ := count
    rw [count']
    by_cases here : l = c.slotLine
    · subst here
      rw [if_pos ⟨rfl, rfl⟩, if_pos (decide_eq_true rfl), Function.iterate_succ_apply]
      rfl
    · rw [if_neg fun h => here h.1, if_neg fun h => here (of_decide_eq_true h).symm]
      rfl
  · rw [applyToSlot_calm calm]

theorem applyToSlot_find? (cid : Nat) : (applyToSlot old d e).slots.find? cid =
    if e.unit = 1 ∧ e.index = cid ∧ reconfigures (old.find? cid) (d.circuit? cid) = true then none
    else d.slots.find? cid := by
  by_cases calm : e.unit = 1 ∧ reconfigures (old.find? e.index) (d.circuit? e.index) = true ∧
      d.slots.find? e.index ≠ none
  · obtain ⟨unit, changed, full⟩ := calm
    obtain ⟨ref, held⟩ := Option.ne_none_iff_exists'.1 full
    rcases was : old.find? e.index with _ | c
    · rw [was] at changed
      cases changed
    rw [applyToSlot_drops unit changed was held]
    refine (find?_erase ..).trans ?_
    by_cases here : cid = e.index
    · subst here
      rw [if_pos rfl, if_pos ⟨unit, rfl, changed⟩]
    · rw [if_neg here, if_neg fun h => here h.2.1.symm]
  · rw [applyToSlot_calm calm]
    split
    next changed =>
      obtain ⟨unit, rfl, changed⟩ := changed
      by_contra full
      exact calm ⟨unit, changed, full⟩
    · rfl

end Slot

/- ### The whole list -/

section Slots

variable (old : Table Circuit) (list : List Staged) (d : Device)

theorem applyToSlots_writes : Writes [.lines, .circuitCounters, .pool, .slots] d
    (list.foldl (applyToSlot old) d) :=
  .foldl (fun x e => applyToSlot_writes x e old) list d

theorem applyToSlots_find? (cid : Nat) : (list.foldl (applyToSlot old) d).slots.find? cid =
    if (∃ e ∈ list, e.unit = 1 ∧ e.index = cid) ∧
      reconfigures (old.find? cid) (d.circuit? cid) = true then none else d.slots.find? cid := by
  induction list generalizing d with
  | nil => simp
  | cons e list ih =>
    have circuit : (applyToSlot old d e).circuit? cid = d.circuit? cid :=
      congrArg (fun t : Tables => t.circuits.find? cid) (applyToSlot_writes d e old).tables
    rw [List.foldl_cons, ih, circuit, applyToSlot_find?]
    by_cases changed : reconfigures (old.find? cid) (d.circuit? cid) = true
    · simp only [changed, and_true, List.exists_mem_cons_iff]
      by_cases first : e.unit = 1 ∧ e.index = cid
      · simp [first]
      · simp [first]
    · simp [changed]

/-- What an application counts RECONFIGURED, when it empties every slot that is to be emptied. -/
theorem applyToSlots_counts (sorted : d.slots.sorted) (l : Line)
    (emptied : ∀ c ∈ (list.foldl (applyToSlot old) d).slots.cells,
      reconfigures (old.find? c.1) (d.circuit? c.1) = false) :
    (list.foldl (applyToSlot old) d).lineCount l .reconfigured =
      (d.slots.cells.filter (d.reconfiguredSlot old l)).foldl (fun n _ => raiseCount n 1)
        (d.lineCount l .reconfigured) := by
  have balance : ∀ (list : List Staged) (x : Device), x.slots.sorted → x.tables = d.tables →
      (raiseCount · 1)^[(list.foldl (applyToSlot old) x).slots.cells.countP (d.reconfiguredSlot old l)]
        ((list.foldl (applyToSlot old) x).lineCount l .reconfigured) =
      (raiseCount · 1)^[x.slots.cells.countP (d.reconfiguredSlot old l)]
        (x.lineCount l .reconfigured) := by
    intro list
    induction list with
    | nil => exact fun _ _ _ => rfl
    | cons e list ih =>
      intro x sorted tables
      have w := applyToSlot_writes x e old
      have one := applyToSlot_counts (old := old) (e := e) sorted l
      have same : x.reconfiguredSlot old l = d.reconfiguredSlot old l := by
        unfold Device.reconfiguredSlot Device.circuit?
        rw [tables]
      rw [same] at one
      exact (ih _ (w.kept.slots sorted) (w.tables.trans tables)).trans one
  have whole := balance list d sorted rfl
  have left : (list.foldl (applyToSlot old) d).slots.cells.countP (d.reconfiguredSlot old l) = 0 := by
    refine List.countP_eq_zero.2 fun c mem => ?_
    unfold Device.reconfiguredSlot
    rw [emptied c mem]
    exact Bool.false_ne_true
  rw [left] at whole
  refine whole.trans ?_
  rw [List.countP_eq_length_filter]
  exact (List.foldl_const ..).symm

end Slots

end Sys2Proof.Machine

/-! The stations and contexts that an application configures and unconfigures. -/

namespace Sys2Proof.Machine

open Device (Writes)

variable {old : Table StationConfig} {d : Device} {e : Staged}

/- ### The station of an entry (R125) -/

set_option Elab.async false in
theorem stationIndex_stationOfIndex {i : Nat} (below : i < 120) :
    stationIndex (stationOfIndex i).1 (stationOfIndex i).2 = i := by
  have branch : (Branch.ofIndex (i / 30)).toNat = i / 30 := by
    have few : i / 30 < 4 := by omega
    interval_cases i / 30 <;> rfl
  unfold stationIndex stationOfIndex
  dsimp only
  rw [branch]
  omega

theorem stationOfIndex_range (i : Nat) : 1 ≤ (stationOfIndex i).2 ∧ (stationOfIndex i).2 ≤ 30 := by
  unfold stationOfIndex
  dsimp only
  omega

theorem stationOfIndex_eq_iff {i : Nat} (below : i < 120) {k : Branch} {st : Nat}
    (range : 1 ≤ st ∧ st ≤ 30) : stationOfIndex i = (k, st) ↔ i = stationIndex k st := by
  have index := stationIndex_stationOfIndex below
  refine ⟨fun same => ?_, fun same => ?_⟩
  · rw [same] at index
    exact index.symm
  · have both := stationIndex_inj (stationOfIndex_range i) range (index.trans same)
    exact Prod.ext both.1 both.2

/-- An entry of the Station Configuration is one of 120 (R155). -/
theorem stationEntry_below (valid : e.inRange) (unit : e.unit = 4) : e.index < 120 := by
  obtain ⟨indices, size, -, shape, below, -⟩ := valid
  rw [unit] at shape
  cases shape
  exact below

/- ### One entry (R131, R141) -/

/-- What an entry of the Station Configuration turns its station to, if it turns it. -/
def Staged.turns (e : Staged) (old new : Table StationConfig) (on : Bool) : Prop :=
  e.unit = 4 ∧ (old.get StationConfig.powerOn e.index).configured = !on ∧
    (new.get StationConfig.powerOn e.index).configured = on

theorem applyToStation_on (valid : e.inRange) (turns : e.turns old d.tables.stations true)
    {k : Branch} {st : Nat} (place : stationOfIndex e.index = (k, st)) :
    applyToStation old d e =
      rewindDelivery k st (d.setStation k st ((d.station k st).reconfigured true)) := by
  obtain ⟨unit, was, becomes⟩ := turns
  have index := stationIndex_stationOfIndex (stationEntry_below valid unit)
  unfold applyToStation
  rw [if_pos unit]
  rw [place] at index ⊢
  unfold Device.stationConfig
  dsimp only at index ⊢
  rw [index]
  simp only [was, becomes]
  rfl

theorem applyToStation_off (valid : e.inRange) (turns : e.turns old d.tables.stations false)
    {k : Branch} {st : Nat} (place : stationOfIndex e.index = (k, st)) :
    applyToStation old d e =
      unconfigureContext k st (d.setStation k st ((d.station k st).reconfigured false)) := by
  obtain ⟨unit, was, becomes⟩ := turns
  have index := stationIndex_stationOfIndex (stationEntry_below valid unit)
  unfold applyToStation
  rw [if_pos unit]
  rw [place] at index ⊢
  unfold Device.stationConfig
  dsimp only at index ⊢
  rw [index]
  simp only [was, becomes]
  rfl

theorem applyToStation_calm (valid : e.inRange) (steady : ∀ on, ¬ e.turns old d.tables.stations on) :
    applyToStation old d e = d := by
  unfold applyToStation
  split
  next unit =>
    have index := stationIndex_stationOfIndex (stationEntry_below valid unit)
    unfold Device.stationConfig
    dsimp only
    rw [index]
    have on := steady true
    have off := steady false
    unfold Staged.turns at on off
    generalize (old.get StationConfig.powerOn e.index).configured = was at *
    generalize (d.tables.stations.get StationConfig.powerOn e.index).configured = becomes at *
    cases was <;> cases becomes
    · rfl
    · exact absurd ⟨unit, rfl, rfl⟩ on
    · exact absurd ⟨unit, rfl, rfl⟩ off
    · rfl
  · rfl

/-- The three things that an entry can do to the stations. -/
theorem applyToStation_cases (valid : e.inRange) {P : Device → Prop}
    (on : ∀ k st, stationOfIndex e.index = (k, st) → e.turns old d.tables.stations true →
      P (rewindDelivery k st (d.setStation k st ((d.station k st).reconfigured true))))
    (off : ∀ k st, stationOfIndex e.index = (k, st) → e.turns old d.tables.stations false →
      P (unconfigureContext k st (d.setStation k st ((d.station k st).reconfigured false))))
    (calm : (∀ b, ¬ e.turns old d.tables.stations b) → P d) : P (applyToStation old d e) := by
  by_cases turnsOn : e.turns old d.tables.stations true
  · rw [applyToStation_on valid turnsOn rfl]
    exact on _ _ rfl turnsOn
  by_cases turnsOff : e.turns old d.tables.stations false
  · rw [applyToStation_off valid turnsOff rfl]
    exact off _ _ rfl turnsOff
  have steady : ∀ b, ¬ e.turns old d.tables.stations b := fun b => by
    cases b
    · exact turnsOff
    · exact turnsOn
  rw [applyToStation_calm valid steady]
  exact calm steady

/- ### The stations (R141) -/

/-- An entry turns its station, whose record starts anew, and leaves the others. -/
theorem applyToStation_station (valid : e.inRange) {k : Branch} {st : Nat}
    (range : 1 ≤ st ∧ st ≤ 30) :
    (∀ on, e.turns old d.tables.stations on → stationOfIndex e.index = (k, st) →
      (applyToStation old d e).station k st = (d.station k st).reconfigured on) ∧
    ((∀ on, ¬ (e.turns old d.tables.stations on ∧ stationOfIndex e.index = (k, st))) →
      (applyToStation old d e).station k st = d.station k st) := by
  have other {j : Branch} {s : Nat} (x : Station) (place : stationOfIndex e.index = (j, s))
      (apart : stationOfIndex e.index ≠ (k, st)) : (d.setStation j s x).station k st =
        d.station k st := by
    have range' : 1 ≤ s ∧ s ≤ 30 := by
      have both := stationOfIndex_range e.index
      rw [place] at both
      exact both
    rw [station_setStation, if_neg fun same => ?_]
    have both := stationIndex_inj range range' same
    exact apart (place.trans (Prod.ext both.1.symm both.2.symm))
  have rewound (j : Branch) (s : Nat) (x : Device) :
      (rewindDelivery j s x).station k st = x.station k st :=
    congrArg (fun t : Table Station => t.get Station.powerOn (stationIndex k st))
      (rewindDelivery_writes x j s).stations
  have ended (j : Branch) (s : Nat) (x : Device) :
      (unconfigureContext j s x).station k st = x.station k st :=
    congrArg (fun t : Table Station => t.get Station.powerOn (stationIndex k st))
      (unconfigureContext_writes x j s).stations
  refine applyToStation_cases valid (P := fun y =>
    (∀ on, e.turns old d.tables.stations on → stationOfIndex e.index = (k, st) →
      y.station k st = (d.station k st).reconfigured on) ∧
    ((∀ on, ¬ (e.turns old d.tables.stations on ∧ stationOfIndex e.index = (k, st))) →
      y.station k st = d.station k st)) ?_ ?_ ?_
  · intro j s place turns
    rw [rewound]
    refine ⟨fun on turned here => ?_, fun steady => ?_⟩
    · obtain ⟨rfl, rfl⟩ : j = k ∧ s = st := Prod.mk.inj (place.symm.trans here)
      have same : on = true := turned.2.2.symm.trans turns.2.2
      rw [same, station_setStation_self]
    · exact other _ place fun here => steady true ⟨turns, here⟩
  · intro j s place turns
    rw [ended]
    refine ⟨fun on turned here => ?_, fun steady => ?_⟩
    · obtain ⟨rfl, rfl⟩ : j = k ∧ s = st := Prod.mk.inj (place.symm.trans here)
      have same : on = false := turned.2.2.symm.trans turns.2.2
      rw [same, station_setStation_self]
    · exact other _ place fun here => steady false ⟨turns, here⟩
  · exact fun steady => ⟨fun on turned => absurd turned (steady on), fun _ => rfl⟩

/- ### The contexts (R141, R153) -/

theorem find?_filter_others (k j : Branch) (st s : Nat) (apart : (j, s) ≠ (k, st))
    (cs : List Context) :
    (cs.filter fun x => decide (¬ (x.branch = j ∧ x.station = s))).find?
      (fun x => x.branch == k && x.station == st) =
    cs.find? fun x => x.branch == k && x.station == st := by
  rw [List.find?_filter]
  refine congrArg (List.find? · cs) (funext fun x => ?_)
  rw [Bool.eq_iff_iff]
  simp only [Bool.and_eq_true, decide_eq_true_eq, beq_iff_eq]
  refine ⟨And.right, fun here => ⟨fun there => apart ?_, here⟩⟩
  rw [← there.1, ← there.2, here.1, here.2]

theorem unconfigureContext_context? (k : Branch) (st : Nat) (d : Device) :
    (unconfigureContext k st d).context? k st = none ∧
      ∀ j s, (j, s) ≠ (k, st) → (unconfigureContext k st d).context? j s = d.context? j s := by
  unfold unconfigureContext
  rcases found : d.context? k st with _ | c
  · exact ⟨found, fun _ _ _ => rfl⟩
  · obtain ⟨-, mine⟩ := mem_of_context? found
    dsimp only
    rw [abandonContext_own mine]
    refine ⟨List.find?_eq_none.2 fun x mem => ?_, fun j s apart => ?_⟩
    · have other := of_decide_eq_true (List.mem_filter.1 mem).2
      rw [Bool.and_eq_true, beq_iff_eq, beq_iff_eq]
      exact other
    · exact find?_filter_others j k s st apart.symm d.contexts

/-- An entry that unconfigures a station ends its context, and leaves the others. -/
theorem applyToStation_context? (valid : e.inRange) (k : Branch) (st : Nat) :
    (e.turns old d.tables.stations false → stationOfIndex e.index = (k, st) →
      (applyToStation old d e).context? k st = none) ∧
    (¬ (e.turns old d.tables.stations false ∧ stationOfIndex e.index = (k, st)) →
      (applyToStation old d e).context? k st = d.context? k st) := by
  refine applyToStation_cases valid (P := fun y =>
    (e.turns old d.tables.stations false → stationOfIndex e.index = (k, st) →
      y.context? k st = none) ∧
    (¬ (e.turns old d.tables.stations false ∧ stationOfIndex e.index = (k, st)) →
      y.context? k st = d.context? k st)) ?_ ?_ ?_
  · intro j s place turns
    have kept : (rewindDelivery j s (d.setStation j s ((d.station j s).reconfigured true))).context? k st
        = d.context? k st := by
      unfold Device.context?
      rw [(rewindDelivery_writes ..).contexts]
      rfl
    refine ⟨fun turned => ?_, fun _ => kept⟩
    have both := turns.2.2.symm.trans turned.2.2
    cases both
  · intro j s place turns
    have ends := unconfigureContext_context? j s (d.setStation j s ((d.station j s).reconfigured false))
    refine ⟨fun _ here => ?_, fun steady => ?_⟩
    · obtain ⟨rfl, rfl⟩ : j = k ∧ s = st := Prod.mk.inj (place.symm.trans here)
      exact ends.1
    · exact ends.2 k st fun same => steady ⟨turns, place.trans same.symm⟩
  · exact fun steady => ⟨fun turned => absurd turned (steady false), fun _ => rfl⟩

/- ### The whole list -/

set_option Elab.async false in
/-- Entries for one station are for one index. -/
theorem same_place {e' : Staged} (valid : e.inRange) (valid' : e'.inRange) (unit : e.unit = 4)
    (unit' : e'.unit = 4) (place : stationOfIndex e.index = stationOfIndex e'.index) :
    e.place = e'.place := by
  have index := stationIndex_stationOfIndex (stationEntry_below valid unit)
  rw [place, stationIndex_stationOfIndex (stationEntry_below valid' unit')] at index
  exact Prod.ext (unit.trans unit'.symm) index.symm

section Stations

variable (old) (list : List Staged) (d)

theorem applyToStations_writes : Writes [.stations, .egress, .seqs, .contexts, .pool, .lines] d
    (list.foldl (applyToStation old) d) :=
  .foldl (fun x e => applyToStation_writes x e old) list d

variable {list} (valid : ∀ e ∈ list, e.inRange) {k : Branch} {st : Nat} (range : 1 ≤ st ∧ st ≤ 30)

include valid range

theorem applyToStations_steady
    (steady : ∀ e ∈ list, ∀ on, ¬ (e.turns old d.tables.stations on ∧ stationOfIndex e.index = (k, st))) :
    (list.foldl (applyToStation old) d).station k st = d.station k st ∧
      (list.foldl (applyToStation old) d).context? k st = d.context? k st := by
  have kept := List.foldlRecOn (motive := fun x : Device => x.tables = d.tables ∧
    x.station k st = d.station k st ∧ x.context? k st = d.context? k st) list (applyToStation old)
    ⟨rfl, rfl, rfl⟩ fun x h e mem => by
      obtain ⟨tables, station, context⟩ := h
      have calm : ∀ on, ¬ (e.turns old x.tables.stations on ∧ stationOfIndex e.index = (k, st)) := by
        rw [tables]
        exact steady e mem
      exact ⟨(applyToStation_writes x e old).tables.trans tables,
        ((applyToStation_station (valid e mem) range).2 calm).trans station,
        ((applyToStation_context? (valid e mem) k st).2 (calm false)).trans context⟩
  exact kept.2

theorem applyToStations_turned {on : Bool} (apart : (list.map Staged.place).Nodup) (mem : e ∈ list)
    (turns : e.turns old d.tables.stations on) (place : stationOfIndex e.index = (k, st)) :
    (list.foldl (applyToStation old) d).station k st = (d.station k st).reconfigured on ∧
      (list.foldl (applyToStation old) d).context? k st = if on then d.context? k st else none := by
  obtain ⟨before, after, rfl⟩ := List.append_of_mem mem
  rw [List.map_append, List.map_cons] at apart
  have first : ∀ x ∈ before, ∀ b,
      ¬ (x.turns old d.tables.stations b ∧ stationOfIndex x.index = (k, st)) := fun x there b h =>
    List.disjoint_of_nodup_append apart (List.mem_map_of_mem there)
      (same_place (valid x (List.mem_append_left _ there)) (valid e mem) h.1.1 turns.1
        (h.2.trans place.symm) ▸ List.mem_cons_self)
  have later : ∀ x ∈ after, ∀ b,
      ¬ (x.turns old d.tables.stations b ∧ stationOfIndex x.index = (k, st)) := fun x there b h =>
    (List.nodup_cons.1 (List.Nodup.of_append_right apart)).1 (List.mem_map.2 ⟨x, there,
      same_place (valid x (List.mem_append_right _ (List.mem_cons_of_mem _ there))) (valid e mem)
        h.1.1 turns.1 (h.2.trans place.symm)⟩)
  have validBefore : ∀ x ∈ before, x.inRange := fun x there => valid x (List.mem_append_left _ there)
  have validAfter : ∀ x ∈ after, x.inRange := fun x there =>
    valid x (List.mem_append_right _ (List.mem_cons_of_mem _ there))
  rw [List.foldl_append, List.foldl_cons]
  have start := applyToStations_steady old d validBefore range first
  have tables := (applyToStations_writes old d before).tables
  generalize before.foldl (applyToStation old) d = x at *
  rw [← tables] at turns later
  have turned := (applyToStation_station (valid e mem) range).1 on turns place
  have context := applyToStation_context? (old := old) (d := x) (valid e mem) k st
  rw [← (applyToStation_writes x e old).tables] at later
  have ends := applyToStations_steady old (applyToStation old x e) validAfter range later
  rw [ends.1, ends.2, turned, start.1]
  refine ⟨rfl, ?_⟩
  cases on with
  | false => exact context.1 turns place
  | true =>
    refine (context.2 fun h => ?_).trans start.2
    have both := turns.2.2.symm.trans h.1.2.2
    cases both

end Stations

end Sys2Proof.Machine

/-! The deliveries that an application returns to their first segments, and the credits it sets. -/

namespace Sys2Proof.Machine

open Device (Writes)

variable {d x y : Device} {p q : Branch → Nat → Bool} {k : Branch} {st : Nat}

/- ### Deliveries returned, by their stations (R131) -/

/-- The class whose partial delivery is addressed to a station of a kind. -/
def Device.returnedTo (d : Device) (p : Branch → Nat → Bool) (k : Branch) : Option Class :=
  (d.seq k).delivering.filter fun c => ((d.queue k.line c).head?.bind Entry.station).any (p k)

set_option Elab.async false in
theorem returnedTo_eq {c : Class} (delivers : (d.seq k).delivering = some c) : d.returnedTo p k =
    if ((d.queue k.line c).head?.bind Entry.station).any (p k) = true then some c else none := by
  unfold Device.returnedTo
  rw [delivers]
  exact Option.filter_some ..

theorem returnedTo_idle (idle : (d.seq k).delivering = none) : d.returnedTo p k = none := by
  unfold Device.returnedTo
  rw [idle]
  rfl

/-- The second part is the first with every partial delivery to a station of a kind returned. -/
structure Device.RewoundTo (p : Branch → Nat → Bool) (d d' : Device) : Prop where
  seqs : ∀ k, d'.seq k =
    if d.returnedTo p k = none then d.seq k else { d.seq k with delivering := none }
  queues : ∀ (k : Branch) (c : Class), d'.queue k.line c =
    if d.returnedTo p k = some c then
      (d.queue k.line c).modifyHead fun e => { e with nextSegment := 1 }
    else d.queue k.line c
  trunk : ∀ c, d'.queue .t c = d.queue .t c

/-- What is returned on a branch goes by its sequencer and its queues alone. -/
theorem returned_of_same (seq : x.seq k = d.seq k) (queue : ∀ c, x.queue k.line c = d.queue k.line c) :
    x.returned k st = d.returned k st := by
  unfold Device.returned
  simp only [seq, queue]

/-- The delivery to one more station. -/
def orStation (p : Branch → Nat → Bool) (k : Branch) (st : Nat) (j : Branch) (s : Nat) : Bool :=
  p j s || decide (j = k ∧ s = st)

theorem returnedTo_orStation_other {j : Branch} (other : j ≠ k) :
    d.returnedTo (orStation p k st) j = d.returnedTo p j := by
  have same : orStation p k st j = p j := funext fun s => by
    unfold orStation
    rw [decide_eq_false fun h => other h.1, Bool.or_false]
  unfold Device.returnedTo
  rw [same]

theorem returnedTo_orStation_of_none (unreturned : d.returnedTo p k = none) :
    d.returnedTo (orStation p k st) k = d.returned k st := by
  rcases delivers : (d.seq k).delivering with _ | c
  · rw [returnedTo_idle delivers, returned_none_of_idle delivers]
  · rw [returnedTo_eq delivers] at unreturned ⊢
    rw [returned_eq delivers]
    generalize (d.queue k.line c).head?.bind Entry.station = addressed at *
    rcases addressed with _ | s
    · rfl
    · refine if_congr ?_ rfl rfl
      have unlisted : p k s = false := by
        by_contra listed
        rw [Bool.not_eq_false] at listed
        rw [Option.any_some, if_pos listed] at unreturned
        cases unreturned
      rw [Option.any_some]
      unfold orStation
      rw [unlisted, Bool.false_or, decide_eq_true_iff, Option.some_inj]
      exact and_iff_right rfl

theorem returnedTo_orStation_of_some {c : Class} (returned : d.returnedTo p k = some c) :
    d.returnedTo (orStation p k st) k = some c := by
  rcases delivers : (d.seq k).delivering with _ | c'
  · rw [returnedTo_idle delivers] at returned
    cases returned
  · rw [returnedTo_eq delivers] at returned ⊢
    generalize (d.queue k.line c').head?.bind Entry.station = addressed at *
    rcases addressed with _ | s
    · exact nomatch returned
    · rw [Option.any_some] at returned ⊢
      split at returned
      next listed =>
        unfold orStation
        rw [listed, Bool.true_or, if_pos rfl]
        exact returned
      next => cases returned

/-- One more delivery returned. -/
theorem Device.RewoundTo.andOne (before : d.RewoundTo p x) (one : x.Rewound k st y) :
    d.RewoundTo (orStation p k st) y := by
  obtain ⟨queues, seqs⟩ := one
  have elsewhere (j : Branch) (other : j ≠ k) : y.seq j = x.seq j ∧
      ∀ c, y.queue j.line c = x.queue j.line c :=
    ⟨(seqs j).trans (if_neg fun h => other h.1),
      fun c => (queues j.line c).trans (if_neg fun h => other (line_inj h.1))⟩
  have here : y.seq k = (if d.returnedTo (orStation p k st) k = none then d.seq k
        else { d.seq k with delivering := none }) ∧
      ∀ c, y.queue k.line c = if d.returnedTo (orStation p k st) k = some c then
        (d.queue k.line c).modifyHead fun e => { e with nextSegment := 1 }
        else d.queue k.line c := by
    have seq := before.seqs k
    have queue := before.queues k
    have seq' := seqs k
    have queue' := queues k.line
    rcases back : d.returnedTo p k with _ | c
    · rw [back, if_pos rfl] at seq
      have same (c : Class) : x.queue k.line c = d.queue k.line c := by
        rw [queue c, back, if_neg (fun h => nomatch h)]
      rw [returned_of_same seq same] at seq' queue'
      rw [returnedTo_orStation_of_none back]
      refine ⟨seq'.trans ?_, fun c => (queue' c).trans ?_⟩
      · rw [seq]
        by_cases none' : d.returned k st = none
        · rw [if_pos none', if_neg fun h => h.2 none']
        · rw [if_neg none', if_pos ⟨rfl, none'⟩]
      · rw [same]
        exact if_congr (and_iff_right rfl) rfl rfl
    · rw [back, if_neg (Option.some_ne_none c)] at seq
      have idle : x.returned k st = none := returned_none_of_idle (by rw [seq])
      rw [idle] at seq' queue'
      rw [returnedTo_orStation_of_some back, if_neg (Option.some_ne_none c)]
      refine ⟨(seq'.trans (if_neg fun h => h.2 rfl)).trans seq, fun b => ?_⟩
      rw [queue' b, if_neg (fun h => nomatch h.2), queue b, back]
  refine ⟨fun j => ?_, fun j c => ?_, fun c => ?_⟩
  · by_cases same : j = k
    · rw [same]
      exact here.1
    · rw [(elsewhere j same).1, returnedTo_orStation_other same]
      exact before.seqs j
  · by_cases same : j = k
    · rw [same]
      exact here.2 c
    · rw [(elsewhere j same).2, returnedTo_orStation_other same]
      exact before.queues j c
  · refine ((queues .t c).trans (if_neg fun h => ?_)).trans (before.trunk c)
    have line := h.1
    cases k <;> cases line

theorem rewoundTo_refl (d : Device) : d.RewoundTo (fun _ _ => false) d := by
  have nothing (k : Branch) : d.returnedTo (fun _ _ => false) k = none := by
    rcases delivers : (d.seq k).delivering with _ | c
    · exact returnedTo_idle delivers
    · rw [returnedTo_eq delivers]
      rcases (d.queue k.line c).head?.bind Entry.station with _ | s
      · rfl
      · rfl
  refine ⟨fun k => ?_, fun k c => ?_, fun c => rfl⟩
  · rw [nothing, if_pos rfl]
  · rw [nothing, if_neg (fun h => nomatch h)]

/- ### The entries of a list (R131) -/

section Entries

variable {old : Table StationConfig} {e : Staged} {list : List Staged}

/-- Whether an entry configures a station. -/
def Staged.configures (e : Staged) (old new : Table StationConfig) (k : Branch) (st : Nat) : Bool :=
  decide (e.unit = 4 ∧ (old.get StationConfig.powerOn e.index).configured = false ∧
    (new.get StationConfig.powerOn e.index).configured = true ∧ stationOfIndex e.index = (k, st))

theorem applyToStation_rewound (valid : e.inRange) (before : d.RewoundTo p x) :
    d.RewoundTo (fun k st => p k st || e.configures old x.tables.stations k st)
      (applyToStation old x e) := by
  have calm (h : ¬ e.turns old x.tables.stations true) {z : Device} (seqs : z.seqs = x.seqs)
      (egress : z.egress = x.egress) :
      d.RewoundTo (fun k st => p k st || e.configures old x.tables.stations k st) z := by
    have same : (fun k st => p k st || e.configures old x.tables.stations k st) = p := by
      funext k st
      unfold Staged.configures
      rw [decide_eq_false fun on => h ⟨on.1, on.2.1, on.2.2.1⟩, Bool.or_false]
    rw [same]
    refine ⟨fun k => ?_, fun k c => ?_, fun c => ?_⟩
    · exact (congrArg (PerBranch.get · k) seqs).trans (before.seqs k)
    · refine (congrArg (fun e : PerLine Egress => (e.get k.line).queues.get c) egress).trans
        (before.queues k c)
    · exact (congrArg (fun e : PerLine Egress => (e.get .t).queues.get c) egress).trans
        (before.trunk c)
  refine applyToStation_cases (old := old) valid (P := fun z => d.RewoundTo
    (fun k st => p k st || e.configures old x.tables.stations k st) z) ?_ ?_ ?_
  · intro j s place turns
    have same : (fun k st => p k st || e.configures old x.tables.stations k st) =
        orStation p j s := by
      funext k st
      unfold Staged.configures orStation
      refine congrArg (p k st || ·) (decide_eq_decide.2 ?_)
      rw [place, Prod.mk.injEq]
      exact ⟨fun on => ⟨on.2.2.2.1.symm, on.2.2.2.2.symm⟩,
        fun here => ⟨turns.1, turns.2.1, turns.2.2, here.1.symm, here.2.symm⟩⟩
    rw [same]
    have rewound := rewindDelivery_rewound j s (x.setStation j s ((x.station j s).reconfigured true))
    exact before.andOne (rewound.congr rfl rfl rfl rfl)
  · intro j s place turns
    have w := unconfigureContext_writes (x.setStation j s ((x.station j s).reconfigured false)) j s
    refine calm (fun on => ?_) w.seqs w.egress
    have both := turns.2.2.symm.trans on.2.2
    cases both
  · exact fun steady => calm (steady true) rfl rfl

theorem applyToStations_rewound (old : Table StationConfig) (d : Device)
    (valid : ∀ e ∈ list, e.inRange) :
    d.RewoundTo (fun k st => list.any fun e => e.configures old d.tables.stations k st)
      (list.foldl (applyToStation old) d) := by
  have whole : ∀ (list : List Staged) (p : Branch → Nat → Bool) (x : Device),
      (∀ e ∈ list, e.inRange) → x.tables = d.tables → d.RewoundTo p x →
      d.RewoundTo (fun k st => p k st || list.any fun e => e.configures old d.tables.stations k st)
        (list.foldl (applyToStation old) x) := by
    intro list
    induction list with
    | nil =>
      intro p x _ _ before
      simpa using before
    | cons e list ih =>
      intro p x valid tables before
      have one := applyToStation_rewound (old := old) (valid e List.mem_cons_self) before
      rw [tables] at one
      have rest := ih _ _ (fun e mem => valid e (List.mem_cons_of_mem _ mem))
        ((applyToStation_writes x e old).tables.trans tables) one
      simpa only [List.any_cons, List.foldl_cons, Bool.or_assoc] using rest
  have start := whole list (fun _ _ => false) d valid rfl (rewoundTo_refl d)
  simpa only [Bool.false_or] using start

/- ### What the stations' entries leave of a line (R92, R97, R102) -/

theorem rewindDelivery_egr (k : Branch) (st : Nat) (d : Device) (l : Line) :
    ((rewindDelivery k st d).egr l).credits = (d.egr l).credits ∧
      ((rewindDelivery k st d).egr l).release = (d.egr l).release := by
  unfold rewindDelivery
  split
  · exact ⟨rfl, rfl⟩
  · split
    · exact ⟨rfl, rfl⟩
    · split
      · exact egr_setQueue ..
      · exact ⟨rfl, rfl⟩

theorem unconfigureContext_lineCount (k : Branch) (st : Nat) (d : Device) (l : Line) :
    (unconfigureContext k st d).lineCount l .reconfigured = d.lineCount l .reconfigured := by
  unfold unconfigureContext
  split
  next c _ => exact (lineCount_abandon .unconfigured [c] d l .reconfigured).trans (if_neg (by decide))
  · rfl

set_option Elab.async false in
theorem applyToStation_line (valid : e.inRange) (l : Line) :
    ((applyToStation old d e).egr l).credits = (d.egr l).credits ∧
      ((applyToStation old d e).egr l).release = (d.egr l).release ∧
      (applyToStation old d e).lineCount l .reconfigured = d.lineCount l .reconfigured := by
  refine applyToStation_cases valid (P := fun z => (z.egr l).credits = (d.egr l).credits ∧
    (z.egr l).release = (d.egr l).release ∧
    z.lineCount l .reconfigured = d.lineCount l .reconfigured) ?_ ?_ ?_
  · intro k st _ _
    have w := rewindDelivery_writes (d.setStation k st ((d.station k st).reconfigured true)) k st
    have line := rewindDelivery_egr k st (d.setStation k st ((d.station k st).reconfigured true)) l
    exact ⟨line.1, line.2, congrArg
      (fun t : PerLine LineIf => (t.get l).counters.get 0 LineCounter.reconfigured.pos) w.lines⟩
  · intro k st _ _
    have w := unconfigureContext_writes (d.setStation k st ((d.station k st).reconfigured false)) k st
    have count := unconfigureContext_lineCount k st
      (d.setStation k st ((d.station k st).reconfigured false)) l
    exact ⟨congrArg (fun t : PerLine Egress => (t.get l).credits) w.egress,
      congrArg (fun t : PerLine Egress => (t.get l).release) w.egress, count⟩
  · exact fun _ => ⟨rfl, rfl, rfl⟩

theorem applyToStations_line (old : Table StationConfig) (d : Device)
    (valid : ∀ e ∈ list, e.inRange) (l : Line) :
    ((list.foldl (applyToStation old) d).egr l).credits = (d.egr l).credits ∧
      ((list.foldl (applyToStation old) d).egr l).release = (d.egr l).release ∧
      (list.foldl (applyToStation old) d).lineCount l .reconfigured = d.lineCount l .reconfigured :=
  List.foldlRecOn (motive := fun z : Device => (z.egr l).credits = (d.egr l).credits ∧
    (z.egr l).release = (d.egr l).release ∧
    z.lineCount l .reconfigured = d.lineCount l .reconfigured) list _ ⟨rfl, rfl, rfl⟩
    fun z h e mem => by
      obtain ⟨credits, release, count⟩ := applyToStation_line (old := old) (d := z) (valid e mem) l
      exact ⟨credits.trans h.1, release.trans h.2.1, count.trans h.2.2⟩

/- ### The credits (R92) -/

theorem applyToCredits_egr (d : Device) (e : Staged) (l : Line) : (applyToCredits d e).egr l =
    if e.unit = 5 ∧ Line.ofIndex e.index = l then
      { d.egr l with credits := Credits.ofWeights (d.settings l) } else d.egr l := by
  unfold applyToCredits
  by_cases unit : e.unit = 5
  · rw [if_pos unit]
    unfold resetCredits Device.setCredits
    by_cases here : Line.ofIndex e.index = l
    · subst here
      rw [if_pos ⟨unit, rfl⟩]
      exact PerLine.get_set_self ..
    · rw [if_neg fun h => here h.2]
      exact egr_setEgr_of_ne _ (Ne.symm here)
  · rw [if_neg unit, if_neg fun h => unit h.1]

theorem applyToCreditsAll_egr (list : List Staged) (d : Device) (l : Line) :
    (list.foldl applyToCredits d).egr l =
      if ∃ e ∈ list, e.unit = 5 ∧ Line.ofIndex e.index = l then
        { d.egr l with credits := Credits.ofWeights (d.settings l) } else d.egr l := by
  induction list generalizing d with
  | nil => simp
  | cons e list ih =>
    have settings : (applyToCredits d e).settings l = d.settings l :=
      congrArg (fun t : Tables => t.lines.get l) (applyToCredits_writes d e).tables
    rw [List.foldl_cons, ih, settings, applyToCredits_egr]
    simp only [List.exists_mem_cons_iff]
    by_cases first : e.unit = 5 ∧ Line.ofIndex e.index = l
    · simp only [first, and_self, true_or, if_true, ite_self]
    · simp only [first, false_or, if_false]

end Entries

end Sys2Proof.Machine

/-! An application as a whole: what each of its effects comes to, told against the part before. -/

namespace Sys2Proof.Machine

open Device (Writes)

variable {d : Device}

/- ### The stages of an application (R166, R167) -/

/-- The part with the list in force and the slots of the reconfigured circuits empty. -/
def Device.emptied (d : Device) : Device :=
  d.change.list.foldl (applyToSlot d.tables.circuits) d.inForce

/-- And with the meters written full. -/
def Device.filled (d : Device) : Device := d.change.list.foldl applyToMeter d.emptied

/-- And with the stations in their states. -/
def Device.manned (d : Device) : Device :=
  d.change.list.foldl (applyToStation d.tables.stations) d.filled

set_option Elab.async false in
theorem emptied_writes (d : Device) :
    Writes [.lines, .circuitCounters, .pool, .slots] d.inForce d.emptied :=
  applyToSlots_writes ..

theorem filled_writes (d : Device) : Writes [.meters] d.emptied d.filled :=
  .foldl (fun d e => applyToMeter_writes d e) d.change.list d.emptied

theorem manned_writes (d : Device) :
    Writes [.stations, .egress, .seqs, .contexts, .pool, .lines] d.filled d.manned :=
  applyToStations_writes ..

theorem credits_writes (d : Device) : Writes [.egress] d.manned (applyList d) :=
  .foldl (fun d e => applyToCredits_writes d e) d.change.list d.manned

/-- Up to the stations, an application leaves stations, contexts, queues and sequencers. -/
theorem filled_keeps (d : Device) : Writes [.lines, .circuitCounters, .pool, .slots, .meters]
    d.inForce d.filled :=
  (emptied_writes d).mono.andThen (filled_writes d)

/- ### What the list leaves of the tables (R166) -/

section Unlisted

variable {list : List Staged} {i : Nat} (t : Tables)

theorem circuit_withList (other : ∀ e ∈ list, ¬ (e.unit = 1 ∧ e.index = i)) :
    (t.withList list).circuits.find? i = t.circuits.find? i :=
  List.foldlRecOn (motive := fun x : Tables => x.circuits.find? i = t.circuits.find? i) list _ rfl
    fun x kept e mem => (circuit_withEntry x e i (other e mem)).trans kept

theorem stationConfig_withList (other : ∀ e ∈ list, ¬ (e.unit = 4 ∧ e.index = i)) :
    (t.withList list).stations.get StationConfig.powerOn i =
      t.stations.get StationConfig.powerOn i :=
  List.foldlRecOn (motive := fun x : Tables => x.stations.get StationConfig.powerOn i =
    t.stations.get StationConfig.powerOn i) list _ rfl
    fun x kept e mem => (stationConfig_withEntry x e i (other e mem)).trans kept

end Unlisted

theorem reconfigures_self (c : Option Circuit) : reconfigures c c = false := by
  cases c with
  | none => rfl
  | some c =>
    unfold reconfigures
    simp

/-- A circuit that an application reconfigures is listed. -/
theorem listed_of_reconfigured {cid : Nat}
    (changed : reconfigures (d.circuit? cid) ((applyList d).circuit? cid) = true) :
    ∃ e ∈ d.change.list, e.unit = 1 ∧ e.index = cid := by
  by_contra unlisted
  have same : (applyList d).circuit? cid = d.circuit? cid := by
    unfold Device.circuit?
    rw [(applyList_inForce d).1]
    exact circuit_withList d.tables fun e mem here => unlisted ⟨e, mem, here⟩
  rw [same, reconfigures_self] at changed
  cases changed

/- ### The slots (R102) -/

theorem applyList_slots (d : Device) : (applyList d).slots = d.emptied.slots :=
  (credits_writes d).slots.trans ((manned_writes d).slots.trans (filled_writes d).slots)

theorem inForce_circuit? (d : Device) (cid : Nat) :
    d.inForce.circuit? cid = (applyList d).circuit? cid := by
  unfold Device.circuit?
  rw [(applyList_inForce d).1]
  rfl

theorem applyList_slot (d : Device) (cid : Nat) : (applyList d).slots.find? cid =
    if reconfigures (d.circuit? cid) ((applyList d).circuit? cid) = true then none
    else d.slots.find? cid := by
  rw [applyList_slots]
  have found := applyToSlots_find? d.tables.circuits d.change.list d.inForce cid
  rw [inForce_circuit?] at found
  exact found.trans (if_congr ⟨And.right, fun changed => ⟨listed_of_reconfigured changed, changed⟩⟩
    rfl rfl)

set_option Elab.async false in
/-- An application counts RECONFIGURED once for each slot it empties. -/
theorem applyList_reconfigured (sorted : d.slots.sorted) (valid : ∀ e ∈ d.change.list, e.inRange)
    (l : Line) : (applyList d).lineCount l .reconfigured =
      (d.slots.cells.filter fun c =>
        reconfigures (d.circuit? c.1) ((applyList d).circuit? c.1) && d.slotLine? c.1 == some l).foldl
        (fun n _ => raiseCount n 1) (d.lineCount l .reconfigured) := by
  have lines : (applyList d).lineCount l .reconfigured = d.manned.lineCount l .reconfigured :=
    congrArg (fun t : PerLine LineIf => (t.get l).counters.get 0 LineCounter.reconfigured.pos)
      (credits_writes d).lines
  have filled : d.filled.lineCount l .reconfigured = d.emptied.lineCount l .reconfigured :=
    congrArg (fun t : PerLine LineIf => (t.get l).counters.get 0 LineCounter.reconfigured.pos)
      (filled_writes d).lines
  have manned : d.manned.lineCount l .reconfigured = d.filled.lineCount l .reconfigured :=
    (applyToStations_line d.tables.stations d.filled valid l).2.2
  have emptied : ∀ c ∈ d.emptied.slots.cells,
      reconfigures (d.tables.circuits.find? c.1) (d.inForce.circuit? c.1) = false := by
    intro c mem
    have found := Table.find?_of_mem ((emptied_writes d).kept.slots sorted) mem
    rw [← applyList_slots, applyList_slot] at found
    by_contra changed
    rw [Bool.not_eq_false, inForce_circuit?] at changed
    rw [if_pos (show reconfigures (d.circuit? c.1) _ = true from changed)] at found
    cases found
  rw [lines, manned, filled]
  refine (applyToSlots_counts d.tables.circuits d.change.list d.inForce sorted l emptied).trans ?_
  have same : d.inForce.reconfiguredSlot d.tables.circuits l = fun c =>
      reconfigures (d.circuit? c.1) ((applyList d).circuit? c.1) && d.slotLine? c.1 == some l :=
    funext fun c => by
      unfold Device.reconfiguredSlot
      rw [inForce_circuit?]
      rfl
  rw [same]
  rfl

/- ### The meters (R50) -/

theorem applyList_meter (d : Device) (m : Nat) : (applyList d).meterState m =
    if ∃ e ∈ d.change.list, e.unit = 2 ∧ e.index = m then
      { d.meterState m with
        committed := ((applyList d).meterSettings m).cbs,
        excess := ((applyList d).meterSettings m).ebs }
    else d.meterState m := by
  have after : (applyList d).meterState m = d.filled.meterState m :=
    congrArg (fun t : Table MeterState => t.get MeterState.powerOn m)
      ((credits_writes d).meters.trans (manned_writes d).meters)
  have before : d.emptied.meterState m = d.meterState m :=
    congrArg (fun t : Table MeterState => t.get MeterState.powerOn m) (emptied_writes d).meters
  have settings : d.emptied.meterSettings m = (applyList d).meterSettings m := by
    unfold Device.meterSettings
    rw [(emptied_writes d).tables, (applyList_inForce d).1]
    rfl
  have fold := foldl_applyToMeter d.change.list d.emptied m
  rw [settings, before] at fold
  refine (after.trans fold).trans (if_congr ?_ rfl rfl)
  simp only [List.any_eq_true, Bool.and_eq_true, beq_iff_eq]

/- ### The credits (R92, R97) -/

theorem applyList_egr (d : Device) (l : Line) : (applyList d).egr l =
    if ∃ e ∈ d.change.list, e.unit = 5 ∧ Line.ofIndex e.index = l then
      { d.manned.egr l with credits := Credits.ofWeights ((applyList d).settings l) }
    else d.manned.egr l := by
  have settings : d.manned.settings l = (applyList d).settings l :=
    (congrArg (fun t : Tables => t.lines.get l) (credits_writes d).tables).symm
  rw [← settings]
  exact applyToCreditsAll_egr d.change.list d.manned l

theorem listedLine_iff (valid : ∀ e ∈ d.change.list, e.inRange) (l : Line) :
    (∃ e ∈ d.change.list, e.unit = 5 ∧ Line.ofIndex e.index = l) ↔
      ∃ e ∈ d.change.list, e.unit = 5 ∧ e.index = l.toNat := by
  refine exists_congr fun e => and_congr_right fun mem => and_congr_right fun unit => ?_
  obtain ⟨indices, size, -, shape, below, -⟩ := valid e mem
  rw [unit] at shape
  cases shape
  exact ⟨fun h => ((ofIndex_eq_iff below l).1 h.symm).symm,
    fun h => ((ofIndex_eq_iff below l).2 h.symm).symm⟩

theorem applyList_credits (valid : ∀ e ∈ d.change.list, e.inRange) (l : Line) :
    ((∃ e ∈ d.change.list, e.unit = 5 ∧ e.index = l.toNat) →
      ((applyList d).egr l).credits = Credits.ofWeights ((applyList d).settings l)) ∧
    (¬ (∃ e ∈ d.change.list, e.unit = 5 ∧ e.index = l.toNat) →
      ((applyList d).egr l).credits = (d.egr l).credits) ∧
    ((applyList d).egr l).release = (d.egr l).release := by
  have line := applyToStations_line d.tables.stations d.filled valid l
  have before : d.filled.egr l = d.egr l := congrArg (PerLine.get · l) (filled_keeps d).egress
  rw [before] at line
  obtain ⟨credits, release, -⟩ := line
  rw [applyList_egr, ← listedLine_iff valid]
  refine ⟨fun listed => by rw [if_pos listed], fun unlisted => ?_, ?_⟩
  · rw [if_neg unlisted]
    exact credits
  · split
    · exact release
    · exact release

theorem applyList_queue (d : Device) (l : Line) (c : Class) :
    (applyList d).queue l c = d.manned.queue l c := by
  unfold Device.queue
  rw [applyList_egr]
  split
  · rfl
  · rfl

/- ### The stations (R131, R141, R153) -/

section Stations

variable (consistent : d.change.consistent) (k : Branch) {st : Nat}

theorem stationConfig_changed
    (changed : (d.stationConfig k st).configured ≠ ((applyList d).stationConfig k st).configured) :
    ∃ e ∈ d.change.list, e.unit = 4 ∧ e.index = stationIndex k st := by
  by_contra unlisted
  refine changed (congrArg StationConfig.configured ?_)
  unfold Device.stationConfig
  rw [(applyList_inForce d).1]
  exact (stationConfig_withList d.tables fun e mem here => unlisted ⟨e, mem, here⟩).symm

theorem filled_tables (d : Device) : d.filled.tables = (applyList d).tables :=
  (filled_keeps d).tables.trans (applyList_inForce d).1.symm

include consistent

/-- The entries that configure a station are those that the configuration before and after tell. -/
theorem configures_iff (st : Nat) :
    (d.change.list.any fun e => e.configures d.tables.stations d.filled.tables.stations k st) =
      decide (1 ≤ st ∧ st ≤ 30 ∧ (d.stationConfig k st).configured = false ∧
        ((applyList d).stationConfig k st).configured = true) := by
  obtain ⟨-, -, -, valid⟩ := consistent
  rw [filled_tables, Bool.eq_iff_iff, List.any_eq_true, decide_eq_true_iff]
  constructor
  · rintro ⟨e, mem, configures⟩
    obtain ⟨unit, was, becomes, place⟩ := of_decide_eq_true configures
    have range := stationOfIndex_range e.index
    rw [place] at range
    have index := (stationOfIndex_eq_iff (stationEntry_below (valid e mem) unit) range).1 place
    unfold Device.stationConfig
    rw [← index]
    exact ⟨range.1, range.2, was, becomes⟩
  · rintro ⟨low, high, was, becomes⟩
    obtain ⟨e, mem, unit, index⟩ := stationConfig_changed (d := d) k (st := st)
      (by rw [was, becomes]; exact Bool.false_ne_true)
    refine ⟨e, mem, decide_eq_true ⟨unit, ?_, ?_, ?_⟩⟩
    · rw [index]
      exact was
    · rw [index]
      exact becomes
    · exact (stationOfIndex_eq_iff (stationEntry_below (valid e mem) unit) ⟨low, high⟩).2 index

theorem applyList_deliveries :
    d.RewoundTo (fun k st => decide (1 ≤ st ∧ st ≤ 30 ∧ (d.stationConfig k st).configured = false ∧
      ((applyList d).stationConfig k st).configured = true)) (applyList d) := by
  have fold := applyToStations_rewound d.tables.stations d.filled consistent.2.2.2
  have same := funext fun k => funext fun st => configures_iff consistent k st
  rw [same] at fold
  obtain ⟨seqs, queues, trunk⟩ := fold
  have seqs' : d.filled.seqs = d.seqs := (filled_keeps d).seqs
  have egress' : d.filled.egress = d.egress := (filled_keeps d).egress
  unfold Device.returnedTo Device.queue Device.egr Device.seq at seqs queues
  unfold Device.queue Device.egr at trunk
  rw [seqs', egress'] at seqs
  rw [seqs', egress'] at queues
  rw [egress'] at trunk
  refine ⟨fun k => ?_, fun k c => ?_, fun c => ?_⟩
  · exact (congrArg (PerBranch.get · k) (credits_writes d).seqs).trans (seqs k)
  · exact (applyList_queue d k.line c).trans (queues k c)
  · exact (applyList_queue d .t c).trans (trunk c)

theorem applyList_station (range : 1 ≤ st ∧ st ≤ 30) :
    ((d.stationConfig k st).configured = ((applyList d).stationConfig k st).configured →
      (applyList d).station k st = d.station k st ∧
        (applyList d).context? k st = d.context? k st) ∧
    ∀ on, (d.stationConfig k st).configured = !on →
      ((applyList d).stationConfig k st).configured = on →
      (applyList d).station k st = (d.station k st).reconfigured on ∧
        (applyList d).context? k st = if on then d.context? k st else none := by
  obtain ⟨-, -, apart, valid⟩ := consistent
  have station : (applyList d).station k st = d.manned.station k st :=
    congrArg (fun t : Table Station => t.get Station.powerOn (stationIndex k st))
      (credits_writes d).stations
  have context : (applyList d).context? k st = d.manned.context? k st := by
    unfold Device.context?
    rw [(credits_writes d).contexts]
  have station' : d.filled.station k st = d.station k st :=
    congrArg (fun t : Table Station => t.get Station.powerOn (stationIndex k st))
      (filled_keeps d).stations
  have context' : d.filled.context? k st = d.context? k st := by
    unfold Device.context?
    rw [(filled_keeps d).contexts]
    rfl
  have told {e : Staged} (mem : e ∈ d.change.list) (unit : e.unit = 4) :
      stationOfIndex e.index = (k, st) ↔ e.index = stationIndex k st :=
    stationOfIndex_eq_iff (stationEntry_below (valid e mem) unit) range
  rw [station, context, ← station', ← context']
  refine ⟨fun same => ?_, fun on was becomes => ?_⟩
  · refine applyToStations_steady d.tables.stations d.filled valid range fun e mem on h => ?_
    obtain ⟨⟨unit, was, becomes⟩, place⟩ := h
    have index := (told mem unit).1 place
    rw [index, filled_tables] at becomes
    rw [index] at was
    have both := (was.symm.trans same).trans becomes
    cases on <;> cases both
  · obtain ⟨e, mem, unit, index⟩ := stationConfig_changed (d := d) k (st := st)
      (by rw [was, becomes]; cases on <;> decide)
    refine applyToStations_turned d.tables.stations d.filled valid range apart mem
      ⟨unit, ?_, ?_⟩ ((told mem unit).2 index)
    · rw [index]
      exact was
    · rw [index, filled_tables]
      exact becomes

end Stations

end Sys2Proof.Machine

/-! An armed commit at its target: the start that applies it, and what the application does. -/

namespace Sys2Proof.Machine

open Device (Writes)

set_option Elab.async false in
/-- What a READ finds after an application (R21, R166, R173). -/
theorem applyList_reads {d : Device} (consistent : d.change.consistent) {unit indices size : Nat}
    (loads : isLoadable unit = true) (shape : unitShape unit = some (indices, size)) :
    (d.tables.sized → ∀ e ∈ d.change.list, e.unit = unit →
      (applyList d).readEntry unit e.index = e.readsBack size) ∧
    ∀ i, i < indices → ¬ (∃ e ∈ d.change.list, e.unit = unit ∧ e.index = i) →
      (applyList d).readEntry unit i = d.readEntry unit i := by
  obtain ⟨-, -, apart, valid⟩ := consistent
  have read (i : Nat) : (applyList d).readEntry unit i =
      (d.under (d.tables.withList d.change.list)).readEntry unit i :=
    readEntry_of_tables (applyList_inForce d).1 loads i
  refine ⟨fun sized e mem same => ?_, fun i below unlisted => ?_⟩
  · subst same
    exact (read e.index).trans (readEntry_withList_self sized valid apart mem shape)
  · exact (read i).trans (readEntry_withList_other loads shape below valid
      (fun e mem here => unlisted ⟨e, mem, here⟩) d.tables)

/-- An application leaves the rest of the part. -/
theorem applyList_frame (d : Device) : applyList d =
    { d with
      tables := (applyList d).tables, change := (applyList d).change,
      lines := (applyList d).lines, meters := (applyList d).meters,
      circuitCounters := (applyList d).circuitCounters, pool := (applyList d).pool,
      egress := (applyList d).egress, slots := (applyList d).slots, seqs := (applyList d).seqs,
      stations := (applyList d).stations, contexts := (applyList d).contexts } := by
  have w := applyList_writes d
  refine w.eq_of fun f => ?_
  have queued := w.same .queued (by decide)
  have cores := w.same .cores (by decide)
  cases f
  case queued => exact queued
  case cores => exact cores
  all_goals exact rfl

/-- Settles O25: the starts one by one, then the application stage by stage. -/
theorem armedCommitIsAppliedAtItsTarget : Obligations.ArmedCommitIsAppliedAtItsTarget := by
  constructor
  · intro s runs ready consistent started armed aims room applied
    have local_ : ∀ due, applied { s with dev := settle (localStart { s.dev with now := due }) } :=
      fun due => by
        obtain ⟨tables, change, before, events⟩ := localStart_applies
          (d := { s.dev with now := due }) ⟨ready.2.1, ready.2.2.1⟩ armed aims room
        generalize settle (localStart { s.dev with now := due }) = t at tables change events ⊢
        refine ⟨tables, change, before, [], ?_⟩
        rw [List.append_nil, List.append_assoc]
        exact events
    refine ⟨fun now accepts => ?_, fun locked => ?_, fun coasts => ?_⟩
    · have arrived := arrived_writes s.dev now (trunkCycle (s.dev.timer.cycle + 1))
      have ends := frameStart_applies
        (d := s.dev.arrived now (trunkCycle (s.dev.timer.cycle + 1)))
        (arrived.unasked ⟨ready.2.1, ready.2.2.1⟩)
        (by rw [arrived.change]; exact armed) (by rw [arrived.change, arrived.timer]; exact aims)
        (by rw [arrived.endpoint]; exact room)
      have event := exec_frameStart runs accepts (n := s.dev.timer.cycle + 1)
      rw [arrived.timer] at ends
      generalize settle (frameStart (s.dev.timer.cycle + 1)
        (s.dev.arrived now (trunkCycle (s.dev.timer.cycle + 1)))) = t at ends event
      rw [arrived.change, arrived.tables, arrived.endpoint] at ends
      obtain ⟨tables, change, before, events⟩ := ends
      refine ⟨_, event, tables, change, before, [], ?_⟩
      rw [List.append_nil, List.append_assoc]
      exact events
    · obtain ⟨-, early, due, window⟩ := locked_of_consistent consistent locked
      exact ⟨{ s with dev := settle (localStart { s.dev with now := due }) },
        exec_lockWindow runs window, local_ due⟩
    · have running : s.dev.timer.state = .coasting ∨ s.dev.timer.state = .free := by
        rcases state : s.dev.timer.state with _ | _ | _ | _
        · exact absurd state started
        · exact absurd state coasts
        · exact .inl rfl
        · exact .inr rfl
      obtain ⟨due, pending⟩ := (local_of_consistent consistent).2 running
      exact ⟨{ s with dev := settle (localStart { s.dev with now := due }) },
        exec_localCycle runs pending, local_ due⟩
  · intro d consistent sorted a listed reconfigured returned
    have valid := consistent.2.2.2
    have same : ∀ cid, reconfigured cid = reconfigures (d.circuit? cid) (a.circuit? cid) := by
      intro cid
      dsimp only [reconfigured]
      generalize d.circuit? cid = old
      generalize a.circuit? cid = new
      cases old with
      | none => rfl
      | some old =>
        cases new with
        | none => rfl
        | some new =>
          unfold reconfigures
          rw [Bool.eq_iff_iff]
          simp only [decide_eq_true_iff, Bool.or_eq_true, bne_iff_ne, ne_eq, or_assoc]
    have deliveries := applyList_deliveries consistent
    have back : ∀ k, returned k = d.returnedTo (fun k st => decide (1 ≤ st ∧ st ≤ 30 ∧
        (d.stationConfig k st).configured = false ∧ (a.stationConfig k st).configured = true)) k := by
      intro k
      dsimp only [returned]
      unfold Device.returnedTo
      refine congrArg (Option.filter · (d.seq k).delivering) (funext fun c => ?_)
      generalize (d.queue k.line c).head?.bind Entry.station = addressed
      cases addressed with
      | none => rfl
      | some st => rfl
    refine ⟨?_, (applyList_inForce d).2, fun unit indices size loads shape => ?_, fun m => ?_,
      fun l => applyList_credits valid l, deliveries.trunk, fun k => ⟨?_, fun c => ?_⟩,
      fun cid => ?_, fun l => ?_, fun k st low high => ?_⟩
    · have frame := applyList_frame d
      rw [(applyList_inForce d).1] at frame
      exact frame
    · exact applyList_reads consistent loads shape
    · have meter := applyList_meter d m
      exact ⟨fun here => meter.trans (if_pos here), fun other => meter.trans (if_neg other)⟩
    · rw [back]
      exact deliveries.seqs k
    · rw [back]
      exact deliveries.queues k c
    · rw [same]
      exact applyList_slot d cid
    · simp only [same]
      exact applyList_reconfigured sorted valid l
    · intro was becomes x
      obtain ⟨steady, turned⟩ := applyList_station consistent k ⟨low, high⟩
      refine ⟨steady, fun off on => ?_, fun on off => ?_⟩
      · obtain ⟨station, context⟩ := turned true off on
        exact ⟨context, station⟩
      · obtain ⟨station, context⟩ := turned false on off
        exact ⟨context, station⟩

end Sys2Proof.Machine
